-- ==== Sys2Proof/Word.lean ====
section
/-! DEFINITION. The plainest data of the model: bytes of the binary ports and characters of the control line. -/

namespace Sys2Proof

/-- One byte of the feed port, the storage port or the export line. -/
abbrev Byte := BitVec 8

/-- A run of control-line characters, each its 7-bit code (spec/10, R171). -/
abbrev Text := List Nat

/-- The codes of a literal's characters. -/
def ascii (s : String) : Text := s.toList.map Char.toNat

end Sys2Proof
end

