-- ==== Sys2Proof/Config.lean ====
section
/-! DEFINITION. What the part fixes once (the sizes and times the rules state), and the free values. -/

namespace Sys2Proof.Config

/-- Station time is a 48-bit count (R1). -/
def tickModulus : Nat := 2 ^ 48
/-- Ticks of one second of wall time (R5). -/
def ticksPerSecond : Nat := 48000
/-- Wall seconds are 32-bit (R5). -/
def wallModulus : Nat := 2 ^ 32
/-- Ticks of one untimed hour, 3600 s (R7). -/
def ticksPerHour : Nat := 172800000
/-- Consecutive divider ticks that make HOLDOVER (R3). -/
def holdoverTicks : Nat := 48
/-- Wait expiry, 5 s (R14). -/
def waitTicks : Nat := 240000
/-- Acquisition window, 1 s (R77). -/
def acquisitionTicks : Nat := 48000
/-- Frames of one sub-block (R23). -/
def subBlockFrames : Nat := 4800
/-- Sub-block powers the ring keeps (R25). -/
def ringPowers : Nat := 30
/-- Blocks a context may hold, 24 hours of samples (R32). -/
def contextBlocks : Nat := 864000
/-- Open entries a service's stack may hold (R55). -/
def stackEntries : Nat := 4
/-- Measurement contexts of the pool (R57). -/
def poolContexts : Nat := 64
/-- Services (spec/00 section 5.4). -/
def serviceCount : Nat := 16
/-- Cues of a pending cue queue (R80). -/
def cueCount : Nat := 16
/-- Highest log sequence (R121). -/
def lastSequence : Nat := 4294967295
/-- Entries of the log ring (R122). -/
def ringEntries : Nat := 2048
/-- Longest packed entry in bytes (spec/12 section 12.2). -/
def longestEntry : Nat := 1024
/-- Payload bytes of a page after its 64-byte header (R131). -/
def pagePayload : Nat := 65472
/-- Bytes of a page (R131). -/
def pageBytes : Nat := 65536
/-- A FILLING log page buffer is due after 10 s (R125). -/
def logDueTicks : Nat := 480000
/-- Log pages of the log area (R127). -/
def logPages : Nat := 4096
/-- First extent of the recording area (R131). -/
def firstExtent : Nat := 288
/-- Pages of an extent (R131). -/
def extentPages : Nat := 16
/-- Staging buffers (spec/08 section 8.3). -/
def stagingBuffers : Nat := 64
/-- Storage operation time limit, 250 ms (R139). -/
def operationTicks : Nat := 12000
/-- Consecutive failures that latch STORAGE_FAULT (R144). -/
def faultFailures : Nat := 2
/-- Holds of the hold table (R155). -/
def holdCount : Nat := 128
/-- Highest hold id and export id (spec/00 section 5.4, R165). -/
def lastId : Nat := 65535
/-- Extents or log pages of one export list (R165). -/
def exportItems : Nat := 4096
/-- Characters of the receive buffer (R172). -/
def receiveChars : Nat := 256
/-- Characters of a record's text (R171). -/
def recordChars : Nat := 160
/-- Line replies of the line-error queue (R172). -/
def lineErrorCount : Nat := 4
/-- Reports of the report queue (R177). -/
def reportCount : Nat := 32
/-- Ticks of a tenth of a second (R178). -/
def tenthTicks : Nat := 4800
/-- Seconds of a day (R146, R157). -/
def daySeconds : Nat := 86400
/-- The revision number IDN reports (R180). -/
def revision : Nat := 4
/-- Highest bin of a context's histogram (R31). -/
def topBin : Nat := 750
/-- Silence run's largest count (R35). -/
def silenceBlocks : Nat := 1200
/-- Low-water mark that FMT sets when it names none (R145, R188). -/
def defaultLowWater : Nat := 32

/-- FREE VALUE (DESIGN CHOICE, log entry 3): which extent state, as a code, a mount takes from an extent record whose
state code lies outside 0..4. No rule of spec/11 or spec/12 states it. The model reads the answer modulo 5. -/
opaque unstatedExtentState : Nat → Nat

/-- FREE VALUE (DESIGN CHOICE, log entry 3): the service a mount takes from an extent record whose service byte lies
outside 0..15. The model reads the answer modulo 16. -/
opaque unstatedExtentService : Nat → Nat

/-- FREE VALUE (DESIGN CHOICE, log entry 3): the page count a mount takes from an extent record whose page count lies
outside 0..16. The model reads the answer modulo 17. -/
opaque unstatedExtentPages : Nat → Nat

/-- FREE VALUE (DESIGN CHOICE, log entry 26): the wall range of a hold that is created on a request whose lower end lies
above its upper end. R106 and R164 give such a request, and R155 gives every hold from ≤ to; no rule says which range
the hold then has. The model takes the lesser of the two numbers as from and the greater as to, each at most 4294967295.
-/
opaque unstatedHoldRange : Nat → Nat → Nat × Nat

/-- FREE VALUE (DESIGN CHOICE, log entry 8): what a context's missing time holds one tick of loss after 2^48 - 1. R34 and
section 4.2 make it a 48-bit count and state no rule past its last value. The model reads the answer modulo 2^48. -/
opaque unstatedMissing : Nat → Nat

/-- FREE VALUE (DESIGN CHOICE, log entry 8): the next completion sequence after 4,294,967,295. Section 8.2 gives it the
range 1..4,294,967,295 and no rule past the last. The model reads the answer as 1 more than it is modulo 4,294,967,295. -/
opaque unstatedCompletion : Nat → Nat

/-- Highest completion sequence (section 8.2). -/
def lastCompletion : Nat := 4294967295

/-- Ticks a verdict evaluation takes at least (R102). -/
def verdictTicks : Nat := 1

end Sys2Proof.Config
end

