-- ==== Sys2Proof/Syntax.lean ====
section
/-! DEFINITION. The commands the part takes from outside, one constructor per row of spec/opcode_table.json: events on
its pins and ports, moments at which its own clocked rules fall due, completions of storage operations, and the command
records of the control line. -/

namespace Sys2Proof

/-- Pages that a mount has read from the storage device, by their address (extent × 16 + page), each from its first
byte; every byte after the given ones of a page reads 0. -/
abbrev DevicePages := List (Nat × List Byte)

/-- How the storage device ends one page operation of a mount (R139, R186). -/
inductive PageAnswer where
  /-- A read succeeded with this page. -/
  | read (page : List Byte)
  /-- A write succeeded. -/
  | written
  /-- The read or write failed. -/
  | failed
  deriving DecidableEq, Repr

/-- The three forms of EXP (R165). -/
inductive ExportForm where
  | service (svc lo hi : Nat)
  | extents (first last : Nat)
  | logPages (first count : Nat)
  deriving DecidableEq, Repr

/-- The three forms of CTQ (R184). -/
inductive ContextForm where
  | stack
  | context (depth : Nat) (part : Option Nat)
  | bins (depth bin : Nat)
  deriving DecidableEq, Repr

/-- The commands. Numbers of a record's unsigned fields are naturals, of its signed fields integers; a field whose words
the owning rule tests itself is carried as sent. -/
inductive Instr where
  -- time base
  /-- `nearDividerTick`: the edge falls within half a nominal period after the last divider tick (R2). -/
  | wordClockEdge (nearDividerTick : Bool)
  | dividerTick
  | holdoverEntry
  | hourBoundary
  -- feed port
  /-- The bytes the front end sends for one unit, header first. -/
  | feedUnit (bytes : List Byte)
  | waitExpiry (svc : Nat)
  | audioTimeoutExpiry (svc : Nat)
  -- subtitle checker and compliance unit
  | acquisitionWindowExpiry (svc slot : Nat)
  | carriageTimeoutExpiry (svc slot : Nat)
  | cueShow (svc : Nat)
  | cueEnd (svc slot : Nat)
  | subGapOpen (svc slot : Nat)
  | adTimeOpen (svc : Nat)
  | logBufferDue
  | verdictCompletion
  -- storage port and export line
  | spGrant
  | recordedWriteSuccess
  | recordedWriteFailure
  | logPageWriteDone (ok : Bool)
  | directoryWriteDone (ok : Bool)
  | storageOperationTimeout
  /-- The page as read, or none after a failed read. -/
  | exportReadDone (page : Option (List Byte))
  | exportFrameEnd
  -- supply, resets, mount
  | lowSupplyAssert
  | lowSupplyDeassert
  | powerOnReset
  | pinReset
  | rstResetApplied
  /-- The capacity the device answers with, or none when it does not answer or reports an error (R185). -/
  | probeEnd (capacity : Option Nat)
  /-- How the page operations of the mount end, from the one in flight on; the mount ends with the one that ends it
  (R186; DESIGN CHOICE, log entry 17). -/
  | mountEnd (answers : List PageAnswer)
  /-- Whether the page writes of the format succeed, from the one in flight on; the format ends with the one that ends
  it (R188; DESIGN CHOICE, log entry 17). -/
  | formatEnd (answers : List Bool)
  -- control line
  | lineCharacter (code : Byte) (framingError : Bool)
  | lineBreak
  | transmitEnd
  | watchDue (slot : Nat)
  -- verbs (spec/10 section 10.7)
  | idn
  | sta (group : Option Text)
  | svs (svc : Nat) (group : Option Text) (k : Option Nat)
  | sve (svc : Nat)
  | svd (svc : Nat)
  | prf (svc : Nat) (settings : List (Text × Text))
  | prq (svc : Nat) (keys : List Text)
  | wgt (svc sec : Nat) (b0 b1 b2 a1 a2 : Int)
  | tim (second : Nat)
  | tiq
  | mtr (svc : Nat)
  | log (sequence : Nat) (part : Option Nat)
  | lgc (sequence : Nat)
  | lgn
  | ack (svc : Nat)
  | wch (slot svc : Nat) (meter : Text) (interval : Nat)
  | wcx (slot : Nat)
  | hld (svc lo hi keep : Nat)
  | hlr (id : Nat)
  | hlq (id : Option Nat)
  | trg (slot : Nat) (event svc action : Text) (pre post : Nat)
  | trx (slot : Nat)
  | exp (form : ExportForm)
  | xab
  | exq
  | ofl
  | onl
  | sav
  | fmt (low : Option Nat)
  | rst
  | ctq (svc : Nat) (form : ContextForm)
  /-- The text of a record whose verb field is malformed or names no verb. -/
  | unknownVerb (text : Text)
  deriving DecidableEq, Repr

end Sys2Proof
end

