-- ==== Sys2Proof/Decode.lean ====
section
/-! DEFINITION. The commands that words of the opcode table spell. -/

namespace Sys2Proof

/-- The table gives no row any bits ("n_rows_with_fixed": 0), so no word spells a command (log entry 1). -/
def decodeTableWord (_nbits _w : Nat) : Option Instr := none

end Sys2Proof
end

