-- ==== Sys2Proof/Machine/State.lean ====
section
/-! DEFINITION. Everything the spec lets the part hold, as plain data, and its value after a power-on reset. Each
structure is one block of spec/00 section 3 (or one service's share of it). -/

namespace Sys2Proof.Machine

/-! ### Names the spec gives -/

/-- Part states (spec/00 section 3.2, R185). -/
inductive PartState where
  | start | mount | run
  deriving DecidableEq, Repr

/-- Causes of a restart (R185). -/
inductive ResetCause where
  | power | pin | command
  deriving DecidableEq, Repr

/-- Reference state of the time base (section 1.1). -/
inductive RefState where
  | locked | holdover
  deriving DecidableEq, Repr

/-- Feed state (R13). -/
inductive FeedState where
  | off | waiting | live | lost
  deriving DecidableEq, Repr

/-- Segment kinds (R55), in the order of the profile's per-kind keywords (R98). -/
inductive SegmentKind where
  | programme | brk | advert | promo | sponsor | other
  deriving DecidableEq, Repr

/-- Resolved subtitle requirement (R62). -/
inductive Requirement where
  | required | exempt
  deriving DecidableEq, Repr

/-- Why an entry closed (R67). -/
inductive SegmentCause where
  | ended | cascade | limit | disable
  deriving DecidableEq, Repr

/-- Context states (R57). -/
inductive ContextState where
  | free | opened | closed
  deriving DecidableEq, Repr

/-- Carriage states of a slot (section 5.2). -/
inductive Carriage where
  | absent | acquiring | carried | lapsed
  deriving DecidableEq, Repr

/-- Condition classes in the ranking of R112, highest first. -/
inductive CondClass where
  | storageFault | refLost | feedLost | deadAir | subLapsed | recordGap | adTime | subGap
  deriving DecidableEq, Repr

/-- Causes of a recorded gap (R135, R137, R109). -/
inductive GapCause where
  | staging | archiveFull | offline | fault | supply | mount | unavailable
  deriving DecidableEq, Repr

/-- Causes with which a condition closes (R109). -/
inductive CloseCause where
  | feedBack | disable | signal | feedLost | carried | slotRemoved | covered | exempt | hour | limit | timeSet | resumed
  deriving DecidableEq, Repr

/-- Gap record of a service (R138). -/
inductive GapRecord where
  | closed | intake | placement
  deriving DecidableEq, Repr

/-- Archive states (section 8.2). -/
inductive ArchiveState where
  | online | mounting | offline | unformatted | unavailable
  deriving DecidableEq, Repr

/-- Extent states (R133). -/
inductive ExtentState where
  | free | filling | complete | damaged | retired
  deriving DecidableEq, Repr

/-- Reasons of a hold (R155). -/
inductive HoldReason where
  | verdict | trigger | host
  deriving DecidableEq, Repr

/-- Reasons of a refused hold (R156). -/
inductive HoldRefusal where
  | fault | unavailable | offline | untimed | full
  deriving DecidableEq, Repr

/-- Flush state of AM (R190). -/
inductive FlushState where
  | idle | flushing | flushed
  deriving DecidableEq, Repr

/-- Log page buffer states (R125). -/
inductive BufferState where
  | empty | filling | due | full
  deriving DecidableEq, Repr

/-- Verdict checks (R103). -/
inductive Check where
  | feed | subCarriage | loudHigh | loudLow | adLoud | adShort | peak | subGap | subCover
  deriving DecidableEq, Repr

/-- Export list kinds (R165). -/
inductive ExportKind where
  | service | extent | log
  deriving DecidableEq, Repr

/-- Export outcomes (R167). -/
inductive ExportOutcome where
  | complete | aborted | offline | fault
  deriving DecidableEq, Repr

/-- Export engine states (R166). -/
inductive ExportState where
  | waiting | reading | sending
  deriving DecidableEq, Repr

/-- What the mount at a reset, an ONL or an FMT is doing (R186, R188). -/
inductive MountPhase where
  | idle
  /-- The probe of R185 is running. -/
  | probing
  /-- The steps of R186 are running on a device of the probed capacity: the pages read so far, in the order read. -/
  | reading (pages : DevicePages)
  /-- The writes of R188 are running. -/
  | formatting
  deriving DecidableEq, Repr

/-- Meters a watch may name (R178). -/
inductive Meter where
  | mom | stm | run | peak | sil | car | adt
  deriving DecidableEq, Repr

/-! ### Time base (section 1.1) -/

/-- A timed stamp's wall second and tick within the second (R5); an untimed stamp is the absence of one. -/
structure WallStamp where
  second : Nat
  tick : Nat
  deriving DecidableEq, Repr

/-- The anchor pair of the wall mapping (R6). -/
structure Anchor where
  tick : Nat
  second : Nat
  deriving DecidableEq, Repr

/-- A clock hour with its TIMED or UNTIMED mark (R7). -/
structure Hour where
  number : Nat
  timed : Bool
  deriving DecidableEq, Repr

structure TimeBase where
  stationTime : Nat
  refState : RefState
  /-- Consecutive divider ticks, 0..48 (R2, R3). -/
  dividerTicks : Nat
  /-- The wall mapping: none is UNSET. -/
  anchor : Option Anchor
  hour : Hour
  /-- Station time of the last TIM since the reset (R8). -/
  lastTim : Option Nat
  /-- Station time of the last tick taken from an edge, or 0 (R3). -/
  lastEdge : Nat
  /-- Divider ticks since the last edge taken or absorbed (R4), or since the reset (log entry 2). -/
  ticksSinceEdge : Nat
  /-- Tick of entry to HOLDOVER (R4). -/
  holdoverStart : Nat
  /-- The newest tick came from the divider, so an edge may be absorbed as its edge (R2). -/
  lastTickDivider : Bool
  deriving DecidableEq, Repr

/-! ### Service profiles (R98) -/

/-- The five coefficients of one filter section, each its value times 2^28 (R20). -/
structure Coefficients where
  b0 : Int
  b1 : Int
  b2 : Int
  a1 : Int
  a2 : Int
  deriving DecidableEq, Repr

structure Profile where
  enabled : Bool
  /-- Channel count, none while unset. -/
  channels : Option Nat
  /-- W1 to W6. -/
  weights : List Nat
  section1 : Coefficients
  section2 : Coefficients
  offset : Int
  target : Int
  tolerance : Int
  advertMargin : Int
  advertCeiling : Int
  peakCeiling : Int
  gateOffset : Int
  silenceThreshold : Int
  silenceLimit : Nat
  feedTimeout : Nat
  feedTolerance : Nat
  /-- Expected-slot mask: bit k is slot k. -/
  slotMask : Nat
  /-- Per-kind subtitle defaults in the order of SegmentKind. -/
  kindDefaults : List Requirement
  carriageTimeout : Nat
  gapLimit : Nat
  coverageMinimum : Nat
  advertLimit : Nat
  countPromos : Bool
  recording : Bool
  retention : Nat
  strict : Bool
  evidenceMargin : Nat
  holdOnFail : Bool
  keepDays : Nat
  /-- Alarm mask: bits 0 to 6 for FEED_LOST, DEAD_AIR, SUB_LAPSED, SUB_GAP, AD_TIME, RECORD_GAP, REF_LOST. -/
  alarmMask : Nat
  deriving DecidableEq, Repr

/-! ### One service's share of FI, LE, ST, SC, CU and RC -/

/-- Feed supervision (section 1.4). -/
structure Feed where
  state : FeedState
  waitStart : Nat
  lastAudio : Option Nat
  errors : Nat
  /-- MODEL'S OWN: the tick at which a PRF last changed the feed timeout of the enabled service, so that an expiry it
  makes due falls at the next tick (R14). -/
  timeoutSet : Option Nat
  deriving DecidableEq, Repr

/-- Two past inputs and two past outputs of one filter section (R21). -/
structure History where
  x1 : Int
  x2 : Int
  y1 : Int
  y2 : Int
  deriving DecidableEq, Repr

/-- The two sections of one channel. -/
structure ChannelFilter where
  first : History
  second : History
  deriving DecidableEq, Repr

/-- Loudness Engine (section 2.1). -/
structure Loudness where
  /-- Channels 1 to 6. -/
  filters : List ChannelFilter
  frameCount : Nat
  /-- Channel sums S_1 to S_6. -/
  sums : List Nat
  partialPeak : Nat
  /-- Sub-block powers, newest first. -/
  ring : List Nat
  momentary : Option Int
  shortTerm : Option Int
  peakMeter : Option Int
  silenceRun : Nat
  lossStart : Option Nat
  deriving DecidableEq, Repr

/-- One open segment (R55). -/
structure StackEntry where
  id : Nat
  kind : SegmentKind
  requirement : Requirement
  openTick : Nat
  openWall : Option WallStamp
  context : Option Nat
  deriving DecidableEq, Repr

/-- Segment stack and overflow count (section 4.1). -/
structure Segments where
  /-- INNERMOST FIRST: the head is the innermost entry, the last element the entry at depth 1. -/
  stack : List StackEntry
  overflow : Nat
  deriving DecidableEq, Repr

/-- A pending cue (R80). -/
structure Cue where
  slot : Nat
  id : Nat
  showTick : Nat
  duration : Nat
  blank : Bool
  deriving DecidableEq, Repr

/-- A showing cue (R83). -/
structure Showing where
  id : Nat
  endTick : Nat
  deriving DecidableEq, Repr

/-- One subtitle slot (section 5.1). -/
structure Slot where
  carriage : Carriage
  windowStart : Nat
  windowCount : Nat
  lastCarry : Option Nat
  lapseStart : Option Nat
  showing : Option Showing
  uncoveredSince : Nat
  lapsedOpen : Bool
  gapOpen : Bool
  deriving DecidableEq, Repr

/-- Subtitle Checker (section 5.1). -/
structure Subtitles where
  /-- Pending cues, head first. -/
  queue : List Cue
  /-- An overflow episode is OPEN. -/
  episode : Bool
  /-- Innermost requirement as last handed on; none is EMPTY. -/
  requirement : Option Requirement
  /-- Slots 0 to 3. -/
  slots : List Slot
  /-- MODEL'S OWN: the tick at which a PRF last changed the carriage timeout of the enabled service, so that an expiry
  it makes due falls at the next tick (R78). -/
  timeoutSet : Option Nat
  deriving DecidableEq, Repr

/-- Advertising tally (section 6.5). -/
structure Tally where
  hour : Hour
  start : Nat
  part : Bool
  advertTicks : Nat
  advertCount : Nat
  promoCount : Nat
  active : Bool
  deriving DecidableEq, Repr

/-- A staging buffer's page (section 8.3). -/
structure Buffer where
  service : Nat
  boot : Nat
  firstTick : Nat
  firstWall : Option WallStamp
  lastWall : Option WallStamp
  gap : Option GapCause
  payload : List Byte
  closeMark : Bool
  retryMark : Bool
  deriving DecidableEq, Repr

/-- Recorder state held per service (section 8.3). -/
structure Recorder where
  filling : Option Buffer
  intakeMark : Option GapCause
  issueMark : Option GapCause
  gapRecord : GapRecord
  deriving DecidableEq, Repr

structure Service where
  profile : Profile
  feed : Feed
  le : Loudness
  st : Segments
  sc : Subtitles
  tally : Tally
  rc : Recorder
  /-- Unacknowledged-failure flag (R108). -/
  unacknowledged : Bool
  deriving DecidableEq, Repr

/-! ### The context pool (section 4.2) -/

structure ContextFlags where
  short : Bool
  truncated : Bool
  merged : Bool
  limit : Bool
  continued : Bool
  disabled : Bool
  deriving DecidableEq, Repr

structure Context where
  state : ContextState
  service : Nat
  kind : SegmentKind
  id : Nat
  requirement : Requirement
  depth : Nat
  openTick : Nat
  openWall : Option WallStamp
  /-- Absent while OPEN. -/
  closeTick : Option Nat
  closeWall : Option WallStamp
  blockCount : Nat
  belowGate : Nat
  /-- Occupied bins with their counts, bins strictly rising, no count 0. -/
  bins : List (Nat × Nat)
  running : Option Int
  maxMomentary : Option Int
  maxShortTerm : Option Int
  peak : Int
  peakOver : Bool
  missing : Nat
  /-- Per slot 0..3. -/
  covered : List Nat
  longestGap : List Nat
  lapsed : List Nat
  reference : Option Int
  flags : ContextFlags
  cause : Option SegmentCause
  deriving DecidableEq, Repr

/-- The pool and its free list, top first (R58). -/
structure Pool where
  contexts : List Context
  free : List Nat
  deriving DecidableEq, Repr

/-! ### Compliance Unit (sections 6.2, 6.3) -/

/-- An open condition (section 6.3); service none is DEVICE. -/
structure Condition where
  cls : CondClass
  service : Option Nat
  slot : Option Nat
  cause : Option GapCause
  openTick : Nat
  openSeq : Option Nat
  deriving DecidableEq, Repr

/-- The evaluation in progress (R102): the settings it read, the integrated value and the coverage it formed. -/
structure Evaluation where
  context : Nat
  startTick : Nat
  /-- The profile as read at the start; only its "verdict start" fields are used. -/
  settings : Profile
  integrated : Option Int
  unmeasured : Bool
  /-- Slot and coverage in per mille, none is NONE, for each slot of the settings' mask. -/
  coverage : List (Nat × Option Nat)
  deriving DecidableEq, Repr

structure Compliance where
  /-- Head first. -/
  queue : List Nat
  /-- none is IDLE. -/
  engine : Option Evaluation
  /-- Open conditions in the order they opened. -/
  conditions : List Condition
  deriving DecidableEq, Repr

/-! ### Compliance Log (chapter 7) -/

/-- One slot's figures of a VERDICT entry (R105). -/
structure SlotFigures where
  slot : Nat
  covered : Nat
  lapsed : Nat
  longestGap : Nat
  coverage : Option Nat
  deriving DecidableEq, Repr

/-- The fields of a VERDICT entry (R105). -/
structure VerdictBody where
  context : Nat
  kind : SegmentKind
  id : Nat
  depth : Nat
  requirement : Requirement
  cause : Option SegmentCause
  openTick : Nat
  closeTick : Nat
  openWall : Option WallStamp
  closeWall : Option WallStamp
  flags : ContextFlags
  unmeasured : Bool
  blockCount : Nat
  belowGate : Nat
  integrated : Option Int
  running : Option Int
  maxMomentary : Option Int
  maxShortTerm : Option Int
  peak : Int
  missing : Nat
  reference : Option Int
  failed : List (Check × Option Nat)
  slots : List SlotFigures
  deriving DecidableEq, Repr

/-- Previous shutdown of a RESET entry (R187). -/
inductive Shutdown where
  | clean | unclean | unknown
  deriving DecidableEq, Repr

/-- Outcome of a mount or a format (R186, R188). -/
inductive MountOutcome where
  | online | unformatted | unavailable | formatted | failed
  deriving DecidableEq, Repr

/-- Outcome of a flush in SUPPLY_LOW (R190). -/
inductive FlushOutcome where
  | clean | fault | notOnline
  deriving DecidableEq, Repr

/-- Kind and target of a storage write (R144). -/
inductive WriteTarget where
  | directory (page : Nat)
  | log (position : Nat)
  | recorded (extent page : Nat)
  deriving DecidableEq, Repr

/-- Entry kinds with the fields of their bodies (table of R119). A field that may be absent is an Option or an empty
list; the service of an entry stands in its head. -/
inductive Body where
  | reset (cause : ResetCause) (shutdown : Shutdown) (outcome : MountOutcome) (duration : Nat)
  | mountDone (outcome : MountOutcome) (duration : Nat)
  | refLost (lastEdge : Nat)
  | refBack (length dividerTicks : Nat)
  | timeSet (previous : Option WallStamp) (second : Nat) (previousHour : Hour) (hour : Nat)
  | serviceEnabled
  | serviceDisabled
  | condOpen (cls : CondClass) (slot : Option Nat) (cause : Option GapCause)
  | condClose (cls : CondClass) (slot : Option Nat) (cause : CloseCause) (duration : Nat) (openSeq : Option Nat)
  | verdict (v : VerdictBody)
  | peakOver (context : Nat) (kind : SegmentKind) (id : Nat) (peak ceiling : Int)
  | hourTally (hour : Hour) (tenths : Nat) (part timeSet disabled : Bool)
  | segUnmeasured (kind : SegmentKind) (id depth openTick : Nat) (openWall : Option WallStamp) (closeTick : Nat)
      (cause : SegmentCause)
  | markerFaultStart (kind : SegmentKind) (id : Nat)
  | markerFaultEnd (id : Nat)
  | nestFault (kind : SegmentKind) (id count : Nat)
  | poolEmpty (kind : SegmentKind) (id depth : Nat) (continuing : Bool)
  | cueOverflow (slot id showTick : Nat)
  | holdCreated (id lo hi : Nat) (reason : HoldReason) (origin keepUntil : Option Nat) (extents : Nat)
  | holdRefused (refusal : HoldRefusal) (range : Option (Nat × Nat)) (reason : HoldReason) (origin : Option Nat)
  | holdReleased (id lo hi : Nat) (reason : HoldReason) (extents : Nat)
  | holdExpired (id lo hi : Nat) (reason : HoldReason) (extents : Nat)
  | exportDone (id : Nat) (kind : ExportKind) (items frames unreadable : Nat) (outcome : ExportOutcome)
  | extentDamaged (extent pages failedPage : Nat)
  | storageFault (target : WriteTarget)
  | storageOffline
  | storageOnline
  | supplyLow (outcome : FlushOutcome) (duration : Nat)
  | supplyOk (cancelled : Bool)
  | profileSaved
  deriving DecidableEq, Repr

/-- A log entry: head and body (R119). -/
structure Entry where
  boot : Nat
  seq : Nat
  tick : Nat
  wall : Option WallStamp
  /-- none is DEVICE. -/
  service : Option Nat
  body : Body
  deriving DecidableEq, Repr

/-- The log page buffer (R125). -/
structure LogBuffer where
  state : BufferState
  /-- Packed entries, first to last. -/
  entries : List Entry
  firstTick : Nat
  overflowed : Bool
  dropped : Bool
  deriving DecidableEq, Repr

structure LogState where
  boot : Nat
  lastSeq : Nat
  exhausted : Bool
  /-- Oldest first. -/
  ring : List Entry
  cursorSeq : Nat
  cursorPart : Nat
  buffer : LogBuffer
  nextPage : Nat
  /-- MODEL'S OWN: entries taken in the running event that TU has still to match (step 5 of R120); empty between
  commands. -/
  handed : List Entry
  deriving DecidableEq, Repr

/-! ### Archive Manager, Storage Port (chapters 8, 9, 11) -/

/-- An extent record (R133). -/
structure Extent where
  state : ExtentState
  service : Nat
  completion : Nat
  /-- First and last wall second; none is untimed. -/
  wall : Option (Nat × Nat)
  pages : Nat
  gapInside : Bool
  deriving DecidableEq, Repr

/-- A hold (R155). -/
structure Hold where
  id : Nat
  service : Nat
  lo : Nat
  hi : Nat
  reason : HoldReason
  origin : Option Nat
  keepUntil : Option Nat
  deriving DecidableEq, Repr

structure Archive where
  state : ArchiveState
  /-- Capacity N in extents, none while no device has answered. -/
  capacity : Option Nat
  /-- There is an extent table (section 8.2). -/
  hasTable : Bool
  /-- Records that are not FREE, extent numbers strictly rising; an unlisted extent is FREE. -/
  extents : List (Nat × Extent)
  /-- Free list, head first. -/
  free : List Nat
  /-- Completion order, head first. -/
  order : List Nat
  nextCompletion : Nat
  lowWater : Nat
  bootCounter : Nat
  cleanFlag : Bool
  /-- Dirty directory pages, strictly rising. -/
  dirty : List Nat
  oflPending : Bool
  /-- Hold table in ascending id. -/
  holds : List Hold
  nextHold : Nat
  flush : FlushState
  flushStart : Nat
  /-- The flush in progress or done was started by LOW_SUPPLY (R190), not by RST (R192). -/
  flushForSupply : Bool
  rstPending : Bool
  /-- The end of the =RST record, or the line break in its stead, has happened (R192). -/
  rstReplyEnded : Bool
  /-- The flush has reached FLUSHED since the RST was accepted (R192). -/
  rstFlushed : Bool
  mount : MountPhase
  mountStart : Nat
  /-- Step 4 of the mount at a reset has loaded the profiles (R185). -/
  profilesLoaded : Bool
  deriving DecidableEq, Repr

/-- Events a trigger may name (R163). -/
inductive TriggerEvent where
  | condOpen (cls : CondClass)
  | condClose (cls : CondClass)
  | verdictFail
  | peakOver
  deriving DecidableEq, Repr

inductive TriggerAction where
  | hold | report | both
  deriving DecidableEq, Repr

/-- A set trigger slot (R163); service none is ALL. -/
structure Trigger where
  event : TriggerEvent
  service : Option Nat
  action : TriggerAction
  pre : Nat
  post : Nat
  deriving DecidableEq, Repr

/-- The content of a directory page at the grant of its write (R132, R148). -/
inductive DirectoryImage where
  | header (bootCounter : Nat) (clean : Bool) (capacity lowWater nextPage : Nat)
  /-- Records that are not FREE among the page's extents. -/
  | extents (records : List (Nat × Extent))
  | holds (next : Nat) (holds : List Hold)
  | settings (profiles : List Profile) (triggers : List (Option Trigger))
  deriving DecidableEq, Repr

/-- A granted operation (R139). -/
inductive Operation where
  | directory (page : Nat) (image : DirectoryImage)
  | log (position boot : Nat) (entries : List Entry) (overflowed : Bool)
  | recorded (extent page : Nat) (buffer : Buffer)
  | exportRead (extent page : Nat)
  /-- A page read of a mount, by its address extent × 16 + page (R186). -/
  | mountRead (address : Nat)
  /-- A mount's write of page 0 (step 8 of R186). -/
  | mountWrite (image : DirectoryImage)
  /-- A directory page write of a format (R188). -/
  | formatWrite (page : Nat) (image : DirectoryImage)
  deriving DecidableEq, Repr

structure StoragePort where
  operation : Option Operation
  grantTick : Nat
  failures : Nat
  faultLatched : Bool
  deriving DecidableEq, Repr

/-! ### Trigger Unit, Export Engine (chapter 9) -/

/-- A listed extent or log page with its number of pages to send. -/
structure ExportItem where
  number : Nat
  pages : Nat
  deriving DecidableEq, Repr

/-- A frame on the export line (R166); service none is DEVICE. -/
structure Frame where
  exportId : Nat
  sequence : Nat
  service : Option Nat
  extent : Nat
  page : Nat
  unreadable : Bool
  log : Bool
  damaged : Bool
  last : Bool
  payload : List Byte
  deriving DecidableEq, Repr

/-- The current export (section 9.3). -/
structure Export where
  id : Nat
  kind : ExportKind
  service : Option Nat
  items : List ExportItem
  position : Nat
  page : Nat
  frames : Nat
  unreadable : Nat
  stop : Bool
  state : ExportState
  /-- The abort that waits for the end of the frame in progress (R169). -/
  abort : Option ExportOutcome
  frame : Option Frame
  deriving DecidableEq, Repr

structure ExportEngine where
  current : Option Export
  nextId : Nat
  last : Option (Nat × ExportOutcome)
  deriving DecidableEq, Repr

/-! ### Line Controller (chapter 10) -/

/-- A received character (R171). -/
structure LineChar where
  code : Nat
  framing : Bool
  deriving DecidableEq, Repr

/-- Faults of a record (R172). -/
inductive LineFault where
  | long | overrun
  deriving DecidableEq, Repr

/-- A set watch slot (R178). -/
structure Watch where
  service : Nat
  meter : Meter
  interval : Nat
  due : Nat
  deriving DecidableEq, Repr

structure Line where
  /-- Complete records waiting, oldest first, each with its terminator. -/
  waiting : List (List LineChar)
  /-- Characters of the record being received. -/
  current : List LineChar
  fault : Option LineFault
  /-- The only character since the last terminator was a CR that found no place in the full buffer: with an LF next the
  record is empty and is ignored (R171). -/
  crOnly : Bool
  errors : List LineFault
  reply : Option Text
  /-- The record being sent; none is IDLE. -/
  sending : Option Text
  /-- Head first. -/
  reports : List Text
  dropped : Bool
  watches : List (Option Watch)
  deriving DecidableEq, Repr

/-! ### The whole part -/

structure Part where
  state : PartState
  cause : ResetCause
  /-- The level of the LOW_SUPPLY pin. -/
  lowSupply : Bool
  deriving DecidableEq, Repr

structure State where
  part : Part
  tb : TimeBase
  /-- Bytes of the feed unit that has not yet arrived whole (R9, R193). -/
  feedBytes : List Byte
  /-- The unit in progress reaches no block: it was arriving at a reset and is lost whole (R18), or its header has
  failed check 1 and its body is discarded with it (R193). -/
  feedLost : Bool
  /-- Services 0 to 15. -/
  services : List Service
  pool : Pool
  cu : Compliance
  cl : LogState
  /-- RC's write queue, head first (section 8.3). -/
  writeQueue : List Buffer
  am : Archive
  sp : StoragePort
  /-- Trigger slots 0 to 7, none is clear. -/
  triggers : List (Option Trigger)
  ee : ExportEngine
  lc : Line
  /-- The commands that wait, first in first out. -/
  pending : List Instr
  deriving DecidableEq, Repr

/-- Reasons a command stops the model with a fault. There is none: the spec gives every command of the table an
effect, or says that it changes nothing. -/
inductive Fault where
  deriving DecidableEq, Repr

/-- Reasons the model refuses a command. -/
inductive Refusal where
  /-- Raised by exec's arm of a command that has no meaning yet; safe. No arm raises it in this model. -/
  | notModelled (mnemonic : String)
  deriving DecidableEq, Repr

/-! ### Reset values -/

/-- Pass-through coefficients (section 2.2). -/
def Coefficients.passThrough : Coefficients := ⟨2 ^ 28, 0, 0, 0, 0⟩

/-- A default profile (R98). -/
def Profile.default : Profile where
  enabled := false
  channels := none
  weights := [256, 256, 256, 361, 361, 0]
  section1 := .passThrough
  section2 := .passThrough
  offset := 0
  target := -240
  tolerance := 20
  advertMargin := 0
  advertCeiling := -160
  peakCeiling := -10
  gateOffset := -100
  silenceThreshold := -600
  silenceLimit := 10
  feedTimeout := 500
  feedTolerance := 2
  slotMask := 0
  kindDefaults := [.required, .exempt, .exempt, .exempt, .exempt, .exempt]
  carriageTimeout := 2
  gapLimit := 60
  coverageMinimum := 0
  advertLimit := 720
  countPromos := false
  recording := true
  retention := 90
  strict := true
  evidenceMargin := 30
  holdOnFail := true
  keepDays := 365
  alarmMask := 127

/-- TB after a reset (section 1.1, R18). -/
def TimeBase.reset : TimeBase where
  stationTime := 0
  refState := .locked
  dividerTicks := 0
  anchor := none
  hour := ⟨0, false⟩
  lastTim := none
  lastEdge := 0
  ticksSinceEdge := 0
  holdoverStart := 0
  lastTickDivider := false

/-- FI after a reset (section 1.4, R18). -/
def Feed.reset : Feed := ⟨.off, 0, none, 0, none⟩

def History.zero : History := ⟨0, 0, 0, 0⟩

def ChannelFilter.zero : ChannelFilter := ⟨.zero, .zero⟩

/-- LE after a reset (section 2.1, R41). -/
def Loudness.reset : Loudness where
  filters := List.replicate 6 .zero
  frameCount := 0
  sums := List.replicate 6 0
  partialPeak := 0
  ring := []
  momentary := none
  shortTerm := none
  peakMeter := none
  silenceRun := 0
  lossStart := none

/-- ST's share after a reset (section 4.1, R74). -/
def Segments.reset : Segments := ⟨[], 0⟩

/-- A slot after a reset (section 5.1). -/
def Slot.reset : Slot where
  carriage := .absent
  windowStart := 0
  windowCount := 0
  lastCarry := none
  lapseStart := none
  showing := none
  uncoveredSince := 0
  lapsedOpen := false
  gapOpen := false

/-- SC after a reset (section 5.1, R96). -/
def Subtitles.reset : Subtitles := ⟨[], false, none, List.replicate 4 .reset, none⟩

/-- A tally after a reset (section 6.5, R118). -/
def Tally.reset : Tally := ⟨⟨0, false⟩, 0, false, 0, 0, 0, false⟩

/-- RC's share after a reset (section 8.3). -/
def Recorder.reset : Recorder := ⟨none, none, none, .closed⟩

def Service.reset : Service :=
  ⟨.default, .reset, .reset, .reset, .reset, .reset, .reset, false⟩

def ContextFlags.clear : ContextFlags := ⟨false, false, false, false, false, false⟩

/-- A FREE record after a reset. R74 gives its state; its other fields are never read before ST sets them (R59): the
values are the model's (log entry 2). -/
def Context.reset : Context where
  state := .free
  service := 0
  kind := .programme
  id := 0
  requirement := .exempt
  depth := 1
  openTick := 0
  openWall := none
  closeTick := none
  closeWall := none
  blockCount := 0
  belowGate := 0
  bins := []
  running := none
  maxMomentary := none
  maxShortTerm := none
  peak := -999
  peakOver := false
  missing := 0
  covered := [0, 0, 0, 0]
  longestGap := [0, 0, 0, 0]
  lapsed := [0, 0, 0, 0]
  reference := none
  flags := .clear
  cause := none

/-- The pool after a reset: every context FREE, 0 on top of the free list (R58, R74). -/
def Pool.reset : Pool := ⟨List.replicate Config.poolContexts .reset, List.range Config.poolContexts⟩

def Compliance.reset : Compliance := ⟨[], none, []⟩

def LogBuffer.reset : LogBuffer := ⟨.empty, [], 0, false, false⟩

/-- CL after a reset (chapter 7, R129); boot number and next log page are given by the mount, 0 until then. -/
def LogState.reset : LogState where
  boot := 0
  lastSeq := 0
  exhausted := false
  ring := []
  cursorSeq := 1
  cursorPart := 1
  buffer := .reset
  nextPage := 0
  handed := []

/-- The record of a FREE extent. -/
def Extent.free : Extent := ⟨.free, 0, 0, none, 0, false⟩

/-- AM after a reset (R154, R155, R190, R192): no table and no holds until the mount builds them; the probe runs. -/
def Archive.reset : Archive where
  state := .mounting
  capacity := none
  hasTable := false
  extents := []
  free := []
  order := []
  nextCompletion := 1
  lowWater := Config.defaultLowWater
  bootCounter := 0
  cleanFlag := false
  dirty := []
  oflPending := false
  holds := []
  nextHold := 1
  flush := .idle
  flushStart := 0
  flushForSupply := false
  rstPending := false
  rstReplyEnded := false
  rstFlushed := false
  mount := .probing
  mountStart := 0
  profilesLoaded := false

/-- SP after a reset (section 8.5). -/
def StoragePort.reset : StoragePort := ⟨none, 0, 0, false⟩

/-- EE after a reset (section 9.3). -/
def ExportEngine.reset : ExportEngine := ⟨none, 1, none⟩

/-- LC after a reset or a line break (chapter 10). -/
def Line.reset : Line where
  waiting := []
  current := []
  fault := none
  crOnly := false
  errors := []
  reply := none
  sending := none
  reports := []
  dropped := false
  watches := List.replicate 8 none

/-- The part right after a power-on reset, in START (R185). -/
def State.reset : State where
  part := ⟨.start, .power, false⟩
  tb := .reset
  feedBytes := []
  feedLost := false
  services := List.replicate Config.serviceCount .reset
  pool := .reset
  cu := .reset
  cl := .reset
  writeQueue := []
  am := .reset
  sp := .reset
  triggers := List.replicate 8 none
  ee := .reset
  lc := .reset
  pending := []

end Sys2Proof.Machine
end

