-- ==== Sys2Proof/Machine/Ops.lean ====
section
/-! DEFINITION. The named operations every meaning goes through: reading and writing the parts of State, station time
and wall time, and tables kept in one canonical form. -/

namespace Sys2Proof.Machine

/-! ### Sparse tables: keys strictly rising, no entry equal to what an unlisted key reads as -/

/-- What `key` reads as; an unlisted key reads as `dflt`. -/
def tableGet {α : Type} (dflt : α) : List (Nat × α) → Nat → α
  | [], _ => dflt
  | (k, v) :: rest, key => if k = key then v else tableGet dflt rest key

/-- Writes `val` at `key`; writing `dflt` takes the key out. -/
def tableSet {α : Type} [DecidableEq α] (dflt : α) : List (Nat × α) → Nat → α → List (Nat × α)
  | [], key, val => if val = dflt then [] else [(key, val)]
  | (k, v) :: rest, key, val =>
    if key < k then (if val = dflt then (k, v) :: rest else (key, val) :: (k, v) :: rest)
    else if key = k then (if val = dflt then rest else (key, val) :: rest)
    else (k, v) :: tableSet dflt rest key val

/-- The canonical form. -/
def tableWf {α : Type} [DecidableEq α] (dflt : α) (t : List (Nat × α)) : Bool :=
  decide ((t.map Prod.fst).Pairwise (· < ·)) && t.all (fun e => decide (e.2 ≠ dflt))

/-- Joins a number to a strictly rising list, once. -/
def insertRising (n : Nat) : List Nat → List Nat
  | [] => [n]
  | m :: rest => if n < m then n :: m :: rest else if n = m then m :: rest else m :: insertRising n rest

/-- Places `x` behind every element whose key is at or below its own. -/
def insertByKey {α : Type} (key : α → Nat) (x : α) : List α → List α
  | [] => [x]
  | y :: rest => if key x < key y then x :: y :: rest else y :: insertByKey key x rest

/-- Sorts by rising key, equal keys in their order. -/
def sortByKey {α : Type} (key : α → Nat) (l : List α) : List α := l.reverse.foldr (fun x acc => insertByKey key x acc) []

/-! ### Updates of one block of State -/

def State.modPart (s : State) (f : Part → Part) : State := { s with part := f s.part }
def State.modTb (s : State) (f : TimeBase → TimeBase) : State := { s with tb := f s.tb }
def State.modSvc (s : State) (i : Nat) (f : Service → Service) : State := { s with services := s.services.modify i f }
def State.modPool (s : State) (f : Pool → Pool) : State := { s with pool := f s.pool }
def State.modCu (s : State) (f : Compliance → Compliance) : State := { s with cu := f s.cu }
def State.modCl (s : State) (f : LogState → LogState) : State := { s with cl := f s.cl }
def State.modQueue (s : State) (f : List Buffer → List Buffer) : State := { s with writeQueue := f s.writeQueue }
def State.modAm (s : State) (f : Archive → Archive) : State := { s with am := f s.am }
def State.modSp (s : State) (f : StoragePort → StoragePort) : State := { s with sp := f s.sp }
def State.modTriggers (s : State) (f : List (Option Trigger) → List (Option Trigger)) : State :=
  { s with triggers := f s.triggers }
def State.modEe (s : State) (f : ExportEngine → ExportEngine) : State := { s with ee := f s.ee }
def State.modLc (s : State) (f : Line → Line) : State := { s with lc := f s.lc }

/-- Service `i`; one that does not exist reads as at reset. -/
def State.svc (s : State) (i : Nat) : Service := s.services.getD i .reset

/-- Context `c` of the pool. -/
def State.ctx (s : State) (c : Nat) : Context := s.pool.contexts.getD c .reset

def State.modCtx (s : State) (c : Nat) (f : Context → Context) : State :=
  s.modPool fun p => { p with contexts := p.contexts.modify c f }

def State.modProfile (s : State) (i : Nat) (f : Profile → Profile) : State :=
  s.modSvc i fun v => { v with profile := f v.profile }
def State.modFeed (s : State) (i : Nat) (f : Feed → Feed) : State := s.modSvc i fun v => { v with feed := f v.feed }
def State.modLe (s : State) (i : Nat) (f : Loudness → Loudness) : State := s.modSvc i fun v => { v with le := f v.le }
def State.modSt (s : State) (i : Nat) (f : Segments → Segments) : State := s.modSvc i fun v => { v with st := f v.st }
def State.modSc (s : State) (i : Nat) (f : Subtitles → Subtitles) : State := s.modSvc i fun v => { v with sc := f v.sc }
def State.modTally (s : State) (i : Nat) (f : Tally → Tally) : State :=
  s.modSvc i fun v => { v with tally := f v.tally }
def State.modRc (s : State) (i : Nat) (f : Recorder → Recorder) : State := s.modSvc i fun v => { v with rc := f v.rc }

/-- Slot `k` of service `i`. -/
def State.slot (s : State) (i k : Nat) : Slot := (s.svc i).sc.slots.getD k .reset

def State.modSlot (s : State) (i k : Nat) (f : Slot → Slot) : State :=
  s.modSc i fun c => { c with slots := c.slots.modify k f }

/-- Marks a directory page dirty (R132, R148). -/
def State.markDirty (s : State) (page : Nat) : State := s.modAm fun a => { a with dirty := insertRising page a.dirty }

/-- The directory page that holds extent `e`'s record (R132). -/
def extentPage (e : Nat) : Nat := 1 + e / 4096

/-- The record of extent `e` (R133). -/
def State.extent (s : State) (e : Nat) : Extent := tableGet .free s.am.extents e

/-- Changes extent `e`'s record. -/
def State.setExtent (s : State) (e : Nat) (x : Extent) : State :=
  s.modAm fun a => { a with extents := tableSet .free a.extents e x }

/-! ### Station time and wall time -/

/-- Station time now. -/
def State.now (s : State) : Nat := s.tb.stationTime

/-- Ticks from tick `t` to tick `now`, station time counting modulo 2^48 (R1). -/
def elapsed (now t : Nat) : Nat := (now + Config.tickModulus - t) % Config.tickModulus

/-- `now` is at or after the tick `t`, for ticks less than half of 2^48 apart. -/
def reached (now t : Nat) : Bool := decide (elapsed now t < 2 ^ 47)

/-- `n` ticks after tick `t` (R1). -/
def laterTick (t n : Nat) : Nat := (t + n) % Config.tickModulus

/-- Wall time of station time `t` under a mapping (R5). -/
def wallOf (anchor : Option Anchor) (t : Nat) : Option WallStamp :=
  match anchor with
  | none => none
  | some a =>
    some ⟨(a.second + elapsed t a.tick / Config.ticksPerSecond) % Config.wallModulus,
      elapsed t a.tick % Config.ticksPerSecond⟩

/-- Wall time now, none while UNSET (R5). -/
def State.wallNow (s : State) : Option WallStamp := wallOf s.tb.anchor s.now

/-- The clock hour of the current tick (R7). -/
def hourOf (anchor : Option Anchor) (t : Nat) : Hour :=
  match wallOf anchor t with
  | none => ⟨t / Config.ticksPerHour, false⟩
  | some w => ⟨w.second / 3600, true⟩

/-- Services 0 to 15 in ascending order. -/
def allServices : List Nat := List.range Config.serviceCount

/-- Slots 0 to 3 in ascending order. -/
def allSlots : List Nat := List.range 4

/-- Slot `k` is in an expected-slot mask. -/
def slotExpected (mask k : Nat) : Bool := mask.testBit k && decide (k < 4)

/-- The enabled services in ascending order. -/
def State.enabledServices (s : State) : List Nat := allServices.filter fun i => (s.svc i).profile.enabled

/-! ### Clamping (spec/00 section 5.3) -/

def clampNat (lo hi n : Nat) : Nat := if n < lo then lo else if hi < n then hi else n

def clampInt (lo hi n : Int) : Int := if n < lo then lo else if hi < n then hi else n

/-- The credit target of a stack, innermost first (R30). -/
def targetOf (stack : List StackEntry) : Option Nat := stack.findSome? StackEntry.context

/-- The credit target of service `i` (R30). -/
def State.target (s : State) (i : Nat) : Option Nat := targetOf (s.svc i).st.stack

/-- The innermost entry of service `i` is open and has context NONE. -/
def State.innermostUnmeasured (s : State) (i : Nat) : Bool :=
  match (s.svc i).st.stack with
  | [] => false
  | e :: _ => e.context.isNone

/-- Buffers that are not free: filling buffers, queued buffers and the page in flight (section 8.3). -/
def State.buffersInUse (s : State) : Nat :=
  (s.services.filter fun v => v.rc.filling.isSome).length + s.writeQueue.length +
    (match s.sp.operation with
      | some (.recorded _ _ _) => 1
      | _ => 0)

def State.freeBuffers (s : State) : Nat := Config.stagingBuffers - s.buffersInUse

end Sys2Proof.Machine
end

