-- ==== Sys2Proof/Machine/Text.lean ====
section
/-! DEFINITION. How values are written on the control line and in packed log entries (spec/00 section 5.3, R174, R175),
and how a log entry is divided into parts. -/

namespace Sys2Proof.Machine

/-! ### Numbers -/

def digitsOf : Nat → Nat → Text
  | 0, _ => []
  | fuel + 1, n => if n < 10 then [48 + n] else digitsOf fuel (n / 10) ++ [48 + n % 10]

/-- A natural number in decimal (numbers of the part stay far below 10^40). -/
def natText (n : Nat) : Text := digitsOf 40 n

/-- A number in decimal with a leading minus sign where it is negative. -/
def intText (n : Int) : Text := if n < 0 then 45 :: natText n.natAbs else natText n.natAbs

/-- Words separated by one space. -/
def words : List Text → Text
  | [] => []
  | [w] => w
  | w :: rest => w ++ 32 :: words rest

/-- Members joined by commas. -/
def commas : List Text → Text
  | [] => []
  | [w] => w
  | w :: rest => w ++ 44 :: commas rest

/-- Members joined by another character. -/
def joined (sep : Nat) : List Text → Text
  | [] => []
  | [w] => w
  | w :: rest => w ++ sep :: joined sep rest

def noneText : Text := ascii "NONE"

def optText {α : Type} (f : α → Text) : Option α → Text
  | none => noneText
  | some x => f x

/-! ### Names -/

def PartState.text : PartState → Text
  | .start => ascii "START" | .mount => ascii "MOUNT" | .run => ascii "RUN"

def ResetCause.text : ResetCause → Text
  | .power => ascii "POWER" | .pin => ascii "PIN" | .command => ascii "COMMAND"

def RefState.text : RefState → Text
  | .locked => ascii "LOCKED" | .holdover => ascii "HOLDOVER"

def FeedState.text : FeedState → Text
  | .off => ascii "OFF" | .waiting => ascii "WAITING" | .live => ascii "LIVE" | .lost => ascii "LOST"

def SegmentKind.text : SegmentKind → Text
  | .programme => ascii "PROGRAMME" | .brk => ascii "BREAK" | .advert => ascii "ADVERT"
  | .promo => ascii "PROMO" | .sponsor => ascii "SPONSOR" | .other => ascii "OTHER"

def Requirement.text : Requirement → Text
  | .required => ascii "REQUIRED" | .exempt => ascii "EXEMPT"

def SegmentCause.text : SegmentCause → Text
  | .ended => ascii "END" | .cascade => ascii "CASCADE" | .limit => ascii "LIMIT" | .disable => ascii "DISABLE"

def Carriage.text : Carriage → Text
  | .absent => ascii "ABSENT" | .acquiring => ascii "ACQUIRING" | .carried => ascii "CARRIED" | .lapsed => ascii "LAPSED"

def CondClass.text : CondClass → Text
  | .storageFault => ascii "STORAGE_FAULT" | .refLost => ascii "REF_LOST" | .feedLost => ascii "FEED_LOST"
  | .deadAir => ascii "DEAD_AIR" | .subLapsed => ascii "SUB_LAPSED" | .recordGap => ascii "RECORD_GAP"
  | .adTime => ascii "AD_TIME" | .subGap => ascii "SUB_GAP"

def GapCause.text : GapCause → Text
  | .staging => ascii "STAGING" | .archiveFull => ascii "ARCHIVE_FULL" | .offline => ascii "OFFLINE"
  | .fault => ascii "FAULT" | .supply => ascii "SUPPLY" | .mount => ascii "MOUNT" | .unavailable => ascii "UNAVAILABLE"

def CloseCause.text : CloseCause → Text
  | .feedBack => ascii "FEED_BACK" | .disable => ascii "DISABLE" | .signal => ascii "SIGNAL"
  | .feedLost => ascii "FEED_LOST" | .carried => ascii "CARRIED" | .slotRemoved => ascii "SLOT_REMOVED"
  | .covered => ascii "COVERED" | .exempt => ascii "EXEMPT" | .hour => ascii "HOUR" | .limit => ascii "LIMIT"
  | .timeSet => ascii "TIME_SET" | .resumed => ascii "RESUMED"

def GapRecord.text : GapRecord → Text
  | .closed => ascii "CLOSED" | .intake => ascii "INTAKE" | .placement => ascii "PLACEMENT"

def ArchiveState.text : ArchiveState → Text
  | .online => ascii "ONLINE" | .mounting => ascii "MOUNTING" | .offline => ascii "OFFLINE"
  | .unformatted => ascii "UNFORMATTED" | .unavailable => ascii "UNAVAILABLE"

def HoldReason.text : HoldReason → Text
  | .verdict => ascii "VERDICT" | .trigger => ascii "TRIGGER" | .host => ascii "HOST"

def HoldRefusal.text : HoldRefusal → Text
  | .fault => ascii "FAULT" | .unavailable => ascii "UNAVAILABLE" | .offline => ascii "OFFLINE"
  | .untimed => ascii "UNTIMED" | .full => ascii "FULL"

def BufferState.text : BufferState → Text
  | .empty => ascii "EMPTY" | .filling => ascii "FILLING" | .due => ascii "DUE" | .full => ascii "FULL"

def Check.text : Check → Text
  | .feed => ascii "FEED" | .subCarriage => ascii "SUB_CARRIAGE" | .loudHigh => ascii "LOUD_HIGH"
  | .loudLow => ascii "LOUD_LOW" | .adLoud => ascii "AD_LOUD" | .adShort => ascii "AD_SHORT" | .peak => ascii "PEAK"
  | .subGap => ascii "SUB_GAP" | .subCover => ascii "SUB_COVER"

def ExportKind.text : ExportKind → Text
  | .service => ascii "SERVICE" | .extent => ascii "EXTENT" | .log => ascii "LOG"

def ExportOutcome.text : ExportOutcome → Text
  | .complete => ascii "COMPLETE" | .aborted => ascii "ABORTED" | .offline => ascii "OFFLINE" | .fault => ascii "FAULT"

def ExportState.text : ExportState → Text
  | .waiting => ascii "WAITING" | .reading => ascii "READING" | .sending => ascii "SENDING"

def Shutdown.text : Shutdown → Text
  | .clean => ascii "CLEAN" | .unclean => ascii "UNCLEAN" | .unknown => ascii "UNKNOWN"

def MountOutcome.text : MountOutcome → Text
  | .online => ascii "ONLINE" | .unformatted => ascii "UNFORMATTED" | .unavailable => ascii "UNAVAILABLE"
  | .formatted => ascii "FORMATTED" | .failed => ascii "FAILED"

def FlushOutcome.text : FlushOutcome → Text
  | .clean => ascii "CLEAN" | .fault => ascii "FAULT" | .notOnline => ascii "NOT_ONLINE"

def LineFault.text : LineFault → Text
  | .long => ascii "LONG" | .overrun => ascii "OVERRUN"

def Meter.text : Meter → Text
  | .mom => ascii "MOM" | .stm => ascii "STM" | .run => ascii "RUN" | .peak => ascii "PEAK" | .sil => ascii "SIL"
  | .car => ascii "CAR" | .adt => ascii "ADT"

def TriggerAction.text : TriggerAction → Text
  | .hold => ascii "HOLD" | .report => ascii "REPORT" | .both => ascii "BOTH"

def TriggerEvent.text : TriggerEvent → Text
  | .condOpen c => ascii "COND_OPEN." ++ c.text
  | .condClose c => ascii "COND_CLOSE." ++ c.text
  | .verdictFail => ascii "VERDICT_FAIL"
  | .peakOver => ascii "PEAK_OVER"

/-- A service number or DEVICE. -/
def serviceText : Option Nat → Text
  | none => ascii "DEVICE"
  | some n => natText n

def timedText (timed : Bool) : Text := if timed then ascii "TIMED" else ascii "UNTIMED"

/-- Wall second and tick within it as one value, or the word for its absence (log entry 5). -/
def wallText (absent : Text) : Option WallStamp → Text
  | none => absent
  | some w => commas [natText w.second, natText w.tick]

/-- The kind of an entry and its position in the table of R119, counting from 1 (section 12.2). -/
def Body.kind : Body → Text × Nat
  | .reset .. => (ascii "RESET", 1)
  | .mountDone .. => (ascii "MOUNT_DONE", 2)
  | .refLost .. => (ascii "REF_LOST", 3)
  | .refBack .. => (ascii "REF_BACK", 4)
  | .timeSet .. => (ascii "TIME_SET", 5)
  | .serviceEnabled => (ascii "SERVICE_ENABLED", 6)
  | .serviceDisabled => (ascii "SERVICE_DISABLED", 7)
  | .condOpen .. => (ascii "COND_OPEN", 8)
  | .condClose .. => (ascii "COND_CLOSE", 9)
  | .verdict .. => (ascii "VERDICT", 10)
  | .peakOver .. => (ascii "PEAK_OVER", 11)
  | .hourTally .. => (ascii "HOUR_TALLY", 12)
  | .segUnmeasured .. => (ascii "SEG_UNMEASURED", 13)
  | .markerFaultStart .. => (ascii "MARKER_FAULT", 14)
  | .markerFaultEnd .. => (ascii "MARKER_FAULT", 14)
  | .nestFault .. => (ascii "NEST_FAULT", 15)
  | .poolEmpty .. => (ascii "POOL_EMPTY", 16)
  | .cueOverflow .. => (ascii "CUE_OVERFLOW", 17)
  | .holdCreated .. => (ascii "HOLD_CREATED", 18)
  | .holdRefused .. => (ascii "HOLD_REFUSED", 19)
  | .holdReleased .. => (ascii "HOLD_RELEASED", 20)
  | .holdExpired .. => (ascii "HOLD_EXPIRED", 21)
  | .exportDone .. => (ascii "EXPORT_DONE", 22)
  | .extentDamaged .. => (ascii "EXTENT_DAMAGED", 23)
  | .storageFault .. => (ascii "STORAGE_FAULT", 24)
  | .storageOffline => (ascii "STORAGE_OFFLINE", 25)
  | .storageOnline => (ascii "STORAGE_ONLINE", 26)
  | .supplyLow .. => (ascii "SUPPLY_LOW", 27)
  | .supplyOk .. => (ascii "SUPPLY_OK", 28)
  | .profileSaved => (ascii "PROFILE_SAVED", 29)

/-! ### Body fields: tag and members (R175); an absent field is not listed -/

/-- One body field: its tag and the members of its value, which are joined by commas. -/
abbrev BodyItem := Nat × List Text

def item (tag : Nat) (value : Text) : BodyItem := (tag, [value])

def optItem (tag : Nat) : Option Text → List BodyItem
  | none => []
  | some t => [item tag t]

/-- A list field; an empty list is absent (log entry 5). -/
def listItem (tag : Nat) : List Text → List BodyItem
  | [] => []
  | l => [(tag, l)]

/-- The members of the flags field of VERDICT and CTQ (R105), in this order, which the spec leaves open (DESIGN CHOICE,
log entry 5). -/
def flagTexts (f : ContextFlags) (unmeasured : Bool) : List Text :=
  (if f.short then [ascii "SHORT"] else []) ++ (if unmeasured then [ascii "UNMEASURED"] else []) ++
  (if f.truncated then [ascii "TRUNCATED"] else []) ++ (if f.merged then [ascii "MERGED"] else []) ++
  (if f.limit then [ascii "LIMIT"] else []) ++ (if f.continued then [ascii "CONTINUED"] else []) ++
  (if f.disabled then [ascii "DISABLED"] else [])

def checkText (c : Check × Option Nat) : Text :=
  match c.2 with
  | none => c.1.text
  | some k => c.1.text ++ 46 :: natText k

def slotFiguresText (f : SlotFigures) : Text :=
  natText f.slot ++ 58 :: commas [natText f.covered, natText f.lapsed, natText f.longestGap, optText natText f.coverage]

/-- The kind and the target of a failed operation in STORAGE_FAULT (R144). The words of the kinds are the model's: the
spec names none in capitals (DESIGN CHOICE, log entry 5). -/
def WriteTarget.texts : WriteTarget → Text × Text
  | .directory p => (ascii "DIRECTORY", natText p)
  | .log p => (ascii "LOG", natText p)
  | .recorded e p => (ascii "RECORDED", commas [natText e, natText p])

def untimedText : Text := ascii "UNTIMED"

/-- The body fields in the order in which the kind's writing rule names them (R119, R175). The members of HOUR_TALLY's
flags (R117, R118) stand in the order PART, TIME_SET, DISABLED, which the spec leaves open (DESIGN CHOICE, log entry 5).
-/
def Body.items : Body → List BodyItem
  | .reset c sh o d => [item 1 c.text, item 2 sh.text, item 3 o.text, item 4 (natText d)]
  | .mountDone o d => [item 1 o.text, item 2 (natText d)]
  | .refLost t => [item 1 (natText t)]
  | .refBack l d => [item 1 (natText l), item 2 (natText d)]
  | .timeSet p sec ph h =>
    [item 1 (wallText (ascii "UNSET") p), item 2 (natText sec), item 3 (commas [natText ph.number, timedText ph.timed]),
      item 4 (natText h)]
  | .serviceEnabled => []
  | .serviceDisabled => []
  | .condOpen c k g => item 1 c.text :: (optItem 2 (k.map natText) ++ optItem 3 (g.map GapCause.text))
  | .condClose c k g d q =>
    item 1 c.text :: (optItem 2 (k.map natText) ++ [item 3 g.text, item 4 (natText d), item 5 (optText natText q)])
  | .verdict v =>
    [item 1 (natText v.context), item 2 v.kind.text, item 3 (natText v.id), item 4 (natText v.depth),
      item 5 v.requirement.text, item 6 (optText SegmentCause.text v.cause), item 7 (natText v.openTick),
      item 8 (natText v.closeTick), item 9 (wallText untimedText v.openWall), item 10 (wallText untimedText v.closeWall)] ++
    listItem 11 (flagTexts v.flags v.unmeasured) ++
    [item 12 (natText v.blockCount), item 13 (natText v.belowGate), item 14 (optText intText v.integrated),
      item 15 (optText intText v.running), item 16 (optText intText v.maxMomentary),
      item 17 (optText intText v.maxShortTerm), item 18 (intText v.peak), item 19 (natText v.missing)] ++
    optItem 20 (v.reference.map intText) ++
    [item 21 (if v.failed.isEmpty then ascii "PASS" else ascii "FAIL")] ++
    listItem 22 (v.failed.map checkText) ++ v.slots.map (fun f => item 23 (slotFiguresText f))
  | .peakOver c k i p m => [item 1 (natText c), item 2 k.text, item 3 (natText i), item 4 (intText p), item 5 (intText m)]
  | .hourTally h t p ts d =>
    [item 1 (commas [natText h.number, timedText h.timed]), item 2 (natText t)] ++
    listItem 3 ((if p then [ascii "PART"] else []) ++ (if ts then [ascii "TIME_SET"] else []) ++
      (if d then [ascii "DISABLED"] else []))
  | .segUnmeasured k i d t w ct c =>
    [item 1 k.text, item 2 (natText i), item 3 (natText d), item 4 (natText t), item 5 (wallText untimedText w),
      item 6 (natText ct), item 7 c.text]
  | .markerFaultStart k i => [item 1 (ascii "START"), item 2 k.text, item 3 (natText i), item 4 (ascii "DUPLICATE")]
  | .markerFaultEnd i => [item 1 (ascii "END"), item 3 (natText i), item 4 (ascii "UNKNOWN")]
  | .nestFault k i n => [item 1 k.text, item 2 (natText i), item 3 (natText n)]
  | .poolEmpty k i d c =>
    [item 1 k.text, item 2 (natText i), item 3 (natText d), item 4 (if c then ascii "CONTINUE" else ascii "OPEN")]
  | .cueOverflow k i t => [item 1 (natText k), item 2 (natText i), item 3 (natText t)]
  | .holdCreated i lo hi r o k n =>
    [item 1 (natText i), item 2 (commas [natText lo, natText hi]), item 3 r.text] ++ optItem 4 (o.map natText) ++
    [item 5 (optText natText k), item 6 (natText n)]
  | .holdRefused f rng r o =>
    [item 1 f.text,
      item 2 (match rng with
        | none => untimedText
        | some (lo, hi) => commas [natText lo, natText hi]), item 3 r.text] ++ optItem 4 (o.map natText)
  | .holdReleased i lo hi r n =>
    [item 1 (natText i), item 2 (commas [natText lo, natText hi]), item 3 r.text, item 4 (natText n)]
  | .holdExpired i lo hi r n =>
    [item 1 (natText i), item 2 (commas [natText lo, natText hi]), item 3 r.text, item 4 (natText n)]
  | .exportDone i k n f u o =>
    [item 1 (natText i), item 2 k.text, item 3 (natText n), item 4 (natText f), item 5 (natText u), item 6 o.text]
  | .extentDamaged e p f => [item 1 (natText e), item 2 (natText p), item 3 (natText f)]
  | .storageFault t => [item 1 t.texts.1, item 2 t.texts.2]
  | .storageOffline => []
  | .storageOnline => []
  | .supplyLow o d => [item 1 o.text, item 2 (natText d)]
  | .supplyOk c => if c then [item 1 (ascii "CANCELLED")] else []
  | .profileSaved => []

/-! ### Division into parts (R175) -/

def itemText (i : BodyItem) : Text := natText i.1 ++ 58 :: commas i.2

/-- The members that fit in `room` characters after the tag and its colon, at least one. -/
def membersThatFit (tag : Nat) (room : Nat) : List Text → List Text → List Text × List Text
  | taken, [] => (taken, [])
  | taken, m :: rest =>
    if taken.isEmpty || decide ((itemText (tag, taken ++ [m])).length ≤ room) then
      membersThatFit tag room (taken ++ [m]) rest
    else (taken, m :: rest)

/-- Divides fields over parts: `base` is the length of a part's head, `part` the fields the part in hand has taken. -/
def divideItems (base : Nat) : Nat → List Text → Nat → List BodyItem → List (List Text)
  | 0, part, _, _ => [part]
  | _ + 1, part, _, [] => [part]
  | fuel + 1, part, used, i :: rest =>
    if used + 1 + (itemText i).length ≤ Config.recordChars then
      divideItems base fuel (part ++ [itemText i]) (used + 1 + (itemText i).length) rest
    else if part.isEmpty then
      let (now, later) := membersThatFit i.1 (Config.recordChars - (used + 1)) [] i.2
      if later.isEmpty then
        divideItems base fuel [itemText i] (used + 1 + (itemText i).length) rest
      else [itemText (i.1, now)] :: divideItems base fuel [] base ((i.1, later) :: rest)
    else part :: divideItems base fuel [] base (i :: rest)

/-- The head's words, less the part number and the number of parts (R175). -/
def Entry.headWords (e : Entry) : List Text :=
  [natText e.boot, natText e.seq, natText e.tick] ++
  (match e.wall with
    | none => [untimedText]
    | some w => [natText w.second, natText w.tick]) ++
  [serviceText e.service, e.body.kind.1]

def logVerb : Text := ascii "=LOG"

/-- The fields of each part. -/
def Entry.parts (e : Entry) : List (List Text) :=
  let base := (words (logVerb :: e.headWords)).length + 4
  let items := e.body.items
  divideItems base (2 * (items.map fun i => i.2.length + 1).sum + 2) [] base items

/-- The reply that gives part `p` (counting from 1) of an entry (R175). -/
def Entry.partReply (e : Entry) (p : Nat) : Text :=
  words ([logVerb] ++ e.headWords ++ [natText p, natText e.parts.length] ++ e.parts.getD (p - 1) [])

/-- Bytes of a packed entry (section 12.2). -/
def Entry.packedLength (e : Entry) : Nat := 21 + (e.body.items.map fun i => 2 + (commas i.2).length).sum

/-! ### Replies and error replies (R174) -/

/-- `=VRB` and its fields. -/
def accepted (verb : Text) (fields : List Text) : Text := words ((61 :: verb) :: fields)

/-- `!VRB CODE` and its detail. -/
def refusedReply (verb code : Text) (detail : List Text) : Text := words ((33 :: verb) :: code :: detail)

def clampedMark (clamped : Bool) : List Text := if clamped then [ascii "CLAMPED"] else []

end Sys2Proof.Machine
end

