-- ==== Sys2Proof/Machine/Log.lean ====
section
/-! DEFINITION. The Compliance Log's operations (chapter 7) and the report queue they feed (R177). -/

namespace Sys2Proof.Machine

/-- A report joins the tail of the report queue, or is dropped with REPORTS-DROPPED set (R177). -/
def pushReport (r : Text) (s : State) : State :=
  s.modLc fun l =>
    if l.reports.length < Config.reportCount then { l with reports := l.reports ++ [r] } else { l with dropped := true }

/-- The `^L` report of an entry (R128, R177). -/
def logReport (e : Entry) : Text :=
  words [ascii "^L", natText e.seq, e.body.kind.1, serviceText e.service]

/-- Bytes the packed entries of the buffer take. -/
def LogBuffer.used (b : LogBuffer) : Nat := (b.entries.map Entry.packedLength).sum

/-- Packs an entry taken at `tick` (R125). -/
def LogBuffer.pack (b : LogBuffer) (tick : Nat) (e : Entry) : LogBuffer :=
  match b.state with
  | .empty => { b with state := .filling, entries := [e], firstTick := tick }
  | .filling | .due =>
    let packed := { b with entries := b.entries ++ [e] }
    if Config.pagePayload - packed.used < Config.longestEntry then { packed with state := .full } else packed
  | .full => { b with dropped := true }

/-- An entry joins the newest end of the ring; above 2048 the oldest leaves (R122). -/
def ringJoin (ring : List Entry) (e : Entry) : List Entry :=
  if ring.length < Config.ringEntries then ring ++ [e] else ring.drop 1 ++ [e]

/-- The sequence the next entry takes, none when no further entry is taken in this boot (R120, R121). -/
def State.nextSeq (s : State) : Option Nat := if s.cl.exhausted then none else some (s.cl.lastSeq + 1)

/-- The entry CL makes of a body now: the head of R119 and R120. -/
def State.entryFor (s : State) (svc : Option Nat) (b : Body) : Entry where
  boot := s.cl.boot
  seq := s.cl.lastSeq + 1
  tick := s.now
  wall := s.wallNow
  service := svc
  body := b

/-- What taking an entry does to CL (steps 1 to 4 of R120, and the hand-off to TU of step 5). -/
def LogState.take (c : LogState) (tick : Nat) (e : Entry) : LogState :=
  { c with
    lastSeq := c.lastSeq + 1
    exhausted := decide (c.lastSeq + 1 = Config.lastSequence)
    ring := ringJoin c.ring e
    buffer := c.buffer.pack tick e
    handed := c.handed ++ [e] }

/-- CL takes an entry (R120); with the exhausted mark set nothing is taken (R121). TU matches it at the end of the
event, in `fanOut`, so that the entry's `^L` report joins the queue before a `^T` report of it: R128 lets the two stand
in either order (DESIGN CHOICE, log entry 24). -/
def logTake (svc : Option Nat) (b : Body) (s : State) : State :=
  if s.cl.exhausted then s
  else pushReport (logReport (s.entryFor svc b)) (s.modCl fun c => c.take s.now (s.entryFor svc b))

/-- A group of `n` entries is about to be made: if it would need more numbers than remain it is refused whole and sets
the mark (R121). -/
def logReserve (n : Nat) (s : State) : State :=
  if Config.lastSequence - s.cl.lastSeq < n then s.modCl fun c => { c with exhausted := true } else s

/-- How many entries a rule makes: counted by making them in a boot that has just begun. -/
def entriesOf (f : State → State) (s : State) : Nat :=
  (f (s.modCl fun c => { c with lastSeq := 0, exhausted := false })).cl.lastSeq

/-- The entries of one rule are taken as one group (R121). -/
def grouped (f : State → State) (s : State) : State := f (logReserve (entriesOf f s) s)

/-- The oldest held sequence, none while the ring is empty (R122). -/
def State.oldestHeld (s : State) : Option Nat := s.cl.ring.head?.map Entry.seq

/-- The held entry with a sequence. -/
def State.heldEntry (s : State) (n : Nat) : Option Entry := s.cl.ring.find? fun e => e.seq = n

/-- CL's request to write the buffer stands (R126, R190). -/
def State.logRequest (s : State) : Bool :=
  match s.cl.buffer.state with
  | .empty => false
  | .filling => decide (s.am.flush = .flushing)
  | .due | .full => true

/-- At the grant the buffer's contents pass to the port's operation and the buffer is emptied (R126). -/
def LogBuffer.granted (b : LogBuffer) : LogBuffer :=
  { b with state := .empty, entries := [], overflowed := b.dropped, dropped := false }

end Sys2Proof.Machine
end

