-- ==== Sys2Proof/Machine/Holds.lean ====
section
/-! DEFINITION. Evidence holds (R155 to R161), capture triggers' matching (R164), and the hand-off of log entries to TU
(R128). -/

namespace Sys2Proof.Machine

/-- A wall range lo..hi meets an extent's wall range (R158). -/
def rangesMeet (lo hi first last : Nat) : Bool := decide (first ≤ hi) && decide (lo ≤ last)

/-- A hold on service `svc` over lo..hi covers an extent (R158). -/
def coversExtent (svc lo hi : Nat) (x : Extent) : Bool :=
  (decide (x.state = .complete) || decide (x.state = .damaged)) && decide (x.service = svc) &&
  (match x.wall with
    | none => false
    | some (first, last) => rangesMeet lo hi first last)

/-- COMPLETE and DAMAGED extents that a hold covers (R155). -/
def State.extentsCovered (s : State) (svc lo hi : Nat) : Nat :=
  (s.am.extents.filter fun e => coversExtent svc lo hi e.2).length

/-- The extent is in the current export list (R133). -/
def State.inExport (s : State) (e : Nat) : Bool :=
  match s.ee.current with
  | none => false
  | some x => decide (x.kind ≠ .log) && x.items.any fun i => decide (i.number = e)

/-- The hold count of an extent: holds covering it, plus 1 in the current export list (R133). It is not stored; reading
it always gives what AM's recounts give. -/
def State.holdCount (s : State) (e : Nat) : Nat :=
  (s.am.holds.filter fun h => coversExtent h.service h.lo h.hi (s.extent e)).length + (if s.inExport e then 1 else 0)

/-- A request to create a hold (R156). -/
structure HoldRequest where
  service : Nat
  lo : Nat
  hi : Nat
  reason : HoldReason
  origin : Option Nat
  keep : Nat
  untimed : Bool
  deriving DecidableEq, Repr

/-- AM's tests 1 to 3, which HLR shares (R156, R160). -/
def State.holdsBarred (s : State) : Option HoldRefusal :=
  if s.sp.faultLatched then some .fault
  else if s.am.state = .unformatted ∨ s.am.state = .unavailable then some .unavailable
  else if s.am.state = .offline ∨ s.am.state = .mounting ∨ s.am.oflPending then some .offline
  else none

/-- AM's tests in order; none when every test passes (R156). -/
def State.holdTests (s : State) (r : HoldRequest) : Option HoldRefusal :=
  match s.holdsBarred with
  | some x => some x
  | none =>
    if s.tb.anchor.isNone ∨ r.untimed then some .untimed
    else if Config.holdCount ≤ s.am.holds.length then some .full
    else none

/-- The first id at or above `next` that no hold has, counting on from 65535 to 1 (R157). -/
def freeHoldId (holds : List Hold) : Nat → Nat → Nat
  | 0, next => next
  | fuel + 1, next =>
    if holds.any (fun h => decide (h.id = next)) then
      freeHoldId holds fuel (if next = Config.lastId then 1 else next + 1)
    else next

def nextIdAfter (id : Nat) : Nat := if id = Config.lastId then 1 else id + 1

/-- The keep-until of a hold created at wall second `second` (R157). -/
def keepUntil (second keep : Nat) : Option Nat :=
  if keep = 0 then none else some (min (second + keep * Config.daySeconds) 4294967295)

/-- The wall range of the hold created on a request: the request's own; a free value with from ≤ to where the request's
lower end lies above its upper end (R106, R155, R164; DESIGN CHOICE, log entry 26). -/
def holdRange (lo hi : Nat) : Nat × Nat :=
  if lo ≤ hi then (lo, hi)
  else
    let p := Config.unstatedHoldRange lo hi
    (min (min p.1 p.2) 4294967295, min (max p.1 p.2) 4294967295)

/-- The hold a request becomes (R155, R157). -/
def State.holdFor (s : State) (r : HoldRequest) : Hold where
  id := freeHoldId s.am.holds (s.am.holds.length + 1) s.am.nextHold
  service := r.service
  lo := (holdRange r.lo r.hi).1
  hi := (holdRange r.lo r.hi).2
  reason := r.reason
  origin := r.origin
  keepUntil := keepUntil ((s.wallNow.map WallStamp.second).getD 0) r.keep

/-- AM's answer to a hold request: the refusal, or the hold created with its extent count. -/
abbrev HoldAnswer := Except HoldRefusal (Nat × Nat)

/-- AM answers a request to create a hold (R156, R157). HOLD_REFUSED carries the request's range, or untimed where the
request has the untimed mark. R159 gives an HLD none, so while the wall mapping is UNSET its range stands as sent,
although R5 speaks of untimed hold requests there (DESIGN CHOICE, log entry 24). -/
def requestHold (r : HoldRequest) (s : State) : State × HoldAnswer :=
  match s.holdTests r with
  | some x =>
    (logTake (some r.service)
      (.holdRefused x (if r.untimed then none else some (r.lo, r.hi)) r.reason r.origin) s, .error x)
  | none =>
    let h := s.holdFor r
    let n := s.extentsCovered h.service h.lo h.hi
    let s1 := s.modAm fun a => { a with holds := insertByKey Hold.id h a.holds, nextHold := nextIdAfter h.id }
    ((logTake (some r.service) (.holdCreated h.id h.lo h.hi h.reason h.origin h.keepUntil n) s1).markDirty 257,
      .ok (h.id, n))

/-- The lower end of a widened range (R106, R164). -/
def rangeLow (second margin : Nat) : Nat := second - margin

/-- The upper end of a widened range (R106, R164). -/
def rangeHigh (second margin : Nat) : Nat := min (second + margin) 4294967295

/-- Removes a hold and writes its release or expiry (R160, R161). -/
def dropHold (h : Hold) (expired : Bool) (s : State) : State :=
  let n := s.extentsCovered h.service h.lo h.hi
  let s1 := s.modAm fun a => { a with holds := a.holds.filter fun g => decide (g.id ≠ h.id) }
  (logTake (some h.service)
    (if expired then .holdExpired h.id h.lo h.hi h.reason n else .holdReleased h.id h.lo h.hi h.reason n) s1).markDirty 257

/-- The holds due at a boundary's wall second, in ascending id (R161). -/
def State.holdsDue (s : State) (second : Nat) : List Hold :=
  s.am.holds.filter fun h => match h.keepUntil with
    | none => false
    | some k => decide (k ≤ second)

/-- AM expires the due holds at a timed boundary (R161). -/
def expireHolds (second : Nat) (s : State) : State :=
  if s.am.state = .online ∧ ¬ s.am.oflPending ∧ ¬ s.sp.faultLatched then
    let due := s.holdsDue second
    due.foldl (fun t h => dropHold h true t) (logReserve due.length s)
  else s

/-- The event of a trigger fits an entry's body (R164). -/
def eventFits : TriggerEvent → Body → Bool
  | .condOpen c, .condOpen d _ _ => decide (c = d)
  | .condClose c, .condClose d _ _ _ _ => decide (c = d)
  | .verdictFail, .verdict v => !v.failed.isEmpty
  | .peakOver, .peakOver .. => true
  | _, _ => false

/-- An entry matches a slot (R164). -/
def triggerMatches (t : Trigger) (e : Entry) : Bool :=
  match e.service with
  | none => false
  | some svc => (match t.service with
      | none => true
      | some n => decide (n = svc)) && eventFits t.event e.body

/-- The hold request of a matched slot (R164). -/
def State.triggerRequest (s : State) (t : Trigger) (e : Entry) : HoldRequest :=
  let svc := e.service.getD 0
  let second := (e.wall.map WallStamp.second).getD 0
  { service := svc, lo := rangeLow second t.pre, hi := rangeHigh second t.post, reason := .trigger, origin := some e.seq,
    keep := (s.svc svc).profile.keepDays, untimed := e.wall.isNone }

/-- TU acts on one slot for one entry (R164). -/
def actOnSlot (e : Entry) (s : State) (k : Nat) : State :=
  match s.triggers.getD k none with
  | none => s
  | some t =>
    if triggerMatches t e then
      let s1 := if t.action = .hold then s else pushReport (words [ascii "^T", natText k, natText e.seq]) s
      if t.action = .report then s1 else (requestHold (s.triggerRequest t e) s1).1
    else s

/-- TU matches one entry against every set slot in ascending order; the answers to its hold requests form one group
(R121, R164). -/
def matchEntry (s : State) (e : Entry) : State := grouped (fun t => (List.range 8).foldl (actOnSlot e) t) s

/-- TU takes the entries handed on in the running event, in their order (R120 step 5, R128, R164). The HOLD entries it
causes match no slot. -/
def fanOut (s : State) : State :=
  (s.cl.handed.foldl matchEntry s).modCl fun c => { c with handed := [] }

end Sys2Proof.Machine
end

