-- ==== Sys2Proof/Machine/Flags.lean ====
section
/-! DEFINITION. The condition table, the ranking of conditions and the ALARM level (sections 6.3 and 6.4). -/

namespace Sys2Proof.Machine

/-- A condition of the table is the one of this service, class and slot. -/
def Condition.named (c : Condition) (svc : Option Nat) (cls : CondClass) (slot : Option Nat) : Bool :=
  decide (c.service = svc) && decide (c.cls = cls) && decide (c.slot = slot)

def State.findCond (s : State) (svc : Option Nat) (cls : CondClass) (slot : Option Nat) : Option Condition :=
  s.cu.conditions.find? fun c => c.named svc cls slot

/-- The condition is open. -/
def State.isOpen (s : State) (svc : Option Nat) (cls : CondClass) (slot : Option Nat) : Bool :=
  (s.findCond svc cls slot).isSome

/-- A block reports the opening of a service condition (R109): ignored for a disabled service and while it is open. -/
def openCond (svc : Nat) (cls : CondClass) (slot : Option Nat) (cause : Option GapCause) (s : State) : State :=
  if ¬ (s.svc svc).profile.enabled ∨ s.isOpen (some svc) cls slot then s
  else
    logTake (some svc) (.condOpen cls slot cause)
      (s.modCu fun u => { u with conditions := u.conditions ++ [⟨cls, some svc, slot, cause, s.now, s.nextSeq⟩] })

/-- A block reports the closing of a service condition (R109): ignored while it is not open. -/
def closeCond (svc : Nat) (cls : CondClass) (slot : Option Nat) (cause : CloseCause) (s : State) : State :=
  match s.findCond (some svc) cls slot with
  | none => s
  | some c =>
    logTake (some svc) (.condClose cls slot cause (elapsed s.now c.openTick) c.openSeq)
      (s.modCu fun u => { u with conditions := u.conditions.filter fun d => !d.named (some svc) cls slot })

/-- A device-wide condition opens with the sequence its block's entry is about to take (R110). -/
def openDevice (cls : CondClass) (s : State) : State :=
  s.modCu fun u => { u with conditions := u.conditions ++ [⟨cls, none, none, none, s.now, s.nextSeq⟩] }

/-- A device-wide condition closes (R110). -/
def closeDevice (cls : CondClass) (s : State) : State :=
  s.modCu fun u => { u with conditions := u.conditions.filter fun d => !d.named none cls none }

/-- Place in the ranking of R112, highest 1. -/
def CondClass.rank : CondClass → Nat
  | .storageFault => 1 | .refLost => 2 | .feedLost => 3 | .deadAir => 4 | .subLapsed => 5 | .recordGap => 6
  | .adTime => 7 | .subGap => 8

/-- The class's bit in an alarm mask (R98); STORAGE_FAULT is in no mask (R110). -/
def CondClass.maskBit : CondClass → Option Nat
  | .feedLost => some 0 | .deadAir => some 1 | .subLapsed => some 2 | .subGap => some 3 | .adTime => some 4
  | .recordGap => some 5 | .refLost => some 6 | .storageFault => none

/-- The open conditions that count for a service: its own, and while it is enabled the device-wide ones (R110, R112). -/
def State.conditionsOf (s : State) (i : Nat) : List Condition :=
  sortByKey (fun c => c.cls.rank * 8 + c.slot.getD 0)
    (s.cu.conditions.filter fun c =>
      decide (c.service = some i) || (c.service.isNone && (s.svc i).profile.enabled))

/-- A service's top condition (R112). -/
def State.topCondition (s : State) (i : Nat) : Option Condition := (s.conditionsOf i).head?

/-- The device top condition: highest class, then lowest service (R112). -/
def State.deviceTop (s : State) : Option Condition :=
  (sortByKey (fun c => (c.cls.rank * 32 + c.service.getD 0) * 8 + c.slot.getD 0) s.cu.conditions).head?

/-- A condition's class is in an alarm mask. -/
def inMask (mask : Nat) (cls : CondClass) : Bool :=
  match cls.maskBit with
  | none => false
  | some b => mask.testBit b

/-- A service asserts ALARM (R113). -/
def State.serviceAlarms (s : State) (i : Nat) : Bool :=
  (s.svc i).unacknowledged || (s.conditionsOf i).any fun c => inMask (s.svc i).profile.alarmMask c.cls

/-- The level of the ALARM output, derived and never held (R113). -/
def State.alarm (s : State) : Bool := s.sp.faultLatched || allServices.any s.serviceAlarms

/-! ### Advert-active (R114) -/

/-- Advert-active follows from the counts and count-promos (R114). -/
def advertActive (t : Tally) (countPromos : Bool) : Bool :=
  decide (0 < t.advertCount) || (decide (0 < t.promoCount) && countPromos)

/-- CU re-derives the advert-active state of a service (R114). -/
def deriveActive (i : Nat) (s : State) : State :=
  s.modTally i fun t => { t with active := advertActive t (s.svc i).profile.countPromos }

end Sys2Proof.Machine
end

