-- ==== Sys2Proof/Machine/Integration.lean ====
section
/-! DEFINITION. Loudness figures from exact sums (R26 to R28) and gated integration (chapter 3), with integers only.
Every logarithm is decided by comparing powers, so each figure is the one exact real arithmetic gives (R49). -/

namespace Sys2Proof.Machine

/-- The greatest `k` in `base .. base + 2 * bit - 1` that satisfies `p`, where `p` is true at `base` and once false
stays false: `bits` are the powers of two below. -/
def greatest (p : Int → Bool) : List Nat → Int → Int
  | [], k => k
  | b :: bits, k => if p (k + b) then greatest p bits (k + b) else greatest p bits k

/-- The powers of two 2^11 .. 1. -/
def searchBits : List Nat := [2048, 1024, 512, 256, 128, 64, 32, 16, 8, 4, 2, 1]

/-- `k ≤ f·log10(num/den) + 1/2`, for f = 100 or 200: that is 10^(2k − 1) ≤ (num/den)^(2f). -/
def belowRounded (f num den : Nat) (k : Int) : Bool :=
  if 0 < 2 * k - 1 then decide (10 ^ (2 * k - 1).toNat * den ^ (2 * f) ≤ num ^ (2 * f))
  else decide (den ^ (2 * f) ≤ num ^ (2 * f) * 10 ^ (1 - 2 * k).toNat)

/-- f·log10(num/den) rounded to the nearest integer, halves upward, for a positive ratio whose figure lies in
−3000..1095 (every ratio of R26, R27 and R28 does). -/
def roundedLog (f num den : Nat) : Int := greatest (belowRounded f num den) searchBits (-3000)

/-- Block loudness L of R26 over `count` powers with the given sum; none is −∞. -/
def blockLoudness (count sum : Nat) (offset : Int) : Option Int :=
  if sum = 0 then none else some (offset + roundedLog 100 sum (count * 4800 * 256 * 2 ^ 46))

/-- A loudness clamped to the momentary and short-term range (R26, R27). -/
def clampLoudness : Option Int → Int
  | none => -999
  | some l => clampInt (-999) 99 l

/-- The peak value of a magnitude (R28). -/
def peakValue (m : Nat) : Int := if m = 0 then -999 else clampInt (-999) 0 (roundedLog 200 m (2 ^ 23))

/-! ### Signs of integer combinations of powers of 10^(1/200)

The comparisons of R46 and R48 are between sums c_b·10^(b/100) and N·10^(e/200): with θ = 10^(1/200), the sign of an
integer polynomial in θ. Since θ^200 = 10 every exponent reduces to 0..199, and the reduced coefficients are all zero
exactly when the value is zero (x^200 − 10 is irreducible). A non-zero value is separated from zero by rational
approximation; 2^14 bits always suffice for the sizes of a context's histogram (log entry 4). -/

/-- Adds `a·θ^e` to reduced coefficients. -/
def addTerm (cs : List Int) (a : Int) (e : Nat) : List Int := cs.modify (e % 200) (· + a * 10 ^ (e / 200))

/-- Reduced coefficients of a sum of terms (coefficient, exponent). -/
def reduceTerms (terms : List (Int × Nat)) : List Int :=
  terms.foldl (fun cs t => addTerm cs t.1 t.2) (List.replicate 200 0)

/-- ⌊2^p·θ⌋. -/
def rootFloor (p : Nat) : Nat :=
  ((List.range (p + 1)).reverse.map fun j => 2 ^ j).foldl
    (fun r b => if (r + b) ^ 200 ≤ 10 * 2 ^ (200 * p) then r + b else r) 0

/-- 2^(200p) times an integer bound on the polynomial, the positive terms taken at `u`/2^p and the others at `v`/2^p. -/
def boundAt (p u v : Nat) (cs : List Int) : Int :=
  (cs.zipIdx.map fun (c : Int × Nat) =>
    c.1 * ((if 0 ≤ c.1 then u else v) ^ c.2 * 2 ^ (p * (200 - c.2)) : Nat)).sum

/-- The polynomial is not negative, by approximations of `2^k` bits for rising `k`. -/
def nonNegativeBy (cs : List Int) : List Nat → Bool
  | [] => true
  | p :: ps =>
    let r := rootFloor p
    if 0 < boundAt p r (r + 1) cs then true
    else if boundAt p (r + 1) r cs < 0 then false
    else nonNegativeBy cs ps

/-- A sum of terms a·θ^e is at least 0, as exact real arithmetic decides it (R49). -/
def nonNegative (terms : List (Int × Nat)) : Bool :=
  let cs := reduceTerms terms
  if cs.all (fun c => decide (c = 0)) then true
  else nonNegativeBy cs [64, 128, 256, 512, 1024, 2048, 4096, 8192, 16384]

/-! ### The procedure (R43 to R48) -/

/-- Occupied bins as terms of Σ c_b·10^(b/100)·θ^extra. -/
def binTerms (bins : List (Nat × Nat)) (extra : Nat) : List (Int × Nat) :=
  bins.map fun b => ((b.2 : Int), 2 * b.1 + extra)

def negated (terms : List (Int × Nat)) : List (Int × Nat) := terms.map fun t => (-t.1, t.2)

/-- Count of the blocks in the listed bins (R44, R47). -/
def binCount (bins : List (Nat × Nat)) : Nat := (bins.map Prod.snd).sum

/-- The threshold bin may be `t` or lower: N·10^((t − g)/100) ≥ Σ c_b·10^(b/100), which is t ≥ 10·T + 700 (R46). -/
def thresholdAt (bins : List (Nat × Nat)) (g : Int) (t : Nat) : Bool :=
  nonNegative (((binCount bins : Int), 2 * ((t : Int) - g).toNat) :: negated (binTerms bins 0))

/-- The least `t` at or above `base` that satisfies `p`, where `p` once true stays true and holds within the bits. -/
def least (p : Nat → Bool) : List Nat → Nat → Nat
  | [], t => t
  | b :: bits, t => if p (t + b - 1) then least p bits t else least p bits (t + b)

/-- Stage 3: the threshold bin (R46). -/
def thresholdBin (bins : List (Nat × Nat)) (g : Int) : Nat :=
  least (thresholdAt bins g) [512, 256, 128, 64, 32, 16, 8, 4, 2, 1] 0

/-- The result may be `r − 700` or higher: N2·10^((2r − 1)/200) ≤ Σ c_b·10^(b/100) (R48). -/
def resultAt (bins : List (Nat × Nat)) (r : Nat) : Bool :=
  decide (r ≤ Config.topBin) && nonNegative ((-(binCount bins : Int), 2 * r) :: binTerms bins 1)

/-- Stage 5: the integrated value of the admitted bins in tenths, the search running over −700..+50 (R48, R50). -/
def integratedOf (admitted : List (Nat × Nat)) : Int :=
  greatest (fun r => resultAt admitted r.toNat) [512, 256, 128, 64, 32, 16, 8, 4, 2, 1] 0 - 700

/-- Gated integration of a context's bin counts with a gate offset (R43). -/
def integrate (bins : List (Nat × Nat)) (g : Int) : Option Int :=
  if binCount bins = 0 then none
  else some (integratedOf (bins.filter fun b => decide (thresholdBin bins g ≤ b.1)))

/-! ### Coverage arithmetic (R53) -/

/-- Coverage in per mille, none is NONE (R53). -/
def coverageOf (openDuration missing covered : Nat) : Option Nat :=
  if openDuration ≤ missing then none else some (min 1000 (1000 * covered / (openDuration - missing)))

end Sys2Proof.Machine
end

