-- ==== Sys2Proof/Machine/SubtitleOps.lean ====
section
/-! DEFINITION. The Subtitle Checker's operations (chapter 5). -/

namespace Sys2Proof.Machine

/-- Ticks from the later of two past ticks to now (R89, R90, R91). -/
def sinceLater (now a b : Nat) : Nat := min (elapsed now a) (elapsed now b)

/-- A gap of `gap` ticks of slot `k` is measured in a context: the longest stays (R89, R90). -/
def Context.raiseGap (c : Context) (k gap : Nat) : Context :=
  { c with longestGap := c.longestGap.modify k (max gap) }

/-- The contexts held by a service's stack entries, innermost first. -/
def State.stackContexts (s : State) (i : Nat) : List Nat := (s.svc i).st.stack.filterMap StackEntry.context

/-- SUB_GAP of a slot closes, if SC's mark is set (R92, R93). -/
def closeGap (i k : Nat) (cause : CloseCause) (s : State) : State :=
  if (s.slot i k).gapOpen then
    closeCond i .subGap (some k) cause (s.modSlot i k fun t => { t with gapOpen := false })
  else s

/-- SUB_LAPSED of a slot closes, if SC's mark is set (R79, R93). -/
def closeLapsed (i k : Nat) (cause : CloseCause) (s : State) : State :=
  if (s.slot i k).lapsedOpen then
    closeCond i .subLapsed (some k) cause (s.modSlot i k fun t => { t with lapsedOpen := false })
  else s

/-- The overflow episode closes once the queue holds fewer than 16 cues (R82). -/
def Subtitles.closeEpisode (c : Subtitles) : Subtitles :=
  if c.queue.length < Config.cueCount then { c with episode := false } else c

/-! ### Carriage (section 5.2) -/

/-- A CARRY unit's effect on the slot's own state (R76, R78, R79). -/
def Slot.carry (t : Slot) (now : Nat) : Slot :=
  match t.carriage with
  | .absent => { t with carriage := .acquiring, windowStart := now, windowCount := 1, lastCarry := some now }
  | .acquiring =>
    if t.windowCount + 1 = 3 then { t with carriage := .carried, windowCount := 0, lastCarry := some now }
    else { t with windowCount := t.windowCount + 1, lastCarry := some now }
  | .carried => { t with lastCarry := some now }
  | .lapsed => { t with carriage := .carried, lastCarry := some now, lapseStart := none }

/-- A CARRY unit for slot `k` (R76, R78, R79). -/
def carryUnit (i k : Nat) (s : State) : State :=
  closeLapsed i k .carried (s.modSlot i k fun t => t.carry s.now)

/-- The acquisition window of a slot expires (R77). -/
def Slot.loseAcquisition (t : Slot) : Slot := { t with carriage := .absent, windowCount := 0 }

/-- A slot's carriage times out (R78). -/
def lapseSlot (i k : Nat) (s : State) : State :=
  openCond i .subLapsed (some k) none
    (s.modSlot i k fun t => { t with carriage := .lapsed, lapseStart := some s.now, lapsedOpen := true })

/-! ### The pending cue queue (section 5.3) -/

/-- Places a cue behind every cue whose show time is at or before its own (R81). -/
def placeCue (c : Cue) : List Cue → List Cue
  | [] => [c]
  | d :: rest => if reached c.showTick d.showTick then d :: placeCue c rest else c :: d :: rest

def Cue.named (c : Cue) (slot id : Nat) : Bool := decide (c.slot = slot) && decide (c.id = id)

/-- The cue of a CUE unit arriving at `now` (R81). -/
def cueOf (now slot id offset duration chars : Nat) : Cue where
  slot := slot
  id := id
  showTick := laterTick now (offset * 480)
  duration := duration * 480
  blank := decide (chars = 0)

/-- A refused cue starts an overflow episode if none is open (R82). -/
def refuseCue (i : Nat) (c : Cue) (s : State) : State :=
  if (s.svc i).sc.episode then s
  else logTake (some i) (.cueOverflow c.slot c.id c.showTick) (s.modSc i fun x => { x with episode := true })

/-- A CUE unit (R81). -/
def cueUnit (i : Nat) (c : Cue) (s : State) : State :=
  let q := (s.svc i).sc.queue
  if q.any (fun d => d.named c.slot c.id) then
    s.modSc i fun x => { x with queue := placeCue c (q.filter fun d => !d.named c.slot c.id) }
  else if q.length < Config.cueCount then s.modSc i fun x => { x with queue := placeCue c q }
  else refuseCue i c s

/-! ### Showing cues (section 5.4) -/

/-- The slot's showing cue ends now (R83, R84, R85). -/
def uncover (i k : Nat) (s : State) : State :=
  s.modSlot i k fun t => { t with showing := none, uncoveredSince := s.now }

/-- When coverage of a slot starts, the longest gap of every context in the stack is updated (R90). -/
def measureGaps (i k : Nat) (s : State) : State :=
  (s.stackContexts i).foldl (fun t c =>
    t.modCtx c fun x => x.raiseGap k (sinceLater s.now (s.slot i k).uncoveredSince x.openTick)) s

/-- Coverage of a slot that shows nothing starts (R83, R90, R92). -/
def startCoverage (i k : Nat) (sh : Showing) (s : State) : State :=
  closeGap i k .covered ((measureGaps i k s).modSlot i k fun t => { t with showing := some sh })

/-- A cue reaches its show time (R83). -/
def showCue (i : Nat) (c : Cue) (s : State) : State :=
  if c.blank then
    if (s.slot i c.slot).showing.isSome then uncover i c.slot s else s
  else
    let sh : Showing := ⟨c.id, laterTick c.showTick c.duration⟩
    if (s.slot i c.slot).showing.isSome then s.modSlot i c.slot fun t => { t with showing := some sh }
    else startCoverage i c.slot sh s

/-- The head cue leaves the queue and its slot changes (R83). -/
def showHead (i : Nat) (s : State) : State :=
  match (s.svc i).sc.queue with
  | [] => s
  | c :: rest =>
    if reached s.now c.showTick then
      showCue i c (s.modSc i fun x => Subtitles.closeEpisode { x with queue := rest })
    else s

/-- A CLEAR unit (R85). -/
def clearUnit (i k id : Nat) (s : State) : State :=
  let s1 := match (s.slot i k).showing with
    | none => s
    | some sh => if sh.id = id then uncover i k s else s
  s1.modSc i fun x => Subtitles.closeEpisode { x with queue := x.queue.filter fun d => !d.named k id }

/-! ### Gaps and the neighbours' hand-offs (sections 5.5, 5.6) -/

/-- SC brings a closing context's longest gaps up to the close (R89). Covered and lapsed ticks stand up to date at
every tick (see `accrueTick`). -/
def settleContext (i c : Nat) (s : State) : State :=
  allSlots.foldl (fun t k =>
    if slotExpected (s.svc i).profile.slotMask k ∧ (s.slot i k).showing.isNone then
      t.modCtx c fun x => x.raiseGap k (sinceLater s.now (s.slot i k).uncoveredSince x.openTick)
    else t) s

/-- Every open SUB_GAP of a service closes with cause EXEMPT, as one group (R92, R121). The slots are taken in ascending
order: the spec gives none (DESIGN CHOICE, log entry 24). -/
def closeGaps (i : Nat) (s : State) : State :=
  grouped (fun u => allSlots.foldl (fun t k => closeGap i k .exempt t) u) s

/-- ST hands the innermost requirement to SC (R70, R92). -/
def handRequirement (i : Nat) (s : State) : State :=
  let req := (s.svc i).st.stack.head?.map StackEntry.requirement
  let s1 := s.modSc i fun c => { c with requirement := req }
  if req = some .required then s1 else closeGaps i s1

/-- The open station time of the innermost entry's context, or of the entry itself (R91). -/
def State.gapOrigin (s : State) (i : Nat) : Nat :=
  match (s.svc i).st.stack with
  | [] => 0
  | e :: _ => match e.context with
    | none => e.openTick
    | some c => (s.ctx c).openTick

/-- The current gap of a slot (R91). -/
def State.currentGap (s : State) (i k : Nat) : Nat :=
  sinceLater s.now (s.slot i k).uncoveredSince (s.gapOrigin i)

/-- Every condition of R91 for the opening of SUB_GAP holds. -/
def State.gapDue (s : State) (i k : Nat) : Bool :=
  decide ((s.svc i).sc.requirement = some .required) && slotExpected (s.svc i).profile.slotMask k &&
  decide ((s.slot i k).carriage = .carried) && (s.slot i k).showing.isNone && !(s.slot i k).gapOpen &&
  decide ((s.svc i).profile.gapLimit * Config.ticksPerSecond < s.currentGap i k)

/-- A slot leaves the expected-slot mask of an enabled service (R93). SUB_LAPSED closes before SUB_GAP: the spec gives
no order. The acquisition window's start tick stays: R93 does not name it (DESIGN CHOICE, log entry 24). -/
def removeSlot (i k : Nat) (s : State) : State :=
  let s1 := if (s.slot i k).showing.isSome then uncover i k s else s
  let s2 := s1.modSc i fun x => Subtitles.closeEpisode { x with queue := x.queue.filter fun d => decide (d.slot ≠ k) }
  let s3 := s2.modSlot i k fun t =>
    { t with carriage := .absent, windowCount := 0, lastCarry := none, lapseStart := none }
  closeGap i k .slotRemoved (closeLapsed i k .slotRemoved s3)

/-- A slot joins the mask (R93). -/
def joinSlot (i k : Nat) (s : State) : State :=
  s.modSlot i k fun t => { t with carriage := .absent, showing := none, uncoveredSince := s.now }

/-- How many COND_CLOSE entries the removal of a slot writes (R93, R121). -/
def State.removalEntries (s : State) (i k : Nat) : Nat :=
  (if (s.slot i k).lapsedOpen ∧ s.isOpen (some i) .subLapsed (some k) then 1 else 0) +
  (if (s.slot i k).gapOpen ∧ s.isOpen (some i) .subGap (some k) then 1 else 0)

/-- The slots that leave the mask. -/
def State.removedSlots (s : State) (i old : Nat) : List Nat :=
  allSlots.filter fun k => slotExpected old k && !slotExpected (s.svc i).profile.slotMask k

/-- The expected-slot mask of an enabled service has changed from `old` (R93, R101). The slots are taken in ascending
order: R93 gives none (DESIGN CHOICE, log entry 24). -/
def maskChanged (i old : Nat) (s0 : State) : State :=
  let s := logReserve ((s0.removedSlots i old).map (s0.removalEntries i)).sum s0
  allSlots.foldl (fun t k =>
    if slotExpected old k ∧ ¬ slotExpected (s.svc i).profile.slotMask k then removeSlot i k t
    else if ¬ slotExpected old k ∧ slotExpected (s.svc i).profile.slotMask k then joinSlot i k t
    else t) s

/-- SC's state of a service at SVE. R94 gives the acquisition window's count and not its start tick, which becomes 0 as
after a reset (DESIGN CHOICE, log entry 24). -/
def Subtitles.enabledAt (now : Nat) : Subtitles :=
  ⟨[], false, none, List.replicate 4 { Slot.reset with uncoveredSince := now }, none⟩

/-- A slot at SVD (R95). The acquisition window's count becomes 0, and its start tick and the last carry stamp stay: R95
names none of them (DESIGN CHOICE, log entry 24). -/
def Slot.disabledAt (now : Nat) (t : Slot) : Slot :=
  { t with
    carriage := .absent
    windowCount := 0
    lapseStart := none
    showing := none
    uncoveredSince := if t.showing.isSome then now else t.uncoveredSince
    lapsedOpen := false
    gapOpen := false }

/-- SC's part of SVD (R95). -/
def Subtitles.disabledAt (now : Nat) (c : Subtitles) : Subtitles :=
  { c with queue := [], episode := false, slots := c.slots.map (Slot.disabledAt now) }

end Sys2Proof.Machine
end

