-- ==== Sys2Proof/Machine/SegmentOps.lean ====
section
/-! DEFINITION. The Segment Tracker's operations (chapter 4). -/

namespace Sys2Proof.Machine

/-- The number of entries of a kind in a stack (R70). -/
def kindCount (kind : SegmentKind) (stack : List StackEntry) : Nat := (stack.filter fun e => decide (e.kind = kind)).length

/-- ST hands the ADVERT and PROMO counts to CU (R70, R114). -/
def handCounts (i : Nat) (s : State) : State :=
  let stack := (s.svc i).st.stack
  deriveActive i (s.modTally i fun t =>
    { t with advertCount := kindCount .advert stack, promoCount := kindCount .promo stack })

/-- What ST hands on after every event that changes a service's stack (R70). -/
def handOff (i : Nat) (s : State) : State := handCounts i (handRequirement i s)

/-- The record of a context as it is opened for an entry (R59, and the LE fields of R31). -/
def freshContext (i depth now : Nat) (wall : Option WallStamp) (e : StackEntry) (continued : Bool) : Context :=
  { Context.reset with
    state := .opened
    service := i
    kind := e.kind
    id := e.id
    requirement := e.requirement
    depth := depth
    openTick := now
    openWall := wall
    flags := { ContextFlags.clear with continued := continued } }

/-- Opens a context for an entry of the stack: the top of the free list, or NONE from an empty pool (R58, R59, R63). -/
def openContext (i depth : Nat) (e : StackEntry) (continued : Bool) (s : State) : State × Option Nat :=
  match s.pool.free with
  | [] =>
    (logTake (some i) (.poolEmpty e.kind e.id depth continued) s, none)
  | c :: rest =>
    ((s.modPool fun p => { p with free := rest }).modCtx c fun _ =>
      freshContext i depth s.now s.wallNow e continued, some c)

/-- Kinds that capture a reference and receive the advert checks (R68, R103). -/
def SegmentKind.isAdvert : SegmentKind → Bool
  | .advert | .promo | .sponsor => true
  | _ => false

/-- The nearest enclosing PROGRAMME entry that has a context, in a list that starts next outward (R68). -/
def enclosingProgramme (outward : List StackEntry) : Option Nat :=
  outward.findSome? fun e => if e.kind = .programme then e.context else none

/-- The reference of a closing context (R68). -/
def State.referenceFor (s : State) (kind : SegmentKind) (outward : List StackEntry) : Option Int :=
  if kind.isAdvert then (enclosingProgramme outward).bind fun c => (s.ctx c).running else none

/-- The flag that goes with a close cause (R67). -/
def ContextFlags.closedBy (f : ContextFlags) : SegmentCause → ContextFlags
  | .ended => f
  | .cascade => { f with truncated := true }
  | .limit => { f with limit := true }
  | .disable => { f with disabled := true }

/-- Closes the context or writes SEG_UNMEASURED for entry `e`, which stands at `depth` inside the entries `outward`; the
stack itself is changed by the caller (R67, R69). -/
def closeEntry (i : Nat) (e : StackEntry) (depth : Nat) (outward : List StackEntry) (cause : SegmentCause) (s : State) :
    State :=
  match e.context with
  | none =>
    logTake (some i) (.segUnmeasured e.kind e.id depth e.openTick e.openWall s.now cause) s
  | some c =>
    let s1 := s.modCtx c fun x =>
      { x with
        closeTick := some s.now
        closeWall := s.wallNow
        cause := some cause
        flags := x.flags.closedBy cause
        reference := s.referenceFor x.kind outward }
    let s2 := (settleContext i c s1).modCtx c fun x => { x with state := .closed }
    s2.modCu fun u => { u with queue := u.queue ++ [c] }

/-- Closes the innermost entry, which then leaves the stack (R64, R65, R73). -/
def closeInnermost (i : Nat) (cause : SegmentCause) (s : State) : State :=
  match (s.svc i).st.stack with
  | [] => s
  | e :: outward =>
    (closeEntry i e (outward.length + 1) outward cause s).modSt i fun t => { t with stack := outward }

/-- Closes the `n` innermost entries, innermost first, with one cause. -/
def closeInner (i : Nat) (cause : SegmentCause) : Nat → State → State
  | 0, s => s
  | n + 1, s => closeInner i cause n (closeInnermost i cause s)

/-- How many SEG_UNMEASURED entries the closing of these stack entries writes (R69, R121). -/
def unmeasuredCount (stack : List StackEntry) : Nat := (stack.filter fun e => e.context.isNone).length

/-- The requirement of a new entry (R62); none is DEFAULT. -/
def resolveRequirement (p : Profile) (kind : SegmentKind) : Option Requirement → Requirement
  | some r => r
  | none => p.kindDefaults.getD (match kind with
      | .programme => 0 | .brk => 1 | .advert => 2 | .promo => 3 | .sponsor => 4 | .other => 5) .exempt

/-- A START marker (R61). -/
def startMarker (i : Nat) (kind : SegmentKind) (id : Nat) (req : Option Requirement) (s : State) : State :=
  let st := (s.svc i).st
  if st.stack.any (fun e => decide (e.id = id)) then logTake (some i) (.markerFaultStart kind id) s
  else if Config.stackEntries ≤ st.stack.length then
    let n := min 255 (st.overflow + 1)
    logTake (some i) (.nestFault kind id n) (s.modSt i fun t => { t with overflow := n })
  else
    let e : StackEntry := ⟨id, kind, resolveRequirement (s.svc i).profile kind req, s.now, s.wallNow, none⟩
    let r := openContext i (st.stack.length + 1) e false s
    handOff i (r.1.modSt i fun t => { t with stack := { e with context := r.2 } :: t.stack })

/-- An END marker (R64 to R66). -/
def endMarker (i id : Nat) (s : State) : State :=
  let st := (s.svc i).st
  match st.stack.findIdx? (fun e => decide (e.id = id)) with
  | some k =>
    handOff i (closeInnermost i .ended (closeInner i .cascade k (logReserve (unmeasuredCount (st.stack.take (k + 1))) s)))
  | none =>
    if 0 < st.overflow then s.modSt i fun t => { t with overflow := t.overflow - 1 }
    else logTake (some i) (.markerFaultEnd id) s

/-- A context has reached 864,000 blocks: its entry, at index `k` of the stack, is continued (R71). -/
def continueEntry (i k : Nat) (s : State) : State :=
  let stack := (s.svc i).st.stack
  match stack[k]? with
  | none => s
  | some e =>
    let s1 := closeEntry i e (stack.length - k) (stack.drop (k + 1)) .limit s
    let r := openContext i (stack.length - k) e true s1
    handOff i (r.1.modSt i fun t => { t with stack := t.stack.modify k fun x => { x with context := r.2 } })

/-- LE hands a full context to ST (R32, R71). -/
def limitContext (i c : Nat) (s : State) : State :=
  match (s.svc i).st.stack.findIdx? (fun e => decide (e.context = some c)) with
  | none => s
  | some k => continueEntry i k s

/-- ST's part of SVD (R73). -/
def disableSegments (i : Nat) (s : State) : State :=
  let stack := (s.svc i).st.stack
  let s1 := closeInner i .disable stack.length (logReserve (unmeasuredCount stack) s)
  handOff i (s1.modSt i fun t => { t with overflow := 0 })

end Sys2Proof.Machine
end

