-- ==== Sys2Proof/Machine/LoudnessOps.lean ====
section
/-! DEFINITION. The Loudness Engine's operations (chapter 2). -/

namespace Sys2Proof.Machine

/-! ### The weighting filter (section 2.2) -/

/-- A filter output's saturation (R20). -/
def saturate (y : Int) : Int := clampInt (-2 ^ 23) (2 ^ 23 - 1) y

/-- One section's output: the exact sum, rounded with halves upward and saturated (R20). -/
def sectionOutput (c : Coefficients) (h : History) (x : Int) : Int :=
  saturate ((c.b0 * x + c.b1 * h.x1 + c.b2 * h.x2 - c.a1 * h.y1 - c.a2 * h.y2 + 2 ^ 27) / 2 ^ 28)

/-- One section's history after its output `y` of input `x` (R21). -/
def History.shift (h : History) (x y : Int) : History := ⟨x, h.x1, y, h.y1⟩

/-- A channel's two sections in series: the weighted sample and the new histories (R20, R21). -/
def filterSample (p : Profile) (f : ChannelFilter) (x : Int) : Int × ChannelFilter :=
  let y := sectionOutput p.section1 f.first x
  let z := sectionOutput p.section2 f.second y
  (z, ⟨f.first.shift x y, f.second.shift y z⟩)

/-- One frame's samples through the filters into the channel sums (R19, R23). -/
def filterFrame (p : Profile) : List ChannelFilter → List Nat → List Int → List ChannelFilter × List Nat
  | f :: fs, sum :: sums, x :: xs =>
    let r := filterSample p f x
    let rest := filterFrame p fs sums xs
    (r.2 :: rest.1, (sum + (r.1 * r.1).toNat) :: rest.2)
  | fs, sums, _ => (fs, sums)

/-- The largest magnitude of a run of samples (R28). -/
def largestMagnitude (xs : List Int) : Nat := xs.foldl (fun m x => max m x.natAbs) 0

/-- LE's own state after one frame (R19). -/
def Loudness.frame (l : Loudness) (p : Profile) (xs : List Int) : Loudness :=
  let r := filterFrame p l.filters l.sums xs
  { l with
    partialPeak := max l.partialPeak (largestMagnitude xs)
    filters := r.1
    sums := r.2
    frameCount := l.frameCount + 1 }

/-- Σ w_c·S_c over the first `channels` channels (R24). -/
def subBlockPower (weights sums : List Nat) (channels : Nat) : Nat :=
  ((List.zipWith (· * ·) weights sums).take channels).sum

/-- LE's own state at the completion of a sub-block: peak meter, ring, meters, and an empty partial sub-block (R23 to
R28). -/
def Loudness.completeSubBlock (l : Loudness) (p : Profile) : Loudness :=
  let ring := (subBlockPower p.weights l.sums (p.channels.getD 0) :: l.ring).take Config.ringPowers
  { l with
    frameCount := 0
    sums := List.replicate 6 0
    partialPeak := 0
    ring := ring
    peakMeter := some (peakValue l.partialPeak)
    momentary :=
      if 4 ≤ ring.length then some (clampLoudness (blockLoudness 4 (ring.take 4).sum p.offset)) else none
    shortTerm :=
      if ring.length = Config.ringPowers then some (clampLoudness (blockLoudness 30 ring.sum p.offset)) else none }

/-! ### Credits (section 2.6) -/

/-- The larger of a maximum that may be NONE and a value (R31). -/
def raiseMax (m : Option Int) (v : Int) : Option Int :=
  match m with
  | none => some v
  | some x => some (max x v)

/-- The bin of a block loudness, none below the gate (R31). -/
def binOf : Option Int → Option Nat
  | none => none
  | some l => if l < -700 then none else some (min Config.topBin (l + 700).toNat)

/-- A context after the credit of a block with loudness `l`, momentary `mom` and short-term value `st` (R31). -/
def Context.creditBlock (c : Context) (l : Option Int) (mom : Int) (st : Option Int) : Context :=
  { c with
    blockCount := c.blockCount + 1
    belowGate := if (binOf l).isNone then c.belowGate + 1 else c.belowGate
    bins := match binOf l with
      | none => c.bins
      | some b => tableSet 0 c.bins b (tableGet 0 c.bins b + 1)
    maxMomentary := raiseMax c.maxMomentary mom
    maxShortTerm := match st with
      | none => c.maxShortTerm
      | some v => raiseMax c.maxShortTerm v }

/-- Every tenth credit recomputes the running integrated value (R33). -/
def Context.recompute (c : Context) (gate : Int) : Context :=
  if c.blockCount % 10 = 0 then { c with running := integrate c.bins gate } else c

/-- A block is credited to the credit target (R30 to R33). -/
def creditBlock (i : Nat) (l : Option Int) (mom : Int) (st : Option Int) (s : State) : State :=
  match s.target i with
  | none => s
  | some c =>
    let s1 := s.modCtx c fun x =>
      (if s.innermostUnmeasured i then { x with flags := { x.flags with merged := true } } else x)
        |>.creditBlock l mom st |>.recompute (s.svc i).profile.gateOffset
    if (s1.ctx c).blockCount = Config.contextBlocks then limitContext i c s1 else s1

/-- A block is counted for dead air (R35, R36). -/
def countDeadAir (i : Nat) (mom : Int) (s : State) : State :=
  let p := (s.svc i).profile
  if mom < p.silenceThreshold then
    let run := min Config.silenceBlocks ((s.svc i).le.silenceRun + 1)
    let s1 := s.modLe i fun l => { l with silenceRun := run }
    if p.silenceLimit * 10 ≤ run then openCond i .deadAir none none s1 else s1
  else closeCond i .deadAir none .signal (s.modLe i fun l => { l with silenceRun := 0 })

/-- A sub-block completes; with 4 powers or more in the ring a block is formed, credited and counted (R24 to R27). -/
def completeSubBlock (i : Nat) (s : State) : State :=
  let s1 := s.modLe i fun l => l.completeSubBlock (s.svc i).profile
  let le := (s1.svc i).le
  if 4 ≤ le.ring.length then
    let l := blockLoudness 4 (le.ring.take 4).sum (s.svc i).profile.offset
    countDeadAir i (clampLoudness l) (creditBlock i l (clampLoudness l) le.shortTerm s1)
  else s1

/-- The unit peak is credited to the credit target, and PEAK_OVER follows once per context (R29). -/
def creditPeak (i : Nat) (peak : Int) (s : State) : State :=
  match s.target i with
  | none => s
  | some c =>
    let s1 := s.modCtx c fun x => { x with peak := max x.peak peak }
    let x := s1.ctx c
    if (s.svc i).profile.peakCeiling < x.peak ∧ ¬ x.peakOver then
      logTake (some i) (.peakOver c x.kind x.id x.peak (s.svc i).profile.peakCeiling)
        (s1.modCtx c fun y => { y with peakOver := true })
    else s1

/-- LE takes one frame (R19). -/
def takeFrame (i : Nat) (s : State) (xs : List Int) : State :=
  let s1 := s.modLe i fun l => l.frame (s.svc i).profile xs
  if (s1.svc i).le.frameCount = Config.subBlockFrames then completeSubBlock i s1 else s1

/-- LE takes an AUDIO unit of a LIVE service (R19, R29). -/
def audioUnit (i : Nat) (frames : List (List Int)) (s : State) : State :=
  frames.foldl (takeFrame i) (creditPeak i (peakValue (largestMagnitude frames.flatten)) s)

/-- LE's own state at a loss of feed (R37), but for the loss start. -/
def Loudness.cleared (l : Loudness) : Loudness := { Loudness.reset with lossStart := l.lossStart }

/-- LE's effects of a change into LOST (R37). -/
def loseFeed (i : Nat) (s : State) : State :=
  closeCond i .deadAir none .feedLost (s.modLe i fun l => { l.cleared with lossStart := some s.now })

/-- LE's state at SVD: the filter history stays (R40). -/
def Loudness.disabled (l : Loudness) : Loudness := { Loudness.reset with filters := l.filters }

end Sys2Proof.Machine
end

