-- ==== Sys2Proof/Machine/ComplianceOps.lean ====
section
/-! DEFINITION. The Compliance Unit's verdict engine and advertising tally (sections 6.2 and 6.5). -/

namespace Sys2Proof.Machine

/-! ### Starting an evaluation (R102) -/

/-- Open duration of a closed context (R53). -/
def Context.openDuration (c : Context) : Nat := elapsed (c.closeTick.getD c.openTick) c.openTick

/-- Coverage of one slot (R53). -/
def Context.coverage (c : Context) (k : Nat) : Option Nat :=
  coverageOf c.openDuration c.missing (c.covered.getD k 0)

/-- The slots of an expected-slot mask in ascending order. -/
def maskSlots (mask : Nat) : List Nat := allSlots.filter (slotExpected mask)

/-- What the engine reads and forms at the start (R102, R52, R54). -/
def State.evaluationOf (s : State) (c : Nat) : Evaluation :=
  let x := s.ctx c
  let p := (s.svc x.service).profile
  let v := integrate x.bins p.gateOffset
  { context := c, startTick := s.now, settings := p, integrated := v, unmeasured := v.isNone,
    coverage := (maskSlots p.slotMask).map fun k => (k, x.coverage k) }

/-- An evaluation starts when the engine is IDLE and the queue holds a context (R102). -/
def startVerdict (s : State) : State :=
  match s.cu.engine, s.cu.queue with
  | none, c :: rest =>
    (s.modCtx c fun x => if x.blockCount < 30 then { x with flags := { x.flags with short := true } } else x).modCu
      fun u => { u with engine := some (s.evaluationOf c), queue := rest }
  | _, _ => s

/-! ### The checks (R103, R104) -/

/-- The check applies and fails, for the checks made once (R103). -/
def failedIf (applies fails : Bool) (c : Check) : List (Check × Option Nat) :=
  if applies && fails then [(c, none)] else []

/-- The loudness checks are made: neither SHORT nor UNMEASURED (R104). -/
def loudnessChecked (x : Context) (e : Evaluation) : Bool := !x.flags.short && !e.unmeasured

/-- The value an advert's integrated value is held against (R103, check 5). -/
def advertReference (x : Context) (e : Evaluation) : Int := x.reference.getD e.settings.target

/-- The subtitle checks apply (R103). -/
def subtitleChecked (x : Context) : Bool :=
  (decide (x.kind = .programme) || x.kind.isAdvert) && decide (x.requirement = .required)

/-- The slots of the evaluation's mask at which a check fails. -/
def failedSlots (e : Evaluation) (applies : Bool) (c : Check) (fails : Nat → Bool) : List (Check × Option Nat) :=
  if applies then ((maskSlots e.settings.slotMask).filter fails).map fun k => (c, some k) else []

/-- The coverage formed for a slot. -/
def Evaluation.slotCoverage (e : Evaluation) (k : Nat) : Option Nat := tableGet none e.coverage k

/-- The failed checks in the order of R103 (R103, R104). -/
def failedChecks (x : Context) (e : Evaluation) : List (Check × Option Nat) :=
  let p := e.settings
  let loud := loudnessChecked x e
  let v := e.integrated.getD 0
  failedIf true (decide (p.feedTolerance * Config.ticksPerSecond < x.missing)) .feed ++
  failedSlots e (subtitleChecked x) .subCarriage (fun k => decide (0 < x.lapsed.getD k 0)) ++
  failedIf (loud && decide (x.kind = .programme)) (decide (p.target + p.tolerance < v)) .loudHigh ++
  failedIf (loud && decide (x.kind = .programme)) (decide (v < p.target - p.tolerance)) .loudLow ++
  failedIf (loud && x.kind.isAdvert) (decide (advertReference x e + p.advertMargin < v)) .adLoud ++
  failedIf (loud && x.kind.isAdvert) (match x.maxShortTerm with
    | none => false
    | some m => decide (p.advertCeiling < m)) .adShort ++
  failedIf true (decide (p.peakCeiling < x.peak)) .peak ++
  failedSlots e (subtitleChecked x) .subGap
    (fun k => decide (p.gapLimit * Config.ticksPerSecond < x.longestGap.getD k 0)) ++
  failedSlots e (subtitleChecked x && decide (p.coverageMinimum ≠ 0)) .subCover (fun k =>
    match e.slotCoverage k with
    | none => false
    | some v => decide (v < p.coverageMinimum))

/-! ### Completion (R105, R106) -/

/-- The figures reported for each slot of the mask (R105). -/
def slotFigures (x : Context) (e : Evaluation) : List SlotFigures :=
  (maskSlots e.settings.slotMask).map fun k =>
    ⟨k, x.covered.getD k 0, x.lapsed.getD k 0, x.longestGap.getD k 0, e.slotCoverage k⟩

/-- The VERDICT entry's fields (R105). -/
def verdictBody (x : Context) (e : Evaluation) : VerdictBody where
  context := e.context
  kind := x.kind
  id := x.id
  depth := x.depth
  requirement := x.requirement
  cause := x.cause
  openTick := x.openTick
  closeTick := x.closeTick.getD x.openTick
  openWall := x.openWall
  closeWall := x.closeWall
  flags := x.flags
  unmeasured := e.unmeasured
  blockCount := x.blockCount
  belowGate := x.belowGate
  integrated := e.integrated
  running := x.running
  maxMomentary := x.maxMomentary
  maxShortTerm := x.maxShortTerm
  peak := x.peak
  missing := x.missing
  reference := x.reference
  failed := failedChecks x e
  slots := slotFigures x e

/-- The hold request of a failed verdict (R106). A TIM between open and close may leave the lower end above the upper
one; the hold created on it keeps R155 all the same (`holdRange`). -/
def verdictRequest (x : Context) (e : Evaluation) (origin : Option Nat) : HoldRequest where
  service := x.service
  lo := rangeLow ((x.openWall.map WallStamp.second).getD 0) e.settings.evidenceMargin
  hi := rangeHigh ((x.closeWall.map WallStamp.second).getD 0) e.settings.evidenceMargin
  reason := .verdict
  origin := origin
  keep := e.settings.keepDays
  untimed := x.openWall.isNone || x.closeWall.isNone

/-- CU returns an evaluated context to the top of the free list (R72). -/
def releaseContext (c : Nat) (s : State) : State :=
  (s.modCtx c fun x => { x with state := .free }).modPool fun p => { p with free := c :: p.free }

/-- The completion of an evaluation, steps 1 to 4 of R106 (the next evaluation starts in `settle`). -/
def completeVerdict (e : Evaluation) (s : State) : State :=
  let x := s.ctx e.context
  let fails := !(failedChecks x e).isEmpty
  let s0 := logReserve (if fails && e.settings.holdOnFail then 2 else 1) s
  let s1 := logTake (some x.service) (.verdict (verdictBody x e)) s0
  let s2 := if fails then s1.modSvc x.service fun v => { v with unacknowledged := true } else s1
  let s3 := if fails && e.settings.holdOnFail then (requestHold (verdictRequest x e s0.nextSeq) s2).1 else s2
  (releaseContext e.context s3).modCu fun u => { u with engine := none }

/-! ### Advertising tally (section 6.5) -/

/-- A tally that starts now (R116 to R118). -/
def startTally (i : Nat) (part : Bool) (s : State) : State :=
  s.modTally i fun t => { t with hour := s.tb.hour, start := s.now, part := part, advertTicks := 0 }

/-- The HOUR_TALLY entry that ends a service's tally (R116 to R118). -/
def writeTally (i : Nat) (timeSet disabled : Bool) (s : State) : State :=
  let t := (s.svc i).tally
  logTake (some i) (.hourTally t.hour (t.advertTicks / Config.tenthTicks) t.part timeSet disabled) s

/-- One service's tally ends and a new one starts (R116, R117). -/
def turnTally (timeSet : Bool) (s : State) (i : Nat) : State :=
  startTally i timeSet
    (closeCond i .adTime none (if timeSet then .timeSet else .hour) (writeTally i timeSet false s))

/-- Entries written when every enabled service's tally is turned (R121). -/
def State.turnEntries (s : State) : Nat :=
  (s.enabledServices.map fun i => if s.isOpen (some i) .adTime none then 2 else 1).sum

/-- CU's part of an hour boundary or of TIM, in ascending order of service number (R116, R117). -/
def turnTallies (timeSet : Bool) (s : State) : State :=
  s.enabledServices.foldl (turnTally timeSet) (logReserve s.turnEntries s)

/-- The advert ticks of a service exceed its limit (R115). -/
def State.overLimit (s : State) (i : Nat) : Bool :=
  decide ((s.svc i).profile.advertLimit * Config.ticksPerSecond < (s.svc i).tally.advertTicks)

/-- AD_TIME is re-evaluated at the tick of a PRF that changes the advert limit (R115). -/
def limitChanged (i : Nat) (s : State) : State :=
  if s.overLimit i then openCond i .adTime none none s else closeCond i .adTime none .limit s

/-- CU closes a service's open conditions at SVD, in the order of the ranking (R111). -/
def closeAllConditions (i : Nat) (s : State) : State :=
  (sortByKey (fun c : Condition => c.cls.rank * 8 + c.slot.getD 0)
    (s.cu.conditions.filter fun c => decide (c.service = some i))).foldl
      (fun t c => closeCond i c.cls c.slot .disable t) s

/-! ### What accrues from one tick to the next

Missing time (R34), covered and lapsed ticks (R86, R87), MERGED from them (R88) and advert ticks (R114) are lengths of
overlaps of half-open intervals. They are counted tick by tick, as the tick that follows is taken, from the state as the
events of the tick have left it. -/

/-- A slot accrues covered ticks, or lapsed ticks. -/
def Slot.isCovered (t : Slot) : Bool := t.showing.isSome
def Slot.isLapsed (t : Slot) : Bool := decide (t.carriage = .lapsed)

/-- Adds 1 to the figures of the slots that satisfy `p`. -/
def addWhere (p : Slot → Bool) : List Slot → List Nat → List Nat
  | t :: ts, n :: ns => (if p t then n + 1 else n) :: addWhere p ts ns
  | _, ns => ns

/-- The missing time one tick of loss after `n` ticks: a 48-bit count (R34), free past its last value (DESIGN CHOICE, log
entry 8). -/
def nextMissing (n : Nat) : Nat :=
  if n + 1 < Config.tickModulus then n + 1 else Config.unstatedMissing n % Config.tickModulus

/-- One tick's accrual to the credit target of a service (R34, R86 to R88). Covered and lapsed ticks are counts of ticks
to which the spec gives no width, and go on without a bound (DESIGN CHOICE, log entry 8). -/
def Context.accrue (c : Context) (v : Service) (unmeasuredInside : Bool) : Context :=
  { c with
    missing := if v.feed.state = .lost then nextMissing c.missing else c.missing
    covered := addWhere Slot.isCovered v.sc.slots c.covered
    lapsed := addWhere Slot.isLapsed v.sc.slots c.lapsed
    flags := if unmeasuredInside ∧ v.sc.slots.any (fun t => t.isCovered || t.isLapsed) then
      { c.flags with merged := true } else c.flags }

/-- One tick's accrual of a service. -/
def accrueService (s : State) (i : Nat) : State :=
  let s1 := match s.target i with
    | none => s
    | some c => s.modCtx c fun x => x.accrue (s.svc i) (s.innermostUnmeasured i)
  if (s.svc i).profile.enabled ∧ (s.svc i).tally.active then
    s1.modTally i fun t => { t with advertTicks := t.advertTicks + 1 }
  else s1

/-- One tick's accrual of every service. -/
def accrueTick (s : State) : State := allServices.foldl accrueService s

end Sys2Proof.Machine
end

