-- ==== Sys2Proof/Machine/RecorderOps.lean ====
section
/-! DEFINITION. The Recorder's intake, its gap marks and the gap record (sections 8.3, 8.4, 8.9). -/

namespace Sys2Proof.Machine

/-- A loss is reported to CU and the gap record follows (R138). Before RUN no entry is taken (R129), so there the marks
alone are kept (R185, R187; log entry 12). -/
def recordLoss (i : Nat) (cause : GapCause) (opened : GapRecord) (s : State) : State :=
  if s.part.state = .run ∧ (s.svc i).rc.gapRecord = .closed then
    (openCond i .recordGap none (some cause) s).modRc i fun r => { r with gapRecord := opened }
  else s

/-- RC records an intake loss (R137, R138). -/
def intakeLoss (i : Nat) (cause : GapCause) (s : State) : State :=
  recordLoss i cause .intake (s.modRc i fun r => { r with intakeMark := r.intakeMark.or (some cause) })

/-- AM records an issue loss (R137, R138). -/
def issueLoss (i : Nat) (cause : GapCause) (s : State) : State :=
  recordLoss i cause .placement (s.modRc i fun r => { r with issueMark := r.issueMark.or (some cause) })

/-- Recording has resumed, as the kind of loss that opened the condition asks (R138). -/
def resumeRecording (i : Nat) (which : GapRecord) (s : State) : State :=
  if (s.svc i).rc.gapRecord = which then
    (closeCond i .recordGap none .resumed s).modRc i fun r => { r with gapRecord := .closed }
  else s

/-- The service's filling buffer, if any, joins the tail of the write queue (R135, R136, R190); with its close mark at
SVD (R149). -/
def queueFilling (i : Nat) (close : Bool) (s : State) : State :=
  match (s.svc i).rc.filling with
  | none => s
  | some b =>
    (s.modQueue fun q => q ++ [{ b with closeMark := b.closeMark || close }]).modRc i fun r => { r with filling := none }

/-- A buffer as it is begun for a service now (R136, R137). -/
def State.newBuffer (s : State) (i : Nat) : Buffer where
  service := i
  boot := s.cl.boot
  firstTick := s.now
  firstWall := s.wallNow
  lastWall := s.wallNow
  gap := (s.svc i).rc.intakeMark
  payload := []
  closeMark := false
  retryMark := false

/-- Begins a buffer for the service, none when no buffer is free (R136). -/
def beginBuffer (i : Nat) (s : State) : Option State :=
  if s.freeBuffers = 0 then none
  else some (s.modRc i fun r => { r with filling := some (s.newBuffer i), intakeMark := none })

/-- Appends bytes that fit to the filling buffer; a full buffer joins the write queue (R136). -/
def appendBytes (i : Nat) (bytes : List Byte) (s : State) : State :=
  match (s.svc i).rc.filling with
  | none => s
  | some b =>
    let b' := { b with payload := b.payload ++ bytes, lastWall := s.wallNow }
    let s1 := s.modRc i fun r => { r with filling := some b' }
    if Config.pagePayload ≤ b'.payload.length then queueFilling i false s1 else s1

/-- The bytes the filling buffer still takes. -/
def State.fillingRoom (s : State) (i : Nat) : Nat :=
  match (s.svc i).rc.filling with
  | none => 0
  | some b => Config.pagePayload - b.payload.length

/-- The bytes that are left over when the filling buffer is full go to a new buffer, or are lost (R136). -/
def takeRest (i : Nat) (rest : List Byte) (shortage : GapCause) (s : State) : State :=
  if rest.isEmpty then s
  else match beginBuffer i s with
    | none => intakeLoss i shortage s
    | some s1 => appendBytes i rest s1

/-- The bytes of a unit are taken under case 5 of R135 (R136, R138). -/
def stageBytes (i : Nat) (bytes : List Byte) (shortage : GapCause) (s : State) : State :=
  match (if (s.svc i).rc.filling.isSome then some s else beginBuffer i s) with
  | none => intakeLoss i shortage s
  | some s1 =>
    let room := s1.fillingRoom i
    takeRest i (bytes.drop room) shortage (resumeRecording i .intake (appendBytes i (bytes.take room) s1))

/-- The entries that the bytes of a unit bring about are one group (R121): RECORD_GAP may close and open again. -/
def takePayload (i : Nat) (bytes : List Byte) (shortage : GapCause) (s : State) : State :=
  grouped (stageBytes i bytes shortage) s

/-- The gap cause for a shortage of buffers (R135, case 5). -/
def ArchiveState.shortage : ArchiveState → GapCause
  | .mounting => .mount
  | .offline => .offline
  | _ => .staging

/-- RC takes a PAYLOAD unit in RUN (R135). -/
def payloadUnit (i : Nat) (bytes : List Byte) (s : State) : State :=
  if ¬ (s.svc i).profile.recording ∨ s.am.rstPending then queueFilling i false s
  else if s.sp.faultLatched then intakeLoss i .fault (queueFilling i false s)
  else if s.part.lowSupply then intakeLoss i .supply (queueFilling i false s)
  else if s.am.state = .unformatted ∨ s.am.state = .unavailable then
    intakeLoss i .unavailable (queueFilling i false s)
  else takePayload i bytes s.am.state.shortage s

/-- Sets the close mark of the newest buffer of a service in a queue, given newest last (R149). -/
def markNewest (i : Nat) (q : List Buffer) : List Buffer :=
  match q.reverse.findIdx? (fun b => decide (b.service = i)) with
  | none => q
  | some k => q.modify (q.length - 1 - k) fun b => { b with closeMark := true }

/-- The page in flight is a recorded page of this service. -/
def State.recordedInFlight (s : State) (i : Nat) : Bool :=
  match s.sp.operation with
  | some (.recorded _ _ b) => decide (b.service = i)
  | _ => false

end Sys2Proof.Machine
end

