-- ==== Sys2Proof/Machine/ArchiveOps.lean ====
section
/-! DEFINITION. The Archive Manager's and the Storage Port's operations (chapter 8), and the ends of an export that they
cause (R167, R169). -/

namespace Sys2Proof.Machine

/-! ### Ending an export -/

/-- The `^X` report (R177). -/
def exportReport (id : Nat) (o : ExportOutcome) : Text := words [ascii "^X", natText id, o.text]

/-- An export ends with an outcome (R167). -/
def endExport (o : ExportOutcome) (s : State) : State :=
  match s.ee.current with
  | none => s
  | some x =>
    pushReport (exportReport x.id o)
      (logTake x.service (.exportDone x.id x.kind x.items.length x.frames x.unreadable o)
        (s.modEe fun e => { e with current := none, last := some (x.id, o) }))

/-- The archive leaves an export's reach (R169): WAITING ends at once, SENDING at the end of its frame. Of two aborts
within one frame the later gives the outcome: the spec does not say which (R144, R169; DESIGN CHOICE, log entry 24). -/
def abortExport (o : ExportOutcome) (s : State) : State :=
  match s.ee.current with
  | none => s
  | some x =>
    match x.state with
    | .sending => s.modEe fun e => { e with current := some { x with abort := some o } }
    | _ => endExport o s

/-! ### Extents (section 8.2) -/

/-- The FILLING extent of a service (R134). -/
def State.fillingExtent (s : State) (i : Nat) : Option Nat :=
  (s.am.extents.find? fun e => decide (e.2.state = .filling) && decide (e.2.service = i)).map Prod.fst

/-- A wall second joins an extent's wall range (R133, R142). -/
def joinWall (w : Option (Nat × Nat)) (second : Option Nat) : Option (Nat × Nat) :=
  match w, second with
  | w, none => w
  | none, some t => some (t, t)
  | some (lo, hi), some t => some (min lo t, max hi t)

/-- The next completion sequence once `n` is taken (R134); free past 4,294,967,295, the last of its range (DESIGN CHOICE,
log entry 8). -/
def completionAfter (n : Nat) : Nat :=
  if n < Config.lastCompletion then n + 1 else Config.unstatedCompletion n % Config.lastCompletion + 1

/-- An extent becomes COMPLETE or DAMAGED: it takes the next completion sequence and joins the completion order (R134,
R142, R143). -/
def finishExtent (e : Nat) (state : ExtentState) (s : State) : State :=
  ((s.setExtent e { s.extent e with state := state, completion := s.am.nextCompletion }).modAm fun a =>
    { a with order := a.order ++ [e], nextCompletion := completionAfter a.nextCompletion }).markDirty (extentPage e)

/-! ### Reclaim (section 8.7) -/

/-- An extent has passed retention (R146). -/
def State.passedRetention (s : State) (x : Extent) : Bool :=
  match x.wall, s.wallNow with
  | none, _ => true
  | some _, none => false
  | some (_, last), some w =>
    decide (last + (s.svc x.service).profile.retention * Config.daySeconds < w.second)

/-- The extent a search takes: first by retention, then among services whose retention is not strict (R146, R147). -/
def State.searchReclaim (s : State) : Option Nat :=
  match s.am.order.find? (fun e => decide (s.holdCount e = 0) && s.passedRetention (s.extent e)) with
  | some e => some e
  | none => s.am.order.find? fun e =>
      decide (s.holdCount e = 0) && !(s.svc (s.extent e).service).profile.strict

/-- A reclaimed extent becomes FREE at the tail of the free list, or RETIRED (R146). A FREE extent's record holds
nothing else: R133 does not say what its other fields keep (DESIGN CHOICE, log entry 24). -/
def reclaimExtent (e : Nat) (s : State) : State :=
  let s1 := (s.modAm fun a => { a with order := a.order.filter fun n => decide (n ≠ e) }).markDirty (extentPage e)
  match (s.extent e).state with
  | .damaged => s1.setExtent e { s.extent e with state := .retired }
  | _ => (s1.setExtent e .free).modAm fun a => { a with free := a.free ++ [e] }

/-- A reclaim run: searches until the free list holds `goal` extents or a search fails (R145). -/
def reclaimRun (goal : Nat) : Nat → State → State
  | 0, s => s
  | fuel + 1, s =>
    if goal ≤ s.am.free.length then s
    else match s.searchReclaim with
      | none => s
      | some e => reclaimRun goal fuel (reclaimExtent e s)

def reclaim (goal : Nat) (s : State) : State := reclaimRun goal s.am.order.length s

/-- Names the extent and page that receive the service's page, none when the archive has no room (R141). -/
def placePage (i : Nat) (s : State) : State × Option (Nat × Nat) :=
  match s.fillingExtent i with
  | some e => (s, some (e, (s.extent e).pages))
  | none =>
    let s1 := if s.am.free.isEmpty then reclaim 1 s else s
    match s1.am.free with
    | [] => (s1, none)
    | e :: rest =>
      let s2 := ((s1.modAm fun a => { a with free := rest }).setExtent e ⟨.filling, i, 0, none, 0, false⟩).markDirty
        (extentPage e)
      (if rest.length < s2.am.lowWater then reclaim s2.am.lowWater s2 else s2, some (e, 0))

/-! ### Grants (R140) -/

/-- An extent's record as a directory page takes it: a FILLING one with the page count and wall seconds that it had when
it became FILLING, which are none (section 12.3, R134). -/
def Extent.written (x : Extent) : Extent := if x.state = .filling then { x with pages := 0, wall := none } else x

/-- The image of a directory page as it stands (R132, R148). -/
def State.directoryImage (s : State) (page : Nat) : DirectoryImage :=
  if page = 0 then .header s.am.bootCounter s.am.cleanFlag (s.am.capacity.getD 0) s.am.lowWater s.cl.nextPage
  else if page = 257 then .holds s.am.nextHold s.am.holds
  else if page = 258 then .settings (s.services.map Service.profile) s.triggers
  else .extents ((s.am.extents.filter fun e => decide (extentPage e.1 = page)).map fun e => (e.1, e.2.written))

/-- SP starts an operation (R139). -/
def startOperation (op : Operation) (s : State) : State :=
  s.modSp fun p => { p with operation := some op, grantTick := s.now }

/-- Item 1 of R140: the lowest dirty directory page (R148). -/
def grantDirectory (page : Nat) (s : State) : State :=
  startOperation (.directory page (s.directoryImage page))
    (s.modAm fun a => { a with dirty := a.dirty.filter fun p => decide (p ≠ page) })

/-- Item 2 of R140: the log page buffer (R126). -/
def grantLog (s : State) : State :=
  startOperation (.log s.cl.nextPage s.cl.boot s.cl.buffer.entries s.cl.buffer.overflowed)
    (s.modCl fun c => { c with buffer := c.buffer.granted })

/-- A page placed at (e, page) is written, taking the service's issue loss mark into its header (R137, R141). -/
def grantRecorded (b : Buffer) (e page : Nat) (s : State) : State :=
  let b' := { b with gap := b.gap.or (s.svc b.service).rc.issueMark }
  let s1 := s.modRc b.service fun r => { r with issueMark := none }
  let s2 := if b'.gap.isSome then s1.setExtent e { s1.extent e with gapInside := true } else s1
  startOperation (.recorded e page b') s2

/-- The storage address of the export's cursor (R127, R166). -/
def Export.cursorAddress (x : Export) : Nat × Nat :=
  let n := (x.items.getD x.position ⟨0, 0⟩).number
  match x.kind with
  | .log => (32 + n / 16, n % 16)
  | _ => (n, x.page)

/-- Item 4 of R140: the next export read (R166). -/
def grantExport (x : Export) (s : State) : State :=
  startOperation (.exportRead x.cursorAddress.1 x.cursorAddress.2)
    (s.modEe fun e => { e with current := some { x with state := .reading } })

/-- The port is free and may grant (R140). -/
def State.mayGrant (s : State) : Bool :=
  s.sp.operation.isNone && decide (s.am.state = .online) && !s.am.oflPending && !s.sp.faultLatched

/-- SP grants the first standing request; a page that finds no room is discarded and the port grants again (R140,
R141). The fuel bounds the discards. -/
def grantFirst : Nat → State → State
  | 0, s => s
  | fuel + 1, s =>
    match s.am.dirty with
    | page :: _ => grantDirectory page s
    | [] =>
      if s.logRequest then grantLog s
      else match s.writeQueue with
        | b :: rest =>
          match placePage b.service (s.modQueue fun _ => rest) with
          | (s1, some (e, page)) => grantRecorded b e page s1
          | (s1, none) => grantFirst fuel (issueLoss b.service .archiveFull s1)
        | [] =>
          match s.ee.current with
          | some x => if x.state = .waiting then grantExport x s else s
          | none => s

/-- The port grants; the entries of the pages discarded on the way form one group (R121, R141). -/
def grantNext (fuel : Nat) (s : State) : State := grouped (grantFirst fuel) s

/-! ### Completions (R139, R142 to R144, R127, R148) -/

/-- The operation has ended: the port is free. -/
def endOperation (s : State) : State := s.modSp fun p => { p with operation := none }

/-- A successful write of any kind (R139). -/
def writeSucceeded (s : State) : State := s.modSp fun p => { p with failures := 0 }

/-- A failed write of any kind (R139). -/
def countFailure (s : State) : State := s.modSp fun p => { p with failures := p.failures + 1 }

/-- Services whose pages are discarded at the latch (R144, step 3), in ascending order: step 3 states none (DESIGN
CHOICE, log entry 24). -/
def State.discardedServices (s : State) (failed : Option Buffer) : List Nat :=
  allServices.filter fun i =>
    (s.svc i).rc.filling.isSome || s.writeQueue.any (fun b => decide (b.service = i)) ||
      (match failed with
        | none => false
        | some b => decide (b.service = i))

/-- Steps 2 to 5 of R144. -/
def latchSteps (target : WriteTarget) (failed : Option Buffer) (s : State) : State :=
  let s1 := logTake none (.storageFault target)
    (openDevice .storageFault (s.modSp fun p => { p with faultLatched := true }))
  let lost := s.discardedServices failed
  let s2 := (allServices.foldl (fun t i => t.modRc i fun r => { r with filling := none }) s1).modQueue fun _ => []
  let s3 := lost.foldl (fun t i => issueLoss i .fault t) s2
  let s4 := (s3.enabledServices.filter fun i => (s3.svc i).profile.recording).foldl
    (fun t i => recordLoss i .fault .placement t) s3
  abortExport .fault s4

/-- The entries the steps make are one group (R121): they are counted by taking them in a boot that has just begun. -/
def latchEntries (target : WriteTarget) (failed : Option Buffer) (s : State) : Nat :=
  (latchSteps target failed (s.modCl fun c => { c with lastSeq := 0, exhausted := false })).cl.lastSeq

/-- SP latches STORAGE_FAULT when a failed write has made the count 2 (R144). -/
def latchIfDue (target : WriteTarget) (failed : Option Buffer) (s : State) : State :=
  if Config.faultFailures ≤ s.sp.failures ∧ ¬ s.sp.faultLatched then
    latchSteps target failed (logReserve (latchEntries target failed s) s)
  else s

/-- Successful completion of a recorded page write (R142). -/
def recordedSucceeded (e : Nat) (b : Buffer) (s : State) : State :=
  let x := s.extent e
  let x' := { x with
    pages := x.pages + 1
    wall := joinWall (joinWall x.wall (b.firstWall.map WallStamp.second)) (b.lastWall.map WallStamp.second) }
  let s1 := s.setExtent e x'
  let s2 := if x'.pages = Config.extentPages ∨ b.closeMark then finishExtent e .complete s1 else s1
  resumeRecording b.service .placement (writeSucceeded (endOperation s2))

/-- Failure of a recorded page write (R143, R144). -/
def failRecorded (e page : Nat) (b : Buffer) (s : State) : State :=
  let s1 := logTake (some (s.extent e).service) (.extentDamaged e (s.extent e).pages page) (finishExtent e .damaged s)
  let s2 := countFailure (endOperation s1)
  if Config.faultFailures ≤ s2.sp.failures then latchIfDue (.recorded e page) (some b) s2
  else if b.retryMark then issueLoss b.service .fault s2
  else s2.modQueue fun q => { b with retryMark := true } :: q

/-- The entries of a recorded page write's failure are one group (R121): EXTENT_DAMAGED, and what follows from a discard
or from the latch. -/
def recordedFailed (e page : Nat) (b : Buffer) (s : State) : State := grouped (failRecorded e page b) s

/-- Completion of a log page write (R127). -/
def logWriteEnded (ok : Bool) (position : Nat) (s : State) : State :=
  let s1 := (endOperation s).modCl fun c => { c with nextPage := (c.nextPage + 1) % Config.logPages }
  if ok then (writeSucceeded s1).markDirty 0
  else latchIfDue (.log position) none
    (countFailure (s1.modCl fun c => { c with buffer := { c.buffer with overflowed := true } }))

/-- The flush reaches FLUSHED, which an RST that is pending waits for (R190, R192). -/
def Archive.flushDone (a : Archive) : Archive :=
  { a with flush := .flushed, rstFlushed := a.rstPending || a.rstFlushed }

/-- The flush is done: with a SUPPLY_LOW entry when LOW_SUPPLY started it (R190, R192). -/
def endFlush (o : FlushOutcome) (s : State) : State :=
  let s1 := s.modAm Archive.flushDone
  if s.am.flushForSupply then logTake none (.supplyLow o (elapsed s.now s.am.flushStart)) s1 else s1

/-- The written page 0 carried the clean flag (R190). -/
def DirectoryImage.isClean : DirectoryImage → Bool
  | .header _ clean _ _ _ => clean
  | _ => false

/-- Completion of a directory page write (R148, R190). -/
def directoryWriteEnded (ok : Bool) (page : Nat) (image : DirectoryImage) (s : State) : State :=
  let s1 := endOperation s
  if ok then
    let s2 := writeSucceeded s1
    if image.isClean ∧ s.am.cleanFlag ∧ s.am.flush = .flushing then endFlush .clean s2 else s2
  else latchIfDue (.directory page) none (countFailure (s1.markDirty page))

/-! ### Export frames (R166) -/

/-- The next page of the list after (position, page), none at its end (R166). -/
def nextPage (items : List ExportItem) (position page : Nat) : Option (Nat × Nat) :=
  if page + 1 < (items.getD position ⟨0, 0⟩).pages then some (position, page + 1)
  else ((items.drop (position + 1)).findIdx? fun i => decide (0 < i.pages)).map fun k => (position + 1 + k, 0)

/-- The frame for the page at the cursor (R166). -/
def State.exportFrame (s : State) (x : Export) (page : Option (List Byte)) : Frame where
  exportId := x.id
  sequence := x.frames
  service := if x.kind = .log then none else some (s.extent x.cursorAddress.1).service
  extent := x.cursorAddress.1
  page := x.cursorAddress.2
  unreadable := page.isNone
  log := decide (x.kind = .log)
  damaged := decide (x.kind ≠ .log) && decide ((s.extent x.cursorAddress.1).state = .damaged)
  last := (nextPage x.items x.position x.page).isNone
  payload := page.getD []

/-- An export read ends (R166, R168). -/
def exportReadEnded (page : Option (List Byte)) (s : State) : State :=
  let s1 := endOperation s
  match s.ee.current with
  | none => s1
  | some x =>
    if x.stop then endExport .aborted s1
    else s1.modEe fun e => { e with current := some { x with
      state := .sending
      unreadable := if page.isNone then x.unreadable + 1 else x.unreadable
      frame := some (s.exportFrame x page) } }

/-- A frame ends (R166, R168, R169). -/
def exportFrameEnded (x : Export) (f : Frame) (s : State) : State :=
  let sent := s.modEe fun e => { e with current := some { x with frames := x.frames + 1, frame := none } }
  if f.last then endExport .complete sent
  else match x.abort with
    | some o => endExport o sent
    | none =>
      if x.stop then endExport .aborted sent
      else match nextPage x.items x.position x.page with
        | none => endExport .complete sent
        | some (pos, page) => s.modEe fun e => { e with current := some { x with
            frames := x.frames + 1, frame := none, position := pos, page := page, state := .waiting } }

/-! ### What every event may bring about at its end -/

/-- A pending OFL takes effect when no operation is in flight: STORAGE_OFFLINE is written, and an export in progress ends
with outcome OFFLINE (R151, R167, R169). The spec does not say whether STORAGE_OFFLINE and that EXPORT_DONE are one group
near the last sequence (R121): they are taken singly (DEDUCED, log entry 11). -/
def offlineChange (s : State) : State :=
  if s.am.oflPending ∧ s.sp.operation.isNone then
    abortExport .offline (logTake none .storageOffline (s.modAm fun a => { a with state := .offline, oflPending := false }))
  else s

/-- The four things that hold together when everything has drained (R190). -/
def State.drained (s : State) : Bool :=
  s.writeQueue.isEmpty && decide (s.cl.buffer.state = .empty) && s.am.dirty.isEmpty && s.sp.operation.isNone

/-- The flush goes on (R190): it ends with a fault or off line, or sets the clean flag once everything has drained. -/
def flushStep (s : State) : State :=
  if s.am.flush = .flushing then
    if s.sp.faultLatched then endFlush .fault s
    else if s.am.state ≠ .online then endFlush .notOnline s
    else if ¬ s.am.cleanFlag ∧ s.drained then (s.modAm fun a => { a with cleanFlag := true }).markDirty 0
    else s
  else s

/-- The transmitter takes the next record when it is IDLE (R176): reply slot, line errors, reports. -/
def Line.startSending (l : Line) : Line :=
  match l.sending with
  | some _ => l
  | none =>
    match l.reply with
    | some r => { l with reply := none, sending := some r }
    | none =>
      match l.errors with
      | f :: rest => { l with errors := rest, sending := some (words [ascii "!???", f.text]) }
      | [] =>
        match l.reports with
        | r :: rest => { l with reports := rest, sending := some r }
        | [] => l

/-- What ends every event: TU matches the entries taken (R128), a waiting evaluation starts (R102), a pending OFL takes
effect (R151), the flush goes on (R190), and an IDLE transmitter takes its next record (R176). -/
def settle (s : State) : State :=
  (fanOut (flushStep (offlineChange (startVerdict (fanOut s))))).modLc Line.startSending

end Sys2Proof.Machine
end

