-- ==== Sys2Proof/Machine/Formats.lean ====
section
/-! DEFINITION. The binary layouts of chapter 12: feed units as they are read, archive pages as they are written and
read back, export frames as they leave the part. -/

namespace Sys2Proof.Machine

/-! ### Fields: most significant byte first -/

/-- The number that bytes spell, most significant first. -/
def numberOf (bytes : List Byte) : Nat := bytes.foldl (fun n b => n * 256 + b.toNat) 0

/-- The field of `width` bytes at `offset`; bytes past the end read 0. -/
def fieldAt (bytes : List Byte) (offset width : Nat) : Nat :=
  numberOf ((List.range width).map fun k => bytes.getD (offset + k) 0)

/-- A field of `width` bytes as a two's complement number. -/
def signedOf (width n : Nat) : Int := if n < 2 ^ (8 * width - 1) then n else (n : Int) - 2 ^ (8 * width)

/-- A number as `width` bytes, most significant first. -/
def bytesOf : Nat → Nat → List Byte
  | 0, _ => []
  | w + 1, n => bytesOf w (n / 256) ++ [BitVec.ofNat 8 n]

/-- A signed number as `width` bytes in two's complement. -/
def signedBytes (width : Nat) (n : Int) : List Byte := bytesOf width (n % 2 ^ (8 * width)).toNat

/-- Bytes written as 0. -/
def zeros (n : Nat) : List Byte := List.replicate n 0

/-- A run of bytes filled with 0 up to `n` bytes. -/
def filledTo (n : Nat) (bytes : List Byte) : List Byte := bytes ++ zeros (n - bytes.length)

def flagBit (b : Bool) (k : Nat) : Nat := if b then 2 ^ k else 0

/-! ### Feed units (section 12.1) -/

/-- A unit's fields and body (section 12.1). -/
structure FeedHeader where
  service : Nat
  kind : Nat
  length : Nat
  checkOk : Bool
  deriving DecidableEq, Repr

def feedHeader (bytes : List Byte) : FeedHeader where
  service := fieldAt bytes 0 2
  kind := fieldAt bytes 2 1
  length := fieldAt bytes 3 4
  checkOk := decide (((bytes.take 8).map BitVec.toNat).sum % 256 = 0)

/-- The bytes are one whole unit: a header and the body it announces. -/
def wholeUnit (bytes : List Byte) : Bool := decide (bytes.length = 8 + (feedHeader bytes).length)

/-- A body that has passed the checks of its own fields (R11). -/
inductive FeedBody where
  | audio (channels : Nat) (frames : List (List Int))
  | cue (slot id offset duration chars : Nat)
  | clear (slot id : Nat)
  | carry (slot : Nat)
  | markStart (kind : SegmentKind) (id : Nat) (requirement : Option Requirement)
  | markEnd (id : Nat)
  | payload (bytes : List Byte)
  deriving DecidableEq, Repr

/-- Samples of 3 bytes each. -/
def samplesOf : Nat → List Byte → List Int
  | 0, _ => []
  | n + 1, bytes => signedOf 3 (fieldAt bytes 0 3) :: samplesOf n (bytes.drop 3)

/-- Frames of `channels` samples each. -/
def framesOf (channels : Nat) : Nat → List Int → List (List Int)
  | 0, _ => []
  | n + 1, xs => xs.take channels :: framesOf channels n (xs.drop channels)

def kindOfCode : Nat → Option SegmentKind
  | 1 => some .programme | 2 => some .brk | 3 => some .advert | 4 => some .promo | 5 => some .sponsor | 6 => some .other
  | _ => none

/-- The requirement field: the outer none is a code out of range, the inner none is DEFAULT. -/
def requirementOfCode : Nat → Option (Option Requirement)
  | 1 => some (some .required) | 2 => some (some .exempt) | 3 => some none | _ => none

/-- The kind code names a kind (check 4). -/
def kindNamed (kind : Nat) : Bool := decide (1 ≤ kind ∧ kind ≤ 6)

/-- The body's length fits the kind (R11, check 5). -/
def lengthFits (kind : Nat) (body : List Byte) : Bool :=
  match kind with
  | 1 => decide (3 ≤ body.length ∧ body.length = 3 + 3 * fieldAt body 0 2 * fieldAt body 2 1)
  | 2 => decide (body.length = 8)
  | 3 => decide (body.length = 3)
  | 4 => decide (body.length = 1)
  | 5 => decide (body.length = 7)
  | 6 => decide (1 ≤ body.length ∧ body.length ≤ 4096)
  | _ => false

def audioBody (body : List Byte) : Option FeedBody :=
  let n := fieldAt body 0 2
  let c := fieldAt body 2 1
  if 1 ≤ n ∧ n ≤ 480 ∧ 1 ≤ c ∧ c ≤ 6 then some (.audio c (framesOf c n (samplesOf (n * c) (body.drop 3)))) else none

def cueBody (body : List Byte) : Option FeedBody :=
  let slot := fieldAt body 0 1
  let off := fieldAt body 3 2
  let dur := fieldAt body 5 2
  let chars := fieldAt body 7 1
  if slot ≤ 3 ∧ off ≤ 500 ∧ 1 ≤ dur ∧ dur ≤ 3000 ∧ chars ≤ 240 then some (.cue slot (fieldAt body 1 2) off dur chars)
  else none

def markBody (body : List Byte) : Option FeedBody :=
  match kindOfCode (fieldAt body 1 1), requirementOfCode (fieldAt body 6 1), fieldAt body 0 1 with
  | some k, some r, 1 => some (.markStart k (fieldAt body 2 4) r)
  | some _, some _, 2 => some (.markEnd (fieldAt body 2 4))
  | _, _, _ => none

/-- The body's fields lie in their ranges (R11, check 6 less its tests against the profile). -/
def bodyOf (kind : Nat) (body : List Byte) : Option FeedBody :=
  match kind with
  | 1 => audioBody body
  | 2 => cueBody body
  | 3 => if fieldAt body 0 1 ≤ 3 then some (.clear (fieldAt body 0 1) (fieldAt body 1 2)) else none
  | 4 => if fieldAt body 0 1 ≤ 3 then some (.carry (fieldAt body 0 1)) else none
  | 5 => markBody body
  | 6 => some (.payload body)
  | _ => none

/-! ### Recorded pages and log pages (section 12.2) -/

def GapCause.code : GapCause → Nat
  | .staging => 1 | .archiveFull => 2 | .offline => 3 | .fault => 4 | .supply => 5 | .mount => 6 | .unavailable => 7

def wallSecondOr (w : Option WallStamp) : Nat := (w.map WallStamp.second).getD 0
def wallTickOr (w : Option WallStamp) : Nat := (w.map WallStamp.tick).getD 0

/-- The page written for a buffer placed at page `page` of extent `e` (section 12.2, R131). -/
def recordedPage (e page : Nat) (b : Buffer) : List Byte :=
  filledTo Config.pageBytes (bytesOf 1 1 ++ bytesOf 1 b.service ++ bytesOf 4 e ++ bytesOf 1 page ++
    bytesOf 1 (flagBit b.gap.isSome 0 + flagBit b.firstWall.isSome 1 + flagBit b.lastWall.isSome 2) ++
    bytesOf 1 ((b.gap.map GapCause.code).getD 0) ++ bytesOf 2 b.boot ++ bytesOf 6 b.firstTick ++
    bytesOf 4 (wallSecondOr b.firstWall) ++ bytesOf 2 (wallTickOr b.firstWall) ++ bytesOf 4 (wallSecondOr b.lastWall) ++
    bytesOf 2 b.payload.length ++ zeros 35 ++ b.payload)

/-- Text as bytes of ASCII. -/
def asciiBytes (t : Text) : List Byte := t.map (BitVec.ofNat 8)

/-- One packed entry (section 12.2). -/
def Entry.packed (e : Entry) : List Byte :=
  bytesOf 2 e.packedLength ++ bytesOf 4 e.seq ++ bytesOf 6 e.tick ++ bytesOf 4 (wallSecondOr e.wall) ++
    bytesOf 2 (wallTickOr e.wall) ++ bytesOf 1 (flagBit e.wall.isSome 0) ++ bytesOf 1 (e.service.getD 255) ++
    bytesOf 1 e.body.kind.2 ++
    (e.body.items.map fun i => bytesOf 1 i.1 ++ bytesOf 1 (commas i.2).length ++ asciiBytes (commas i.2)).flatten

/-- The log page written at a position (section 12.2, R127). -/
def logPage (position boot : Nat) (entries : List Entry) (overflowed : Bool) : List Byte :=
  filledTo Config.pageBytes (bytesOf 1 2 ++ bytesOf 2 boot ++ bytesOf 2 position ++
    bytesOf 4 ((entries.head?.map Entry.seq).getD 0) ++ bytesOf 2 entries.length ++ bytesOf 1 (flagBit overflowed 0) ++
    zeros 52 ++ (entries.map Entry.packed).flatten)

/-- What the mount reads from a recorded page header (R186, step 3). -/
structure PageHeader where
  type : Nat
  service : Nat
  extent : Nat
  page : Nat
  gapBefore : Bool
  boot : Nat
  firstTick : Nat
  firstSecond : Option Nat
  lastSecond : Option Nat
  deriving DecidableEq, Repr

def pageHeader (bytes : List Byte) : PageHeader :=
  let flags := fieldAt bytes 7 1
  { type := fieldAt bytes 0 1
    service := fieldAt bytes 1 1
    extent := fieldAt bytes 2 4
    page := fieldAt bytes 6 1
    gapBefore := flags.testBit 0
    boot := fieldAt bytes 9 2
    firstTick := fieldAt bytes 11 6
    firstSecond := if flags.testBit 1 then some (fieldAt bytes 17 4) else none
    lastSecond := if flags.testBit 2 then some (fieldAt bytes 23 4) else none }

/-! ### Directory (section 12.3) -/

/-- The format identity KLMG2416. -/
def formatIdentity : List Byte := asciiBytes (ascii "KLMG2416")

/-- The directory header (page 0). -/
structure DirectoryHeader where
  bootCounter : Nat
  clean : Bool
  capacity : Nat
  lowWater : Nat
  nextPage : Nat
  deriving DecidableEq, Repr

def encodeHeader (h : DirectoryHeader) : List Byte :=
  formatIdentity ++ bytesOf 2 h.bootCounter ++ bytesOf 1 (flagBit h.clean 0) ++ bytesOf 4 h.capacity ++
    bytesOf 2 h.lowWater ++ bytesOf 2 h.nextPage

/-- The header of page 0, none when it is not valid for the probed capacity (R186, step 1). -/
def decodeHeader (probed : Nat) (bytes : List Byte) : Option DirectoryHeader :=
  let h : DirectoryHeader := ⟨fieldAt bytes 8 2, decide (fieldAt bytes 10 1 = 1), fieldAt bytes 11 4, fieldAt bytes 15 2,
    fieldAt bytes 17 2⟩
  if bytes.take 8 = formatIdentity ∧ h.capacity = probed ∧ 4 ≤ h.lowWater ∧ h.lowWater ≤ 1024 ∧
    h.nextPage < Config.logPages then some h else none

def ExtentState.code : ExtentState → Nat
  | .free => 0 | .filling => 1 | .complete => 2 | .damaged => 3 | .retired => 4

/-- The state a code of 0..4 names. -/
def extentStateOf : Nat → ExtentState
  | 0 => .free | 1 => .filling | 2 => .complete | 3 => .damaged | _ => .retired

/-- The 16 bytes of an extent's record. -/
def encodeExtent (x : Extent) : List Byte :=
  bytesOf 1 x.state.code ++ bytesOf 1 (if x.state = .free then 0 else x.service) ++ bytesOf 4 x.completion ++
    bytesOf 4 ((x.wall.map Prod.fst).getD 0) ++ bytesOf 4 ((x.wall.map Prod.snd).getD 0) ++ bytesOf 1 x.pages ++
    bytesOf 1 (flagBit x.gapInside 0 + flagBit x.wall.isSome 1)

/-- An extent's record as read. A FREE record reads as the free one, so that a completion sequence left in it does not
count toward the highest in the table: R186 does not say (DESIGN CHOICE, log entry 24). A state code above 4, a service
above 15 and a page count above 16 give free values (log entry 3). -/
def decodeExtent (bytes : List Byte) : Extent :=
  let code := fieldAt bytes 0 1
  let st := extentStateOf (if code ≤ 4 then code else Config.unstatedExtentState code % 5)
  let svc := fieldAt bytes 1 1
  let pages := fieldAt bytes 14 1
  let flags := fieldAt bytes 15 1
  if st = .free then .free
  else
    { state := st
      service := if svc ≤ 15 then svc else Config.unstatedExtentService svc % 16
      completion := fieldAt bytes 2 4
      wall := if flags.testBit 1 then some (fieldAt bytes 6 4, fieldAt bytes 10 4) else none
      pages := if pages ≤ 16 then pages else Config.unstatedExtentPages pages % 17
      gapInside := flags.testBit 0 }

/-- The records of an extent table page that are not FREE, from the record of extent `e` on. -/
def decodeExtents : Nat → Nat → List Byte → List (Nat × Extent)
  | 0, _, _ => []
  | fuel + 1, e, bytes =>
    if bytes.isEmpty then []
    else if decodeExtent (bytes.take 16) = .free then decodeExtents fuel (e + 1) (bytes.drop 16)
    else (e, decodeExtent (bytes.take 16)) :: decodeExtents fuel (e + 1) (bytes.drop 16)

def HoldReason.code : HoldReason → Nat
  | .verdict => 1 | .trigger => 2 | .host => 3

def holdReasonOf : Nat → Option HoldReason
  | 1 => some .verdict | 2 => some .trigger | 3 => some .host | _ => none

/-- The 32 bytes of a hold record. -/
def encodeHold (h : Hold) : List Byte :=
  bytesOf 2 h.id ++ bytesOf 1 h.service ++ bytesOf 1 h.reason.code ++ bytesOf 4 h.lo ++ bytesOf 4 h.hi ++
    bytesOf 1 (flagBit h.origin.isSome 0 + flagBit h.keepUntil.isSome 1) ++ bytesOf 4 (h.origin.getD 0) ++
    bytesOf 4 (h.keepUntil.getD 0) ++ zeros 11

/-- A hold record, none when a field holds a value outside those the table gives (R186, step 4). -/
def decodeHold (bytes : List Byte) : Option Hold :=
  let flags := fieldAt bytes 12 1
  match holdReasonOf (fieldAt bytes 3 1) with
  | none => none
  | some reason =>
    if 1 ≤ fieldAt bytes 0 2 ∧ fieldAt bytes 2 1 ≤ 15 ∧ fieldAt bytes 4 4 ≤ fieldAt bytes 8 4 ∧ flags ≤ 3 then
      some { id := fieldAt bytes 0 2, service := fieldAt bytes 2 1, lo := fieldAt bytes 4 4, hi := fieldAt bytes 8 4,
             reason := reason, origin := if flags.testBit 0 then some (fieldAt bytes 13 4) else none,
             keepUntil := if flags.testBit 1 then some (fieldAt bytes 17 4) else none }
    else none

/-- Page 257. -/
def encodeHolds (next : Nat) (holds : List Hold) : List Byte :=
  bytesOf 2 next ++ bytesOf 1 holds.length ++ zeros 61 ++ (holds.map encodeHold).flatten

/-- `n` hold records from the front of some bytes. -/
def decodeHoldList : Nat → List Byte → Option (List Hold)
  | 0, _ => some []
  | n + 1, bytes =>
    match decodeHold (bytes.take 32), decodeHoldList n (bytes.drop 32) with
    | some h, some hs => some (h :: hs)
    | _, _ => none

/-- Page 257 as read: the next hold id and the holds in ascending id (R186, step 4). -/
def decodeHolds (bytes : List Byte) : Option (Nat × List Hold) :=
  let next := fieldAt bytes 0 2
  let n := fieldAt bytes 2 1
  match decodeHoldList n (bytes.drop 64) with
  | none => none
  | some hs =>
    if 1 ≤ next ∧ n ≤ Config.holdCount ∧ (hs.map Hold.id).Nodup then some (next, sortByKey Hold.id hs) else none

def Coefficients.encode (c : Coefficients) : List Byte :=
  signedBytes 4 c.b0 ++ signedBytes 4 c.b1 ++ signedBytes 4 c.b2 ++ signedBytes 4 c.a1 ++ signedBytes 4 c.a2

/-- Five coefficients from `offset` on. -/
def decodeCoefficients (bytes : List Byte) (offset : Nat) : Coefficients where
  b0 := signedOf 4 (fieldAt bytes offset 4)
  b1 := signedOf 4 (fieldAt bytes (offset + 4) 4)
  b2 := signedOf 4 (fieldAt bytes (offset + 8) 4)
  a1 := signedOf 4 (fieldAt bytes (offset + 12) 4)
  a2 := signedOf 4 (fieldAt bytes (offset + 16) 4)

/-- The per-kind defaults as bits, set for REQ. -/
def defaultBits (l : List Requirement) : Nat :=
  ((List.range 6).map fun k => flagBit (decide (l.getD k .exempt = .required)) k).sum

/-- The 128 bytes of a profile record. -/
def encodeProfile (p : Profile) : List Byte :=
  bytesOf 1 (flagBit p.enabled 0) ++ bytesOf 1 (p.channels.getD 0) ++
    ((List.range 6).map fun k => bytesOf 2 (p.weights.getD k 0)).flatten ++ p.section1.encode ++ p.section2.encode ++
    signedBytes 1 p.offset ++ signedBytes 2 p.target ++ signedBytes 1 p.tolerance ++ signedBytes 1 p.advertMargin ++
    signedBytes 2 p.advertCeiling ++ signedBytes 2 p.peakCeiling ++ signedBytes 2 p.gateOffset ++
    signedBytes 2 p.silenceThreshold ++ bytesOf 1 p.silenceLimit ++ bytesOf 2 p.feedTimeout ++
    bytesOf 1 p.feedTolerance ++ bytesOf 1 p.slotMask ++ bytesOf 1 (defaultBits p.kindDefaults) ++
    bytesOf 1 p.carriageTimeout ++ bytesOf 2 p.gapLimit ++ bytesOf 2 p.coverageMinimum ++ bytesOf 2 p.advertLimit ++
    bytesOf 1 (flagBit p.countPromos 0) ++ bytesOf 1 (flagBit p.recording 0) ++ bytesOf 2 p.retention ++
    bytesOf 1 (flagBit p.strict 0) ++ bytesOf 2 p.evidenceMargin ++ bytesOf 1 (flagBit p.holdOnFail 0) ++
    bytesOf 2 p.keepDays ++ bytesOf 1 p.alarmMask ++ zeros 37

/-- A profile record's fields, read as they stand. -/
def readProfile (b : List Byte) : Profile where
  enabled := decide (fieldAt b 0 1 = 1)
  channels := if fieldAt b 1 1 = 0 then none else some (fieldAt b 1 1)
  weights := (List.range 6).map fun k => fieldAt b (2 + 2 * k) 2
  section1 := decodeCoefficients b 14
  section2 := decodeCoefficients b 34
  offset := signedOf 1 (fieldAt b 54 1)
  target := signedOf 2 (fieldAt b 55 2)
  tolerance := fieldAt b 57 1
  advertMargin := signedOf 1 (fieldAt b 58 1)
  advertCeiling := signedOf 2 (fieldAt b 59 2)
  peakCeiling := signedOf 2 (fieldAt b 61 2)
  gateOffset := signedOf 2 (fieldAt b 63 2)
  silenceThreshold := signedOf 2 (fieldAt b 65 2)
  silenceLimit := fieldAt b 67 1
  feedTimeout := fieldAt b 68 2
  feedTolerance := fieldAt b 70 1
  slotMask := fieldAt b 71 1
  kindDefaults := (List.range 6).map fun k => if (fieldAt b 72 1).testBit k then .required else .exempt
  carriageTimeout := fieldAt b 73 1
  gapLimit := fieldAt b 74 2
  coverageMinimum := fieldAt b 76 2
  advertLimit := fieldAt b 78 2
  countPromos := decide (fieldAt b 80 1 = 1)
  recording := decide (fieldAt b 81 1 = 1)
  retention := fieldAt b 82 2
  strict := decide (fieldAt b 84 1 = 1)
  evidenceMargin := fieldAt b 85 2
  holdOnFail := decide (fieldAt b 87 1 = 1)
  keepDays := fieldAt b 88 2
  alarmMask := fieldAt b 90 1

def within (lo hi n : Int) : Bool := decide (lo ≤ n) && decide (n ≤ hi)

/-- Every field of a profile lies in its range (R98, section 12.3), and an enabled profile's channel count is set. -/
def Profile.inRange (p : Profile) : Bool :=
  (match p.channels with
    | none => !p.enabled
    | some c => within 1 6 c) &&
  decide (p.weights.length = 6) && p.weights.all (fun w => within 0 512 w) &&
  within (-20) 20 p.offset && within (-400) (-100) p.target && within 5 50 p.tolerance && within (-50) 50 p.advertMargin &&
  within (-300) 0 p.advertCeiling && within (-200) 0 p.peakCeiling && within (-200) (-50) p.gateOffset &&
  within (-900) (-300) p.silenceThreshold && within 1 120 p.silenceLimit && within 100 5000 p.feedTimeout &&
  within 0 60 p.feedTolerance && within 0 15 p.slotMask && decide (p.kindDefaults.length = 6) &&
  within 1 30 p.carriageTimeout && within 5 600 p.gapLimit && within 0 1000 p.coverageMinimum &&
  within 0 3600 p.advertLimit && within 1 365 p.retention && within 0 600 p.evidenceMargin && within 1 3650 p.keepDays &&
  within 0 127 p.alarmMask

/-- The bytes that are marks or codes hold values the table gives. -/
def profileMarksOk (b : List Byte) : Bool :=
  [0, 80, 81, 84, 87].all (fun k => decide (fieldAt b k 1 ≤ 1)) && decide (fieldAt b 72 1 < 64)

/-- A profile record, none when a field holds a value outside those the table gives (R186, step 4). -/
def decodeProfile (b : List Byte) : Option Profile :=
  if profileMarksOk b && (readProfile b).inRange then some (readProfile b) else none

def triggerClasses : List CondClass := [.feedLost, .deadAir, .subLapsed, .subGap, .adTime, .recordGap]

def classCode (c : CondClass) : Nat := triggerClasses.idxOf c + 1

def TriggerEvent.codes : TriggerEvent → Nat × Nat
  | .condOpen c => (1, classCode c) | .condClose c => (2, classCode c) | .verdictFail => (3, 0) | .peakOver => (4, 0)

def classOfCode (n : Nat) : Option CondClass := if n = 0 then none else triggerClasses[n - 1]?

def eventOfCodes (event cls : Nat) : Option TriggerEvent :=
  match event with
  | 1 => (classOfCode cls).map .condOpen
  | 2 => (classOfCode cls).map .condClose
  | 3 => if cls = 0 then some .verdictFail else none
  | 4 => if cls = 0 then some .peakOver else none
  | _ => none

def TriggerAction.code : TriggerAction → Nat
  | .hold => 1 | .report => 2 | .both => 3

def actionOfCode : Nat → Option TriggerAction
  | 1 => some .hold | 2 => some .report | 3 => some .both | _ => none

/-- The 16 bytes of a trigger record. -/
def encodeTrigger : Option Trigger → List Byte
  | none => zeros 16
  | some t =>
    bytesOf 1 1 ++ bytesOf 1 t.event.codes.1 ++ bytesOf 1 t.event.codes.2 ++ bytesOf 1 (t.service.getD 255) ++
      bytesOf 1 t.action.code ++ bytesOf 2 t.pre ++ bytesOf 2 t.post ++ zeros 7

/-- The service and the two windows of a trigger record hold values the table gives. -/
def triggerRangesOk (b : List Byte) : Bool :=
  (decide (fieldAt b 3 1 ≤ 15) || decide (fieldAt b 3 1 = 255)) && decide (fieldAt b 5 2 ≤ 600) &&
    decide (fieldAt b 7 2 ≤ 600)

/-- The event with its class, and the action, that a trigger record names, none for a code outside the table. -/
def triggerCodes (b : List Byte) : Option TriggerEvent × Option TriggerAction :=
  (eventOfCodes (fieldAt b 1 1) (fieldAt b 2 1), actionOfCode (fieldAt b 4 1))

/-- The codes of a clear slot: those the table gives, or the 0 a clear slot is written with (DEDUCED, log entry 18). -/
def clearCodesOk (b : List Byte) : Bool :=
  ((triggerCodes b).1.isSome || (decide (fieldAt b 1 1 = 0) && decide (fieldAt b 2 1 = 0))) &&
    ((triggerCodes b).2.isSome || decide (fieldAt b 4 1 = 0))

/-- A trigger record: the outer none when a field holds a value outside those the table gives (R186, step 4), the inner
none for a clear slot, whose fields are tested too. -/
def decodeTrigger (b : List Byte) : Option (Option Trigger) :=
  if triggerRangesOk b then
    match fieldAt b 0 1, triggerCodes b with
    | 0, _ => if clearCodesOk b then some none else none
    | 1, (some ev, some ac) =>
      let svc := fieldAt b 3 1
      some (some ⟨ev, if svc = 255 then none else some svc, ac, fieldAt b 5 2, fieldAt b 7 2⟩)
    | _, _ => none
  else none

/-- Page 258. -/
def encodeSettings (profiles : List Profile) (triggers : List (Option Trigger)) : List Byte :=
  (profiles.map encodeProfile).flatten ++ (triggers.map encodeTrigger).flatten

/-- Reads `n` records of `size` bytes each with `f`; none when one is refused. -/
def decodeRecords {α : Type} (f : List Byte → Option α) (size : Nat) : Nat → List Byte → Option (List α)
  | 0, _ => some []
  | n + 1, bytes =>
    match f (bytes.take size), decodeRecords f size n (bytes.drop size) with
    | some x, some xs => some (x :: xs)
    | _, _ => none

/-- Page 258 as read: 16 profiles and 8 trigger slots (R186, step 4). -/
def decodeSettings (bytes : List Byte) : Option (List Profile × List (Option Trigger)) :=
  match decodeRecords decodeProfile 128 16 bytes, decodeRecords decodeTrigger 16 8 (bytes.drop 2048) with
  | some ps, some ts => some (ps, ts)
  | _, _ => none

/-- The extent table page `page` with its records; an unlisted extent is FREE. -/
def encodeExtents (page : Nat) (records : List (Nat × Extent)) : List Byte :=
  ((List.range 4096).map fun k => encodeExtent (tableGet .free records (4096 * (page - 1) + k))).flatten

/-- The bytes of a directory page as written (section 12.3). -/
def DirectoryImage.bytes (page : Nat) : DirectoryImage → List Byte
  | .header b c n l k => filledTo Config.pageBytes (encodeHeader ⟨b, c, n, l, k⟩)
  | .extents records => filledTo Config.pageBytes (encodeExtents page records)
  | .holds next hs => filledTo Config.pageBytes (encodeHolds next hs)
  | .settings ps ts => filledTo Config.pageBytes (encodeSettings ps ts)

/-! ### Export frames (section 12.4) -/

/-- One bit of the CRC-32 register, most significant first (R194). -/
def crcShift (r : BitVec 32) : BitVec 32 := if r.msb then (r <<< 1) ^^^ 0x04C11DB7#32 else r <<< 1

/-- One byte enters the register. -/
def crcByte (r : BitVec 32) (b : Byte) : BitVec 32 :=
  crcShift (crcShift (crcShift (crcShift (crcShift (crcShift (crcShift (crcShift (r ^^^ (b.setWidth 32 <<< 24)))))))))

/-- The CRC-32 of a run of bytes (R194). -/
def crc32 (bytes : List Byte) : BitVec 32 := ~~~(bytes.foldl crcByte 0xFFFFFFFF#32)

/-- A frame up to its CRC (section 12.4). -/
def Frame.covered (f : Frame) : List Byte :=
  bytesOf 4 0xA55A2416 ++ bytesOf 2 f.exportId ++ bytesOf 4 f.sequence ++ bytesOf 1 (f.service.getD 255) ++
    bytesOf 4 f.extent ++ bytesOf 1 f.page ++
    bytesOf 1 (flagBit f.unreadable 0 + flagBit f.log 1 + flagBit f.damaged 2 + flagBit f.last 3) ++
    bytesOf 4 (if f.unreadable then 0 else Config.pageBytes) ++
    (if f.unreadable then [] else filledTo Config.pageBytes f.payload)

/-- The bytes of a frame on the export line (R194). -/
def Frame.bytes (f : Frame) : List Byte := f.covered ++ bytesOf 4 (crc32 f.covered).toNat

/-- A byte's bits, most significant first. -/
def byteBits (b : Byte) : List Bool := (List.range 8).reverse.map b.getLsbD

/-- The bits of a run of bytes as the export line carries them: byte by byte, one bit per clock (R194). -/
def lineBits (bytes : List Byte) : List Bool := (bytes.map byteBits).flatten

/-- The bits of a frame on the export line (R194). -/
def Frame.bits (f : Frame) : List Bool := lineBits f.bytes

/-- The frame that is on the export line: EE is SENDING (R166). -/
def State.frameOnLine (s : State) : Option Frame :=
  match s.ee.current with
  | none => none
  | some x => if x.state = .sending then x.frame else none

/-- The export line's clock runs while a frame is being sent and stops between frames (R194). -/
def State.exportClock (s : State) : Bool := s.frameOnLine.isSome

/-- The bits that leave on the export line until the next EXPORT_FRAME_END; none while the clock stands (R194). -/
def State.exportLine (s : State) : List Bool := ((s.frameOnLine.map Frame.bits).getD [])

/-- What a receiver has of a frame that a reset cuts off after `clocks` bits of the line: it ends before its CRC (R169,
R194). How many bits had left is timing (log entry 25). -/
def Frame.cut (f : Frame) (clocks : Nat) : List Bool := (lineBits f.covered).take clocks

end Sys2Proof.Machine
end

