-- ==== Sys2Proof/Machine/Operands.lean ====
section
/-! DEFINITION. Operand forms of the command records (R171, R173): the fields of a text, numbers, words, the profile's
keywords (R98), and the forms each verb takes. -/

namespace Sys2Proof.Machine

/-! ### Fields and numbers (R171) -/

/-- A text's fields: the runs between spaces, empty runs kept. -/
def splitAt (sep : Nat) : Text → List Text
  | [] => [[]]
  | c :: rest =>
    if c = sep then [] :: splitAt sep rest
    else match splitAt sep rest with
      | [] => [[c]]
      | w :: ws => (c :: w) :: ws

def isDigit (c : Nat) : Bool := decide (48 ≤ c ∧ c ≤ 57)

def digitsValue (t : Text) : Nat := t.foldl (fun n c => n * 10 + (c - 48)) 0

/-- An unsigned field: 1 to 12 digits. -/
def parseNat (t : Text) : Option Nat :=
  if t.isEmpty ∨ 12 < t.length ∨ ¬ t.all isDigit then none else some (digitsValue t)

/-- A signed field: a leading minus sign is taken, a plus sign is not. -/
def parseInt (t : Text) : Option Int :=
  match t with
  | 45 :: rest => (parseNat rest).map fun n => -(n : Int)
  | _ => (parseNat t).map fun n => (n : Int)

/-- A field that holds a character that fails, holds no character, or is a number of more than 12 digits (R171). -/
def faultyField (t : Text) : Bool :=
  t.isEmpty || t.any (fun c => decide (c ≤ 32) || decide (127 ≤ c)) ||
    ((match t with
      | 45 :: rest => rest
      | _ => t).all isDigit && decide (12 < (match t with
        | 45 :: rest => rest
        | _ => t).length))

/-- The position of the first field that satisfies a test, the first field being `pos`. -/
def firstPosition (p : Text → Bool) : Nat → List Text → Option Nat
  | _, [] => none
  | pos, t :: rest => if p t then some pos else firstPosition p (pos + 1) rest

/-! ### Profile keywords (R98) -/

/-- What a keyword of PRF or PRQ names. -/
inductive Key where
  | ch
  | weight (k : Nat)
  | ofs | tgt | tol | adm | adc | pkc | gate | silt | sill | fto | ftol | slots
  | kindDefault (k : Nat)
  | cto | gapl | covm | adl | prc | rcd | ret | str | evm | hof | keep | amask
  | en
  | coeff (sec : Nat)
  deriving DecidableEq, Repr

/-- The keywords. -/
def keyTable : List (Text × Key) :=
  [(ascii "CH", .ch), (ascii "W1", .weight 0), (ascii "W2", .weight 1), (ascii "W3", .weight 2), (ascii "W4", .weight 3),
    (ascii "W5", .weight 4), (ascii "W6", .weight 5), (ascii "OFS", .ofs), (ascii "TGT", .tgt), (ascii "TOL", .tol),
    (ascii "ADM", .adm), (ascii "ADC", .adc), (ascii "PKC", .pkc), (ascii "GATE", .gate), (ascii "SILT", .silt),
    (ascii "SILL", .sill), (ascii "FTO", .fto), (ascii "FTOL", .ftol), (ascii "SLOTS", .slots)] ++
  [(ascii "RQP", .kindDefault 0), (ascii "RQB", .kindDefault 1), (ascii "RQA", .kindDefault 2),
    (ascii "RQR", .kindDefault 3), (ascii "RQS", .kindDefault 4), (ascii "RQO", .kindDefault 5), (ascii "CTO", .cto),
    (ascii "GAPL", .gapl), (ascii "COVM", .covm), (ascii "ADL", .adl), (ascii "PRC", .prc), (ascii "REC", .rcd),
    (ascii "RET", .ret), (ascii "STR", .str), (ascii "EVM", .evm), (ascii "HOF", .hof), (ascii "KEEP", .keep),
    (ascii "AMASK", .amask), (ascii "EN", .en), (ascii "C1", .coeff 1), (ascii "C2", .coeff 2)]

def keyOf (t : Text) : Option Key := (keyTable.find? fun e => decide (e.1 = t)).map Prod.snd

/-- PRF does not set the enabled mark or a coefficient (R99). -/
def Key.settable : Key → Bool
  | .en => false
  | .coeff _ => false
  | _ => true

def boolInt (b : Bool) : Int := if b then 1 else 0

/-- The range of a numeric field (R98). The fields whose range is written '0, 1' (PRC, REC, STR, HOF) are taken as
numeric, so that 2 is stored as 1 with CLAMPED (DESIGN CHOICE, log entry 24). -/
def Key.range : Key → Option (Int × Int)
  | .ch => some (1, 6) | .weight _ => some (0, 512) | .ofs => some (-20, 20) | .tgt => some (-400, -100)
  | .tol => some (5, 50) | .adm => some (-50, 50) | .adc => some (-300, 0) | .pkc => some (-200, 0)
  | .gate => some (-200, -50) | .silt => some (-900, -300) | .sill => some (1, 120) | .fto => some (100, 5000)
  | .ftol => some (0, 60) | .slots => some (0, 15) | .cto => some (1, 30) | .gapl => some (5, 600)
  | .covm => some (0, 1000) | .adl => some (0, 3600) | .prc => some (0, 1) | .rcd => some (0, 1) | .ret => some (1, 365)
  | .str => some (0, 1) | .evm => some (0, 600) | .hof => some (0, 1) | .keep => some (1, 3650)
  | .kindDefault _ | .amask | .en | .coeff _ => none

/-- The field takes a minus sign. -/
def Key.signed (k : Key) : Bool :=
  match k.range with
  | some (lo, _) => decide (lo < 0)
  | none => false

/-- Alarm mask classes in bit order (R98). -/
def maskClasses : List CondClass := [.feedLost, .deadAir, .subLapsed, .subGap, .adTime, .recordGap, .refLost]

/-- An alarm mask as PRF and PRQ show it: a list of class names, ALL or NONE (R98). That the names stand in bit order
and that all seven read ALL is the model's choice (DESIGN CHOICE, log entry 6). -/
def maskText (m : Nat) : Text :=
  if m = 127 then ascii "ALL" else if m = 0 then noneText
  else commas ((maskClasses.filter fun c => inMask m c).map CondClass.text)

/-- The mask that a list of class names spells. A class named twice counts once: R98 does not speak of it (DESIGN
CHOICE, log entry 24). -/
def parseMask (t : Text) : Option Nat :=
  if t = ascii "ALL" then some 127 else if t = noneText then some 0
  else (splitAt 44 t).foldr (fun w acc =>
    match maskClasses.find? (fun c => decide (c.text = w)), acc with
    | some c, some m => some (m ||| 2 ^ (c.maskBit.getD 0))
    | _, _ => none) (some 0)

def parseDefault (t : Text) : Option Requirement :=
  if t = ascii "REQ" then some .required else if t = ascii "EXM" then some .exempt else none

/-- A value as a field takes it. -/
inductive Value where
  | number (n : Int)
  | default (r : Requirement)
  | mask (m : Nat)
  deriving DecidableEq, Repr

/-- A value's text read in the form of its field; none is SYNTAX (R99). -/
def Key.parse (k : Key) (t : Text) : Option Value :=
  match k with
  | .kindDefault _ => (parseDefault t).map .default
  | .amask => (parseMask t).map .mask
  | _ => if k.signed then (parseInt t).map .number else (parseNat t).map fun n => .number n

/-- The value as stored (R99). -/
def Key.clamped (k : Key) : Value → Value
  | .number n =>
    match k.range with
    | some (lo, hi) => .number (clampInt lo hi n)
    | none => .number n
  | v => v

def setAt {α : Type} (l : List α) (k : Nat) (x : α) : List α := l.modify k fun _ => x

/-- Stores a value in its field. -/
def Key.store (k : Key) (v : Value) (p : Profile) : Profile :=
  match k, v with
  | .kindDefault j, .default r => { p with kindDefaults := setAt p.kindDefaults j r }
  | .amask, .mask m => { p with alarmMask := m }
  | .ch, .number n => { p with channels := some n.toNat }
  | .weight j, .number n => { p with weights := setAt p.weights j n.toNat }
  | .ofs, .number n => { p with offset := n }
  | .tgt, .number n => { p with target := n }
  | .tol, .number n => { p with tolerance := n }
  | .adm, .number n => { p with advertMargin := n }
  | .adc, .number n => { p with advertCeiling := n }
  | .pkc, .number n => { p with peakCeiling := n }
  | .gate, .number n => { p with gateOffset := n }
  | .silt, .number n => { p with silenceThreshold := n }
  | .sill, .number n => { p with silenceLimit := n.toNat }
  | .fto, .number n => { p with feedTimeout := n.toNat }
  | .ftol, .number n => { p with feedTolerance := n.toNat }
  | .slots, .number n => { p with slotMask := n.toNat }
  | .cto, .number n => { p with carriageTimeout := n.toNat }
  | .gapl, .number n => { p with gapLimit := n.toNat }
  | .covm, .number n => { p with coverageMinimum := n.toNat }
  | .adl, .number n => { p with advertLimit := n.toNat }
  | .prc, .number n => { p with countPromos := decide (n = 1) }
  | .rcd, .number n => { p with recording := decide (n = 1) }
  | .ret, .number n => { p with retention := n.toNat }
  | .str, .number n => { p with strict := decide (n = 1) }
  | .evm, .number n => { p with evidenceMargin := n.toNat }
  | .hof, .number n => { p with holdOnFail := decide (n = 1) }
  | .keep, .number n => { p with keepDays := n.toNat }
  | _, _ => p

def coefficientTexts (c : Coefficients) : List Text := [c.b0, c.b1, c.b2, c.a1, c.a2].map intText

/-- A field as PRF and PRQ show it (R99, R100; text forms in log entry 6). -/
def Key.show (k : Key) (p : Profile) : Text :=
  match k with
  | .ch => match p.channels with
    | none => ascii "UNSET"
    | some c => natText c
  | .weight j => natText (p.weights.getD j 0)
  | .ofs => intText p.offset | .tgt => intText p.target | .tol => intText p.tolerance | .adm => intText p.advertMargin
  | .adc => intText p.advertCeiling | .pkc => intText p.peakCeiling | .gate => intText p.gateOffset
  | .silt => intText p.silenceThreshold | .sill => natText p.silenceLimit | .fto => natText p.feedTimeout
  | .ftol => natText p.feedTolerance | .slots => natText p.slotMask
  | .kindDefault j => if p.kindDefaults.getD j .exempt = .required then ascii "REQ" else ascii "EXM"
  | .cto => natText p.carriageTimeout | .gapl => natText p.gapLimit | .covm => natText p.coverageMinimum
  | .adl => natText p.advertLimit | .prc => intText (boolInt p.countPromos) | .rcd => intText (boolInt p.recording)
  | .ret => natText p.retention | .str => intText (boolInt p.strict) | .evm => natText p.evidenceMargin
  | .hof => intText (boolInt p.holdOnFail) | .keep => natText p.keepDays | .amask => maskText p.alarmMask
  | .en => if p.enabled then ascii "ENABLED" else ascii "DISABLED"
  | .coeff 1 => commas (coefficientTexts p.section1)
  | .coeff _ => commas (coefficientTexts p.section2)

/-- One key and value of a PRF record, read. -/
structure Assignment where
  key : Key
  name : Text
  value : Value
  deriving DecidableEq, Repr

/-- The position of the first field at fault in the pairs of a PRF record, whose first keyword is field `pos`: a keyword
given twice, or a value not in its field's form (R99). A value of a keyword that names nothing has no form. -/
def pairsFault : Nat → List Text → List (Text × Text) → Option Nat
  | _, _, [] => none
  | pos, seen, (k, v) :: rest =>
    if seen.contains k then some pos
    else match keyOf k with
      | none => pairsFault (pos + 2) (k :: seen) rest
      | some key =>
        if key.settable && (key.parse v).isNone then some (pos + 1) else pairsFault (pos + 2) (k :: seen) rest

/-- The assignments of a PRF record, or the first keyword that PRF does not know (R99). -/
def assignmentsOf : List (Text × Text) → Except Text (List Assignment)
  | [] => .ok []
  | (k, v) :: rest =>
    match keyOf k with
    | none => .error k
    | some key =>
      if key.settable then
        match key.parse v, assignmentsOf rest with
        | some x, .ok as => .ok (⟨key, k, x⟩ :: as)
        | _, .error e => .error e
        | none, .ok as => .ok as
      else .error k

/-! ### Other named operands -/

def meterOf (t : Text) : Option Meter := [Meter.mom, .stm, .run, .peak, .sil, .car, .adt].find? fun m => decide (m.text = t)

def triggerEvents : List TriggerEvent :=
  triggerClasses.map .condOpen ++ triggerClasses.map .condClose ++ [.verdictFail, .peakOver]

def eventOf (t : Text) : Option TriggerEvent := triggerEvents.find? fun e => decide (e.text = t)

def actionOf (t : Text) : Option TriggerAction := [TriggerAction.hold, .report, .both].find? fun a => decide (a.text = t)

/-- A trigger's service field: 0..15 or ALL; the outer none is RANGE (R163). -/
def triggerService (t : Text) : Option (Option Nat) :=
  if t = ascii "ALL" then some none
  else match parseNat t with
    | some n => if n < Config.serviceCount then some (some n) else none
    | none => none

/-! ### The record of a command: verb and fields -/

/-- The verb of a command record; the commands that are not records have none. -/
def verbOf : Instr → Text
  | .idn => ascii "IDN" | .sta _ => ascii "STA" | .svs .. => ascii "SVS" | .sve _ => ascii "SVE" | .svd _ => ascii "SVD"
  | .prf .. => ascii "PRF" | .prq .. => ascii "PRQ" | .wgt .. => ascii "WGT" | .tim _ => ascii "TIM" | .tiq => ascii "TIQ"
  | .mtr _ => ascii "MTR" | .log .. => ascii "LOG" | .lgc _ => ascii "LGC" | .lgn => ascii "LGN" | .ack _ => ascii "ACK"
  | .wch .. => ascii "WCH" | .wcx _ => ascii "WCX" | .hld .. => ascii "HLD" | .hlr _ => ascii "HLR" | .hlq _ => ascii "HLQ"
  | .trg .. => ascii "TRG" | .trx _ => ascii "TRX" | .exp _ => ascii "EXP" | .xab => ascii "XAB" | .exq => ascii "EXQ"
  | .ofl => ascii "OFL" | .onl => ascii "ONL" | .sav => ascii "SAV" | .fmt _ => ascii "FMT" | .rst => ascii "RST"
  | .ctq .. => ascii "CTQ"
  | .wordClockEdge _ | .dividerTick | .holdoverEntry | .hourBoundary | .feedUnit _ | .waitExpiry _
  | .audioTimeoutExpiry _ | .acquisitionWindowExpiry .. | .carriageTimeoutExpiry .. | .cueShow _ | .cueEnd ..
  | .subGapOpen .. | .adTimeOpen _ | .logBufferDue | .verdictCompletion | .spGrant | .recordedWriteSuccess
  | .recordedWriteFailure | .logPageWriteDone _ | .directoryWriteDone _ | .storageOperationTimeout | .exportReadDone _
  | .exportFrameEnd | .lowSupplyAssert | .lowSupplyDeassert | .powerOnReset | .pinReset | .rstResetApplied | .probeEnd _
  | .mountEnd _ | .formatEnd _ | .lineCharacter .. | .lineBreak | .transmitEnd | .watchDue _ | .unknownVerb _ => []

/-- The verbs of the catalogue (section 10.7). -/
def verbTable : List Text :=
  ["IDN", "STA", "SVS", "SVE", "SVD", "PRF", "PRQ", "WGT", "TIM", "TIQ", "MTR", "LOG", "LGC", "LGN", "ACK", "WCH",
    "WCX", "HLD", "HLR", "HLQ", "TRG", "TRX", "EXP", "XAB", "EXQ", "OFL", "ONL", "SAV", "FMT", "RST", "CTQ"].map ascii

def optField (n : Option Nat) : List Text := (n.map natText).toList

/-- The fields of a command record as the host sends them. -/
def fieldsOf : Instr → List Text
  | .sta g => g.toList
  | .svs svc g k => natText svc :: (g.toList ++ optField k)
  | .sve svc | .svd svc | .mtr svc | .ack svc => [natText svc]
  | .prf svc ps => natText svc :: (ps.map fun p => [p.1, p.2]).flatten
  | .prq svc ks => natText svc :: ks
  | .wgt svc sec b0 b1 b2 a1 a2 => natText svc :: natText sec :: [b0, b1, b2, a1, a2].map intText
  | .tim n | .lgc n | .wcx n | .hlr n | .trx n => [natText n]
  | .log n p => natText n :: optField p
  | .wch slot svc m n => [natText slot, natText svc, m, natText n]
  | .hld svc lo hi keep => [natText svc, natText lo, natText hi, natText keep]
  | .hlq n => optField n
  | .trg slot ev svc ac pre post => [natText slot, ev, svc, ac, natText pre, natText post]
  | .exp (.service svc lo hi) => [natText svc, natText lo, natText hi]
  | .exp (.extents a b) => [ascii "N", natText a, natText b]
  | .exp (.logPages a n) => [ascii "L", natText a, natText n]
  | .fmt low => optField low
  | .ctq svc .stack => [natText svc]
  | .ctq svc (.context d p) => natText svc :: natText d :: optField p
  | .ctq svc (.bins d b) => [natText svc, natText d, ascii "BIN", natText b]
  | _ => []

/-- The text of a command record. -/
def recordText (i : Instr) : Text :=
  match i with
  | .unknownVerb t => t
  | _ => words (verbOf i :: fieldsOf i)

/-- The forms that a verb's own rule adds to those of its fields: position of the first field at fault. -/
def formFault : Instr → Option Nat
  | .prf _ ps => if ps.isEmpty then some 2 else pairsFault 2 [] ps
  | .prq _ ks => if ks.isEmpty then some 2 else none
  | .svs _ g (some _) => if g = some (ascii "COND") then none else some 3
  | _ => none

/-- The smaller of two positions at fault. -/
def earlierFault : Option Nat → Option Nat → Option Nat
  | some a, some b => some (min a b)
  | some a, none => some a
  | none, b => b

/-- Test 3 of R173 on a command record. -/
def syntaxFault (i : Instr) : Option Nat := earlierFault (firstPosition faultyField 1 (fieldsOf i)) (formFault i)

/-! ### Reading a record's fields (test 3 of R173) -/

/-- A field's form. -/
inductive FieldForm where
  | unsigned | signed | word
  /-- One fixed word. -/
  | literal (t : Text)
  deriving DecidableEq, Repr

/-- The field has the form. -/
def FieldForm.fits (f : FieldForm) (t : Text) : Bool :=
  match f with
  | .unsigned => (parseNat t).isSome
  | .signed => (parseInt t).isSome
  | .word => !faultyField t
  | .literal w => decide (t = w)

/-- The position of the first field that is missing, surplus or not in its form. -/
def formsFault : Nat → List FieldForm → List Text → Option Nat
  | _, [], [] => none
  | pos, [], _ :: _ => some pos
  | pos, _ :: _, [] => some pos
  | pos, f :: fs, t :: ts => if f.fits t then formsFault (pos + 1) fs ts else some pos

def nat1 (t : Text) : Nat := (parseNat t).getD 0
def int1 (t : Text) : Int := (parseInt t).getD 0

/-- Key and value pairs; a keyword left without a value is the fault. -/
def pairUp : Nat → List Text → Except Nat (List (Text × Text))
  | _, [] => .ok []
  | pos, [_] => .error (pos + 1)
  | pos, k :: v :: rest =>
    match pairUp (pos + 2) rest with
    | .ok ps => .ok ((k, v) :: ps)
    | .error e => .error e

/-- Reads fields in given forms into a command. -/
def readForms (forms : List FieldForm) (fields : List Text) (i : Instr) : Except Nat Instr :=
  match formsFault 1 forms fields with
  | some p => .error p
  | none => .ok i

/-- Forms of a verb whose last fields may be left out: as many as the fields given, at least `least`. -/
def optionalForms (least : Nat) (forms : List FieldForm) (fields : List Text) : List FieldForm :=
  forms.take (max least fields.length)

/-- The `k`th field as an optional number. -/
def natAt (fields : List Text) (k : Nat) : Option Nat := (fields[k]?).bind parseNat

/-- Reads the fields of a verb of the catalogue: the command, or the position of the first field at fault. -/
def readFields (verb : Text) (f : List Text) : Except Nat Instr :=
  let w := fun k => f.getD k []
  let n := fun k => nat1 (w k)
  let z := fun k => int1 (w k)
  let u := FieldForm.unsigned
  if verb = ascii "IDN" then readForms [] f .idn
  else if verb = ascii "STA" then readForms (optionalForms 0 [.word] f) f (.sta f.head?)
  else if verb = ascii "SVS" then readForms (optionalForms 1 [u, .word, u] f) f (.svs (n 0) f[1]? (natAt f 2))
  else if verb = ascii "SVE" then readForms [u] f (.sve (n 0))
  else if verb = ascii "SVD" then readForms [u] f (.svd (n 0))
  else if verb = ascii "PRF" then
    match formsFault 1 [u] (f.take 1), pairUp 2 (f.drop 1) with
    | some p, _ => .error p
    | none, .error p =>
      let padded := match pairUp 2 (f.drop 1 ++ [[]]) with
        | .ok ps => pairsFault 2 [] ps
        | .error _ => none
      .error ((earlierFault (earlierFault (firstPosition faultyField 1 f) padded) (some p)).getD p)
    | none, .ok ps => .ok (.prf (n 0) ps)
  else if verb = ascii "PRQ" then
    match formsFault 1 [u] (f.take 1) with
    | some p => .error p
    | none => .ok (.prq (n 0) (f.drop 1))
  else if verb = ascii "WGT" then
    readForms [u, u, .signed, .signed, .signed, .signed, .signed] f (.wgt (n 0) (n 1) (z 2) (z 3) (z 4) (z 5) (z 6))
  else if verb = ascii "TIM" then readForms [u] f (.tim (n 0))
  else if verb = ascii "TIQ" then readForms [] f .tiq
  else if verb = ascii "MTR" then readForms [u] f (.mtr (n 0))
  else if verb = ascii "LOG" then readForms (optionalForms 1 [u, u] f) f (.log (n 0) (natAt f 1))
  else if verb = ascii "LGC" then readForms [u] f (.lgc (n 0))
  else if verb = ascii "LGN" then readForms [] f .lgn
  else if verb = ascii "ACK" then readForms [u] f (.ack (n 0))
  else if verb = ascii "WCH" then readForms [u, u, .word, u] f (.wch (n 0) (n 1) (w 2) (n 3))
  else if verb = ascii "WCX" then readForms [u] f (.wcx (n 0))
  else if verb = ascii "HLD" then readForms [u, u, u, u] f (.hld (n 0) (n 1) (n 2) (n 3))
  else if verb = ascii "HLR" then readForms [u] f (.hlr (n 0))
  else if verb = ascii "HLQ" then readForms (optionalForms 0 [u] f) f (.hlq (natAt f 0))
  else if verb = ascii "TRG" then
    readForms [u, .word, .word, .word, u, u] f (.trg (n 0) (w 1) (w 2) (w 3) (n 4) (n 5))
  else if verb = ascii "TRX" then readForms [u] f (.trx (n 0))
  else if verb = ascii "EXP" then
    if w 0 = ascii "N" then readForms [.word, u, u] f (.exp (.extents (n 1) (n 2)))
    else if w 0 = ascii "L" then readForms [.word, u, u] f (.exp (.logPages (n 1) (n 2)))
    else readForms [u, u, u] f (.exp (.service (n 0) (n 1) (n 2)))
  else if verb = ascii "XAB" then readForms [] f .xab
  else if verb = ascii "EXQ" then readForms [] f .exq
  else if verb = ascii "OFL" then readForms [] f .ofl
  else if verb = ascii "ONL" then readForms [] f .onl
  else if verb = ascii "SAV" then readForms [] f .sav
  else if verb = ascii "FMT" then readForms (optionalForms 0 [u] f) f (.fmt (natAt f 0))
  else if verb = ascii "RST" then readForms [] f .rst
  else
    if f.length ≤ 1 then readForms [u] f (.ctq (n 0) .stack)
    else if w 2 = ascii "BIN" then readForms [u, u, .word, u] f (.ctq (n 0) (.bins (n 1) (n 3)))
    else readForms (optionalForms 2 [u, u, u] f) f (.ctq (n 0) (.context (n 1) (natAt f 2)))

end Sys2Proof.Machine
end

