-- ==== Sys2Proof/Machine/StartUpOps.lean ====
section
/-! DEFINITION. Resets, mount, format and the supply-loss flush (chapter 11), and the enabling and disabling of a service
(R16, R17), which entry to RUN shares with SVE. -/

namespace Sys2Proof.Machine

/-! ### Resets (R185) -/

/-- The part right after a reset: every block at its reset values, in START. The level of the LOW_SUPPLY pin and the
commands that wait outside the part stand; a unit that is arriving is lost whole, the bytes of it that follow too (R18;
DEDUCED, log entry 19). -/
def resetTo (cause : ResetCause) (s : State) : State :=
  { State.reset with
    part := ⟨.start, cause, s.part.lowSupply⟩
    feedBytes := s.feedBytes
    feedLost := !s.feedBytes.isEmpty
    pending := s.pending }

/-! ### Enabling and disabling (R16, R17) -/

/-- FI's state of a service at SVE (R13, R16). -/
def Feed.enabledAt (now : Nat) : Feed := ⟨.waiting, now, none, 0, none⟩

/-- A service is enabled now, by SVE or at entry to RUN (R16, R39, R94, R118). -/
def enableService (i : Nat) (s : State) : State :=
  let s1 := s.modSvc i fun v =>
    { v with
      profile := { v.profile with enabled := true }
      feed := Feed.enabledAt s.now
      le := .reset
      sc := Subtitles.enabledAt s.now
      tally := ⟨s.tb.hour, s.now, true, 0, 0, 0, false⟩ }
  logTake (some i) .serviceEnabled s1

/-- RC's three marks of a service at their reset values (R149). -/
def clearMarks (i : Nat) (s : State) : State :=
  s.modRc i fun r => { r with intakeMark := none, issueMark := none, gapRecord := .closed }

/-- With no page of the service on its way, its FILLING extent becomes COMPLETE while the archive is ONLINE (R149). -/
def completeIdle (i : Nat) (s : State) : State :=
  if s.am.state = .online then
    match s.fillingExtent i with
    | some e => finishExtent e .complete s
    | none => s
  else s

/-- RC closes a service's recording at SVD (R149). -/
def closeRecording (i : Nat) (s : State) : State :=
  if (s.svc i).rc.filling.isSome then queueFilling i true s
  else if s.writeQueue.any (fun b => decide (b.service = i)) then s.modQueue (markNewest i)
  else match s.sp.operation with
    | some (.recorded e p b) =>
      if b.service = i then s.modSp fun q => { q with operation := some (.recorded e p { b with closeMark := true }) }
      else completeIdle i s
    | _ => completeIdle i s

/-- FI's and CU's steps of SVD (R17). -/
def disableFeed (i : Nat) (s : State) : State :=
  let s1 := closeCond i .feedLost none .disable (s.modFeed i fun f => { f with state := .off })
  logTake (some i) .serviceDisabled (s1.modProfile i fun p => { p with enabled := false })

/-- CU ends the tally of a service at SVD (R118). -/
def endTally (i : Nat) (s : State) : State :=
  (writeTally i false true s).modTally i fun t => { t with part := false, advertTicks := 0 }

/-- The entries of FI and CU at SVD: FEED_LOST's closing, SERVICE_DISABLED, HOUR_TALLY and the other closings (R17,
R111, R118). -/
def disableEntries (i : Nat) (s : State) : State := closeAllConditions i (endTally i (disableFeed i s))

/-- Everything SVD does at its tick (R17, R40, R73, R95, R111, R118, R149). The entries of FI and CU form one group
(R120, R121). ST's SEG_UNMEASURED entries follow it, and ST's hand-offs reach CU after the tally has ended (R118); R120
lets entries of different writers stand in any order (DESIGN CHOICE, log entry 24). -/
def disableService (i : Nat) (s : State) : State :=
  let s1 := grouped (disableEntries i) s
  let s2 := s1.modSvc i fun v => { v with le := v.le.disabled, sc := v.sc.disabledAt s.now }
  let s3 := disableSegments i s2
  clearMarks i (closeRecording i s3)

/-! ### Mount (R186) -/

/-- The bytes a page read returned; an unlisted page reads 0. -/
def pageOf (pages : DevicePages) (address : Nat) : List Byte := tableGet [] pages address

/-- A page of a FILLING extent is valid (R186, step 3). -/
def validPage (e page service : Nat) (before : Option PageHeader) (h : PageHeader) : Bool :=
  decide (h.type = 1) && decide (h.extent = e) && decide (h.page = page) && decide (h.service = service) &&
  (match before with
    | none => true
    | some g => decide (g.boot < h.boot) || (decide (g.boot = h.boot) && decide (g.firstTick ≤ h.firstTick)))

/-- The headers of the valid pages of a FILLING extent from `page` upward, at most `n` of them (R186, step 3). -/
def validPages (pages : DevicePages) (e service : Nat) : Nat → Nat → Option PageHeader → List PageHeader
  | 0, _, _ => []
  | n + 1, page, before =>
    let h := pageHeader (pageOf pages (16 * e + page))
    if validPage e page service before h then h :: validPages pages e service n (page + 1) (some h) else []

/-- A FILLING extent rebuilt from its valid pages (R186, step 3). Its gap-inside flag is set exactly when one of them
carries gap-before: R186 does not say that a flag already set in the FILLING record stays (DESIGN CHOICE, log entry 24).
-/
def rebuiltExtent (x : Extent) (hs : List PageHeader) (completion : Nat) : Extent :=
  if hs.isEmpty then .free
  else
    { state := .complete
      service := x.service
      completion := completion
      wall := hs.foldl (fun w h => joinWall (joinWall w h.firstSecond) h.lastSecond) none
      pages := hs.length
      gapInside := hs.any PageHeader.gapBefore }

/-- Step 3 over a table: the FILLING extents in ascending number, with the next completion sequence. -/
def rebuildFilling (pages : DevicePages) : List (Nat × Extent) → Nat → List (Nat × Extent) × Nat
  | [], next => ([], next)
  | (e, x) :: rest, next =>
    if x.state = .filling then
      let hs := validPages pages e x.service 16 0 none
      let r := rebuildFilling pages rest (if hs.isEmpty then next else completionAfter next)
      if hs.isEmpty then r else ((e, rebuiltExtent x hs next) :: r.1, r.2)
    else
      let r := rebuildFilling pages rest next
      ((e, x) :: r.1, r.2)

/-- Steps 1 to 6 of R186 on a device: what the tables become. -/
structure MountTables where
  header : DirectoryHeader
  extents : List (Nat × Extent)
  nextCompletion : Nat
  /-- Extent pages changed in step 3. -/
  changed : List Nat
  nextHold : Nat
  holds : List Hold
  profiles : List Profile
  triggers : List (Option Trigger)
  deriving DecidableEq, Repr

/-- The extent table as the directory gives it, recording extents only (R186, step 2). -/
def readExtents (n : Nat) (pages : DevicePages) : List (Nat × Extent) :=
  (((List.range ((n - 1) / 4096 + 1)).map fun k => decodeExtents 4096 (4096 * k) (pageOf pages (k + 1))).flatten).filter
    fun e => decide (Config.firstExtent ≤ e.1 ∧ e.1 < n)

/-- Steps 1 to 6 of R186; none when the mount ends UNFORMATTED. -/
def mountTables (n : Nat) (pages : DevicePages) : Option MountTables :=
  match decodeHeader n (pageOf pages 0), decodeHolds (pageOf pages 257), decodeSettings (pageOf pages 258) with
  | some h, some (nextHold, holds), some (profiles, triggers) =>
    let table := readExtents n pages
    let r := rebuildFilling pages table (completionAfter ((table.map fun e => e.2.completion).foldl max 0))
    some
      { header := h, extents := r.1, nextCompletion := r.2,
        changed := (table.filter fun e => decide (e.2.state = .filling)).foldl
          (fun l e => insertRising (extentPage e.1) l) [],
        nextHold := nextHold, holds := holds, profiles := profiles, triggers := triggers }
  | _, _, _ => none

/-- The free list in ascending extent number (R134). -/
def freeExtents (n : Nat) (extents : List (Nat × Extent)) : List Nat :=
  ((List.range n).drop Config.firstExtent).filter fun e => (tableGet .free extents e).state = .free

/-- The completion order by completion sequence (R134, R186 step 5). The spec gives no order to two extents read from the
directory with the same completion sequence: the lower extent number stands first (DESIGN CHOICE, log entry 24). -/
def completionOrder (extents : List (Nat × Extent)) : List Nat :=
  (sortByKey (fun e : Nat × Extent => e.2.completion)
    (extents.filter fun e => decide (e.2.state = .complete) || decide (e.2.state = .damaged))).map Prod.fst

/-- The boot counter after a mount (R186, step 7). -/
def nextBoot (n : Nat) : Nat := if n = 65535 then 1 else n + 1

/-- AM's tables after a mount that ends ONLINE; `boot` is the boot counter the on-chip header then holds. -/
def Archive.mounted (a : Archive) (n boot : Nat) (t : MountTables) : Archive :=
  { a with
    state := .online
    capacity := some n
    hasTable := true
    extents := t.extents
    free := freeExtents n t.extents
    order := completionOrder t.extents
    nextCompletion := t.nextCompletion
    lowWater := t.header.lowWater
    bootCounter := boot
    cleanFlag := false
    dirty := t.changed
    holds := t.holds
    nextHold := t.nextHold
    mount := .idle }

/-- AM's tables after a mount or a format that ends without an archive. The capacity last found and the low-water mark
stand: the spec does not say what STA ARC then shows for them (R153). The marks of dirty directory pages and the on-chip
clean flag are cleared: R148 clears the marks when a mount replaces the directory image, and does not speak of a mount
or a format that ends without one (R186, R188; DESIGN CHOICE, log entry 24). -/
def Archive.unmounted (a : Archive) (state : ArchiveState) : Archive :=
  { a with state := state, hasTable := false, extents := [], free := [], order := [], dirty := [], holds := [],
           nextHold := 1, cleanFlag := false, mount := .idle }

/-- CU and TU take the profiles and triggers of the directory; RC's marks follow (R185, R187). CL takes the boot number
at entry to RUN (R129). -/
def loadSettings (t : MountTables) (s : State) : State :=
  let s1 := { s with
    services := List.zipWith (fun (v : Service) p => { v with profile := p }) s.services t.profiles
    triggers := t.triggers }
  let s2 := (s1.enabledServices.filter fun i => (s1.svc i).profile.recording).foldl
    (fun (u : State) i => u.modRc i fun r => { r with intakeMark := some .mount }) s1
  s2.modAm fun a => { a with profilesLoaded := true }

/-- The profiles and triggers at their defaults (R186). -/
def defaultSettings (s : State) : State :=
  { s with
    services := s.services.map fun (v : Service) => { v with profile := .default }
    triggers := List.replicate 8 none }

/-- The service has pages of this boot staged. -/
def State.hasStaged (s : State) (i : Nat) : Bool :=
  (s.svc i).rc.filling.isSome || s.writeQueue.any (fun b => decide (b.service = i))

/-- Step 4 of R187 for one service: the gap record becomes INTAKE and RECORD_GAP opens with cause MOUNT. -/
def startUpGap (s : State) (i : Nat) : State :=
  let s1 := openCond i .recordGap none (some .mount) s
  s1.modRc i fun r =>
    { r with gapRecord := .intake, intakeMark := if s.hasStaged i then r.intakeMark else some .mount }

/-- RC records the loss of the payload that follows an assertion of LOW_SUPPLY (R190). The services are taken in ascending
order: R190 states none (DESIGN CHOICE, log entry 24). -/
def supplyLosses (s : State) : State :=
  (s.enabledServices.filter fun i => (s.svc i).profile.recording).foldl (fun t i => intakeLoss i .supply t) s

/-- RC queues every filling buffer as a partial page (R190, R192). The services are taken in ascending order: the rules
state none (DESIGN CHOICE, log entry 24). -/
def queueAllFilling (s : State) : State := allServices.foldl (fun t i => queueFilling i false t) s

/-- A supply flush starts (R190). Where it ends at the same tick, SUPPLY_LOW stands after the openings of RECORD_GAP: R190
states no order (DESIGN CHOICE, log entry 24). -/
def startSupplyFlush (s : State) : State :=
  flushStep (supplyLosses (queueAllFilling (s.modAm fun a =>
    { a with flush := .flushing, flushStart := s.now, flushForSupply := true })))

/-- LOW_SUPPLY is taken as asserted (R190): with the flush IDLE a flush starts. -/
def assertSupply (s : State) : State :=
  if s.am.flush = .idle then grouped startSupplyFlush s else s

/-- A page staged in MOUNT, with the boot number of the boot. -/
def Buffer.withBoot (boot : Nat) (b : Buffer) : Buffer := { b with boot := boot }

def Recorder.withBoot (boot : Nat) (r : Recorder) : Recorder := { r with filling := r.filling.map (Buffer.withBoot boot) }

/-- CL takes the boot number at entry to RUN, and the pages staged in MOUNT carry it (R129, R136; DEDUCED, log entry
24). -/
def takeBoot (boot : Nat) (s : State) : State :=
  let s1 := { s with
    services := s.services.map fun (v : Service) => { v with rc := v.rc.withBoot boot }
    writeQueue := s.writeQueue.map (Buffer.withBoot boot) }
  s1.modCl fun c => { c with boot := boot }

/-- The part enters RUN (R187). -/
def enterRun (shutdown : Shutdown) (outcome : MountOutcome) (s : State) : State :=
  let s0 := s.modPart fun p => { p with state := .run }
  let s1 := logTake none (.reset s.part.cause shutdown outcome (elapsed s.now s.am.mountStart)) s0
  let s2 := if s1.tb.refState = .holdover then
      logTake none (.refLost s1.tb.lastEdge) (openDevice .refLost s1) else s1
  let s3 := s2.enabledServices.foldl (fun t i => enableService i t) s2
  let s4 := (s3.enabledServices.filter fun i => (s3.svc i).profile.recording).foldl startUpGap s3
  if s4.part.lowSupply then assertSupply s4 else s4

/-- The mount at a reset ends without an archive (R186). -/
def mountWithout (state : ArchiveState) (outcome : MountOutcome) (s : State) : State :=
  enterRun .unknown outcome (takeBoot 0 (defaultSettings (s.modAm fun a => a.unmounted state)))

/-- The mount at a reset ends with its steps done (R186); its write of page 0 has succeeded (R139). -/
def mountDone (n : Nat) (pages : DevicePages) (s : State) : State :=
  match mountTables n pages with
  | none => mountWithout .unformatted .unformatted s
  | some t =>
    let boot := nextBoot t.header.bootCounter
    let s1 := if s.am.profilesLoaded then s else loadSettings t s
    enterRun (if t.header.clean then .clean else .unclean) .online
      (takeBoot boot ((writeSucceeded (s1.modAm fun a => a.mounted n boot t)).modCl fun c =>
        { c with nextPage := t.header.nextPage }))

/-- AM writes MOUNT_DONE, and STORAGE_ONLINE when the archive is ONLINE (R152, R186, R188). The duration counts from the
acceptance of ONL or FMT, after a failed probe too (DESIGN CHOICE, log entry 24). -/
def reportMount (outcome : MountOutcome) (s : State) : State :=
  let s1 := logTake none (.mountDone outcome (elapsed s.now s.am.mountStart)) s
  if s.am.state = .online then logTake none .storageOnline s1 else s1

/-- A mount started by ONL ends without an archive. -/
def remountWithout (state : ArchiveState) (outcome : MountOutcome) (s : State) : State :=
  grouped (reportMount outcome) (s.modAm fun a => a.unmounted state)

/-- A mount started by ONL ends with its steps done (R186): profiles, triggers and boot counter stay, and its write of
page 0 has succeeded (R139). -/
def remountDone (n : Nat) (pages : DevicePages) (s : State) : State :=
  match mountTables n pages with
  | none => remountWithout .unformatted .unformatted s
  | some t =>
    grouped (reportMount .online)
      ((writeSucceeded (s.modAm fun a => a.mounted n t.header.bootCounter t)).modCl fun c =>
        { c with nextPage := t.header.nextPage })

/-! ### The page operations of a mount (R139, R186) -/

/-- What a mount does next, by the pages it has read. -/
inductive MountNext where
  | read (address : Nat)
  /-- Step 1 or step 4 finds the directory not valid. -/
  | unformatted
  /-- Step 8, with the tables of steps 1 to 6. -/
  | write (tables : MountTables)
  deriving DecidableEq, Repr

/-- The page has been read. -/
def pageRead (pages : DevicePages) (address : Nat) : Bool := pages.any fun p => decide (p.1 = address)

/-- Step 3 of R186: for each FILLING extent in ascending number, the page after its valid ones, unless all 16 are. -/
def fillingReads (n : Nat) (pages : DevicePages) : List Nat :=
  (readExtents n pages).filterMap fun e =>
    let valid := (validPages pages e.1 e.2.service 16 0 none).length
    if e.2.state = .filling ∧ valid < 16 then some (16 * e.1 + valid) else none

/-- The pages of steps 2 to 4 in their order: the extent table, the FILLING extents, the holds and the settings. -/
def mountReads (n : Nat) (pages : DevicePages) : List Nat :=
  ((List.range ((n - 1) / 4096 + 1)).map fun k => k + 1) ++ fillingReads n pages ++ [257, 258]

/-- The next step of a mount on a device of capacity `n` (R186): step 1 reads and tests page 0, steps 2 to 4 read the
pages that have not been read, and steps 4 to 7 test the rest and end in step 8. -/
def mountNext (n : Nat) (pages : DevicePages) : MountNext :=
  if !pageRead pages 0 then .read 0
  else if (decodeHeader n (pageOf pages 0)).isNone then .unformatted
  else match (mountReads n pages).find? fun a => !pageRead pages a with
    | some a => .read a
    | none => match mountTables n pages with
      | none => .unformatted
      | some t => .write t

/-- The pages that the mount in progress has read. -/
def State.mountPages (s : State) : DevicePages :=
  match s.am.mount with
  | .reading pages => pages
  | _ => []

/-- The boot counter after step 7 of R186: it counts on at a reset only. -/
def State.mountBoot (s : State) (t : MountTables) : Nat :=
  if s.part.state = .run then t.header.bootCounter else nextBoot t.header.bootCounter

/-- A mount ends without an archive, at a reset or after ONL. -/
def mountEndsWithout (state : ArchiveState) (outcome : MountOutcome) (s : State) : State :=
  if s.part.state = .run then remountWithout state outcome s else mountWithout state outcome s

/-- The mount goes on with these pages read: its next operation begins, or it ends UNFORMATTED. The mount at a reset
loads the profiles once step 4 has found them valid (R185); step 7 changes the on-chip header, and step 8 writes page 0.
-/
def mountGoesOn (n : Nat) (pages : DevicePages) (s : State) : State :=
  let s1 := s.modAm fun a => { a with mount := .reading pages }
  match mountNext n pages with
  | .read address => startOperation (.mountRead address) s1
  | .unformatted => mountEndsWithout .unformatted .unformatted (endOperation s1)
  | .write t =>
    startOperation (.mountWrite (.header (s.mountBoot t) false n t.header.lowWater t.header.nextPage))
      ((if s.part.state = .run ∨ s.am.profilesLoaded then s1 else loadSettings t s1).modAm fun a =>
        { a with bootCounter := s.mountBoot t, cleanFlag := false })

/-- The mount's operation in flight ends (R186). An answer that does not fit it changes nothing. -/
def mountAnswered (s : State) (answer : PageAnswer) : State :=
  let n := s.am.capacity.getD 0
  match s.sp.operation, answer with
  | some (.mountRead address), .read page => mountGoesOn n (s.mountPages ++ [(address, page)]) s
  | some (.mountWrite _), .written =>
    if s.part.state = .run then remountDone n s.mountPages (endOperation s) else mountDone n s.mountPages (endOperation s)
  | some (.mountRead _), .failed | some (.mountWrite _), .failed =>
    mountEndsWithout .unavailable .unavailable (endOperation s)
  | _, _ => s

/-! ### Format (R188) -/

/-- The directory page that a format on capacity `n` writes after `page`: 0, the extent table, 257, 258. -/
def formatPageAfter (n page : Nat) : Option Nat :=
  if page < (n - 1) / 4096 + 1 then some (page + 1)
  else if page < 257 then some 257
  else if page = 257 then some 258
  else none

/-- AM's tables as a format leaves them (R188). No directory page is dirty: R148 clears the marks at a mount and does not
name a format, which writes the pages (DESIGN CHOICE, log entry 24). -/
def Archive.formatted (a : Archive) (n boot : Nat) : Archive :=
  { a with
    state := .online
    capacity := some n
    hasTable := true
    extents := []
    free := (List.range n).drop Config.firstExtent
    order := []
    nextCompletion := 1
    bootCounter := boot
    cleanFlag := false
    dirty := []
    holds := []
    nextHold := 1
    mount := .idle }

/-- The part with the archive that a format makes. -/
def State.formatted (s : State) : State :=
  (s.modAm fun a => a.formatted (a.capacity.getD 0) s.cl.boot).modCl fun c => { c with nextPage := 0 }

/-- SP writes a page of the format: the page of the archive that the format makes, as it stands at the grant (R188). -/
def writeFormatPage (page : Nat) (s : State) : State :=
  startOperation (.formatWrite page (s.formatted.directoryImage page)) s

/-- A format ends at a failed write (R188, R139). -/
def formatFailed (page : Nat) (s : State) : State :=
  latchIfDue (.directory page) none
    (grouped (reportMount .failed) ((countFailure s).modAm fun a => a.unmounted .unformatted))

/-- The format's write in flight ends: the next page is written, or the format ends (R188). -/
def formatAnswered (s : State) (ok : Bool) : State :=
  match s.sp.operation with
  | some (.formatWrite page _) =>
    let s1 := endOperation s
    if ok then
      match formatPageAfter (s.am.capacity.getD 0) page with
      | some next => writeFormatPage next (writeSucceeded s1)
      | none => grouped (reportMount .formatted) (writeSucceeded s1).formatted
    else formatFailed page s1
  | _ => s

/-! ### The end of a supply flush (R191), and the flush of an RST (R192) -/

/-- The flush of an RST starts now: no SUPPLY_LOW ends it (R192). -/
def Archive.startRstFlush (now : Nat) (a : Archive) : Archive :=
  { a with flush := .flushing, flushStart := now, flushForSupply := false }

/-- A flush ends because LOW_SUPPLY is deasserted: IDLE, the clean flag clear, and SUPPLY_OK (R191). -/
def cancelFlush (cancelled dirty : Bool) (s : State) : State :=
  let s1 := s.modAm fun a => { a with flush := .idle, cleanFlag := false }
  logTake none (.supplyOk cancelled) (if dirty then s1.markDirty 0 else s1)

/-- LOW_SUPPLY is deasserted (R191). A flush that an RST runs goes on (R192). An RST that waits for the supply flush
that ends here runs its own flush from this tick (DEDUCED, log entry 16). -/
def deassertSupply (s : State) : State :=
  match s.am.flush with
  | .idle => s
  | .flushing =>
    if s.am.flushForSupply then
      let s1 := cancelFlush true s.am.cleanFlag s
      if s.am.rstPending then s1.modAm (Archive.startRstFlush s.now) else s1
    else s
  | .flushed => cancelFlush false (decide (s.am.state = .online)) s

end Sys2Proof.Machine
end

