-- ==== Sys2Proof/Machine/Replies.lean ====
section
/-! DEFINITION. What the records of the control line show: the fields of the read-out records (R8, R42, R97, R112, R123,
R124, R130, R153, R162, R170, R180 to R184). Text forms the spec leaves open stand in log entry 6. -/

namespace Sys2Proof.Machine

def flagText (b : Bool) : Text := if b then ascii "SET" else ascii "CLEAR"

def hourTexts (h : Hour) : List Text := [natText h.number, timedText h.timed]

/-- TIQ's fields (R8). -/
def State.timeTexts (s : State) : List Text :=
  [natText s.now] ++
  (match s.wallNow with
    | none => [ascii "UNSET"]
    | some w => [natText w.second, natText w.tick]) ++
  [s.tb.refState.text] ++ hourTexts s.tb.hour ++ [optText natText s.tb.lastTim]

/-! ### Meters (R42, R97, R114, R178) -/

/-- The running integrated value of the credit target (R42). -/
def State.runningMeter (s : State) (i : Nat) : Option Int := (s.target i).bind fun c => (s.ctx c).running

/-- Carriage states of slots 0 to 3; a slot outside the mask, or of a disabled service, reads ABSENT (R97). -/
def State.carriageTexts (s : State) (i : Nat) : List Text :=
  allSlots.map fun k =>
    if (s.svc i).profile.enabled ∧ slotExpected (s.svc i).profile.slotMask k then (s.slot i k).carriage.text
    else Carriage.absent.text

def partText (part : Bool) : Text := if part then ascii "PART" else ascii "FULL"

/-- The advertising tally's members: hour, mark, PART or FULL, advert ticks (R114). -/
def State.tallyTexts (s : State) (i : Nat) : List Text :=
  let t := (s.svc i).tally
  hourTexts t.hour ++ [partText t.part, natText t.advertTicks]

/-- The value a meter shows (R178). -/
def State.meterText (s : State) (i : Nat) (m : Meter) : Text :=
  let v := s.svc i
  if v.profile.enabled then
    match m with
    | .mom => optText intText v.le.momentary
    | .stm => optText intText v.le.shortTerm
    | .run => optText intText (s.runningMeter i)
    | .peak => optText intText v.le.peakMeter
    | .sil => natText v.le.silenceRun
    | .car => commas (s.carriageTexts i)
    | .adt => commas (s.tallyTexts i)
  else
    match m with
    | .sil => natText 0
    | .car => commas (s.carriageTexts i)
    | _ => noneText

/-- MTR's fields (R183). -/
def State.meterTexts (s : State) (i : Nat) : List Text :=
  natText i :: ([Meter.mom, .stm, .run, .peak, .sil, .car, .adt].map fun m => [m.text, s.meterText i m]).flatten

/-- The report of a watch (R177, R178). -/
def State.watchReport (s : State) (k : Nat) (w : Watch) : Text :=
  words [ascii "^W", natText k, natText w.service, w.meter.text, s.meterText w.service w.meter]

/-! ### Device and service state (R112, R130, R153, R181, R182) -/

/-- STA without a group (R181). -/
def State.deviceTexts (s : State) : List Text :=
  [s.part.state.text, if s.part.state = .start then noneText else s.am.state.text] ++
  (match s.deviceTop with
    | none => [noneText]
    | some c => [c.cls.text, serviceText c.service]) ++
  [if s.alarm then ascii "ASSERTED" else ascii "DEASSERTED", natText (s.services.countP Service.unacknowledged),
    natText s.cu.queue.length, if s.cu.engine.isSome then ascii "EVALUATING" else ascii "IDLE",
    natText (s.lc.watches.countP Option.isSome)]

/-- STA LOG (R130). -/
def State.logTexts (s : State) : List Text :=
  [natText s.cl.boot, natText s.cl.lastSeq, optText natText s.oldestHeld, flagText s.cl.exhausted, s.cl.buffer.state.text,
    flagText s.cl.buffer.overflowed, flagText s.cl.buffer.dropped, natText s.cl.nextPage]

/-- How many extents are in a state, NONE while there is no table (R153). -/
def State.extentCount (s : State) (x : ExtentState) : Text :=
  if s.am.hasTable then
    natText (if x = .free then s.am.free.length else s.am.extents.countP fun e => decide (e.2.state = x))
  else noneText

/-- STA ARC (R153). -/
def State.archiveTexts (s : State) : List Text :=
  [if s.part.state = .start then noneText else s.am.state.text, optText natText s.am.capacity, natText s.am.lowWater] ++
  [ExtentState.free, .filling, .complete, .damaged, .retired].map s.extentCount ++
  [natText s.am.dirty.length, natText s.freeBuffers, natText s.writeQueue.length, natText s.sp.failures,
    flagText s.sp.faultLatched]

/-- SVS without a group (R182); a disabled service holds no tally (R118). -/
def State.serviceTexts (s : State) (i : Nat) : List Text :=
  let v := s.svc i
  [Key.en.show v.profile, v.feed.state.text, natText v.feed.errors, natText v.st.stack.length, natText v.st.overflow,
    optText (fun c => c.cls.text) (s.topCondition i), flagText v.unacknowledged] ++
  (if v.profile.enabled then s.tallyTexts i else [noneText])

/-- One condition as SVS COND lists it (R112, R182). A class that has no slot or no cause shows NONE in its place: the
rules give no form for it (DESIGN CHOICE, log entry 6). -/
def Condition.texts (c : Condition) : List Text :=
  [c.cls.text, optText natText c.slot, optText GapCause.text c.cause, natText c.openTick, optText natText c.openSeq]

/-- SVS SUB (R97, R182). The three values of each slot stand as plain fields, slots 0 to 3 in order and without their
numbers: the rules give no form (DESIGN CHOICE, log entry 6). -/
def State.subtitleTexts (s : State) (i : Nat) : List Text :=
  let v := s.svc i
  [natText (if v.profile.enabled then v.sc.queue.length else 0), if v.sc.episode then ascii "OPEN" else ascii "CLOSED"] ++
  (allSlots.map fun k =>
    let t := s.slot i k
    [if v.profile.enabled then t.carriage.text else Carriage.absent.text,
      optText (fun sh => natText sh.id) t.showing,
      if t.showing.isSome then ascii "COVERED" else natText t.uncoveredSince]).flatten

/-- SVS REC (R153). The FILLING extent and its page count are two fields, or one NONE (DESIGN CHOICE, log entry 6). -/
def State.recorderTexts (s : State) (i : Nat) : List Text :=
  let v := s.svc i
  [Key.rcd.show v.profile, optText (fun b => natText b.payload.length) v.rc.filling] ++
  (match s.fillingExtent i with
    | none => [noneText]
    | some e => [natText e, natText (s.extent e).pages]) ++
  [natText (s.writeQueue.countP fun b => decide (b.service = i)), v.rc.gapRecord.text]

/-! ### Contexts (R184) -/

def StackEntry.text (e : StackEntry) : Text :=
  joined 47 [natText e.id, e.kind.text, e.requirement.text, optText natText e.context]

/-- The CLOSED contexts of a service, the one under evaluation first (R184). -/
def State.closedContexts (s : State) (i : Nat) : List Nat :=
  ((s.cu.engine.map Evaluation.context).toList ++ s.cu.queue).filter fun c => decide ((s.ctx c).service = i)

/-- CTQ's first form (R184). The CLOSED contexts follow the stack as plain fields, without a field between (DESIGN
CHOICE, log entry 6). -/
def State.stackTexts (s : State) (i : Nat) : List Text :=
  natText (s.svc i).st.stack.length :: ((s.svc i).st.stack.reverse.map StackEntry.text ++ (s.closedContexts i).map natText)

/-- A wall time in a reply: its second and its tick as two fields, or UNTIMED. R184 gives no form for the open wall time
of a context (DESIGN CHOICE, log entry 6). -/
def wallTexts (w : Option WallStamp) : List Text :=
  match w with
  | none => [untimedText]
  | some w => [natText w.second, natText w.tick]

/-- Part 1 of a context (R184). -/
def State.contextTexts (s : State) (c : Nat) : List Text :=
  let x := s.ctx c
  [natText c, x.kind.text, natText x.openTick] ++ wallTexts x.openWall ++
  [if flagTexts x.flags false = [] then noneText else commas (flagTexts x.flags false), natText x.blockCount,
    natText x.belowGate, optText intText x.running, optText intText x.maxMomentary, optText intText x.maxShortTerm,
    intText x.peak, natText x.missing]

/-- Part 2 of a context (R97, R184): each slot as its number, a colon, and its covered ticks, lapsed ticks and longest
gap joined by commas. R97 and R184 give no text form (DESIGN CHOICE, log entry 6). -/
def State.contextSlotTexts (s : State) (i c : Nat) : List Text :=
  let x := s.ctx c
  (maskSlots (s.svc i).profile.slotMask).map fun k =>
    natText k ++ 58 :: commas [natText (x.covered.getD k 0), natText (x.lapsed.getD k 0), natText (x.longestGap.getD k 0)]

/-- CTQ's third form: up to 12 occupied bins at or above a bin, and the next (R184). -/
def State.binTexts (s : State) (c bin : Nat) : List Text :=
  let l := (s.ctx c).bins.filter fun b => decide (bin ≤ b.1)
  (l.take 12).map (fun b => natText b.1 ++ 58 :: natText b.2) ++ [optText natText ((l.drop 12).head?.map Prod.fst)]

/-! ### Holds and exports (R162, R170) -/

/-- HLQ's fields for the first hold of a list (R162). -/
def State.holdTexts (s : State) (h : Hold) (later : List Hold) : List Text :=
  [natText h.id, natText h.service, natText h.lo, natText h.hi, h.reason.text, optText natText h.origin,
    optText natText h.keepUntil, natText (s.extentsCovered h.service h.lo h.hi), optText (fun g => natText g.id) later.head?]

/-- The pages of an export list (R165). -/
def pagesToSend (items : List ExportItem) : Nat := (items.map ExportItem.pages).sum

/-- EXQ's fields (R170). The list position of the cursor counts from 0, as the page does: R170 gives no origin (DESIGN
CHOICE, log entry 6). -/
def State.exportTexts (s : State) : List Text :=
  match s.ee.current with
  | some x =>
    [natText x.id, x.kind.text, serviceText x.service, x.state.text, natText x.position, natText x.page,
      natText (pagesToSend x.items), natText x.frames, natText x.unreadable] ++ (if x.stop then [ascii "STOP"] else [])
  | none =>
    ascii "IDLE" :: (match s.ee.last with
      | none => [noneText]
      | some (id, o) => [natText id, o.text])

end Sys2Proof.Machine
end

