-- ==== Sys2Proof/Machine/VerbOps.lean ====
section
/-! DEFINITION. What each verb of section 10.7 does once its record is taken (tests 4 and 5 of R173, the effect, and the
reply). -/

namespace Sys2Proof.Machine

/-- What a command does to the part and its reply; before RUN, RST gives none (R185). -/
abbrev Answer := State × Option Text

def say (verb : String) (fields : List Text) (s : State) : Answer := (s, some (accepted (ascii verb) fields))

def deny (verb code : String) (detail : List Text) (s : State) : Answer :=
  (s, some (refusedReply (ascii verb) (ascii code) detail))

/-- Test 4 of R173 for one identifier: outside its range it is refused with the value as sent, field `k` of the record's
fields, counting from 0. -/
def inRange (verb : String) (ok : Bool) (sent : List Text) (k : Nat) (s : State) (rest : Answer) : Answer :=
  if ok then rest else deny verb "RANGE" [sent.getD k []] s

def serviceOk (svc : Nat) : Bool := decide (svc < Config.serviceCount)

def idOk (id : Nat) : Bool := decide (1 ≤ id ∧ id ≤ Config.lastId)

def sequenceOk (n : Nat) : Bool := decide (1 ≤ n ∧ n ≤ Config.lastSequence)

/-- The largest wall second (R5). -/
def lastSecond : Nat := Config.wallModulus - 1

/-! ### Device (R180, R181) -/

def opIdn (s : State) : Answer :=
  say "IDN" [ascii "KALTRIN", ascii "MODEGRA2416", natText Config.revision, s.part.state.text] s

/-- STA clears REPORTS-DROPPED as its reply carries it (R181). -/
def saySta (fields : List Text) (s : State) : Answer :=
  say "STA" (fields ++ [if s.lc.dropped then ascii "DROPPED" else ascii "OK"])
    (s.modLc fun l => { l with dropped := false })

def opSta (group : Option Text) (s : State) : Answer :=
  match group with
  | none => saySta s.deviceTexts s
  | some g =>
    if g = ascii "LOG" then saySta s.logTexts s
    else if g = ascii "ARC" then saySta s.archiveTexts s
    else deny "STA" "UNKNOWN" [g] s

/-! ### Services (R16, R17, R22, R99, R100, R108, R182 to R184) -/

def opSvsCond (svc k : Nat) (sent : List Text) (s : State) : Answer :=
  let l := s.conditionsOf svc
  inRange "SVS" (decide (1 ≤ k)) sent 2 s <|
    match l[k - 1]? with
    | none => deny "SVS" "NONE" [natText l.length] s
    | some c => say "SVS" (natText l.length :: c.texts) s

def opSvs (svc : Nat) (group : Option Text) (k : Option Nat) (sent : List Text) (s : State) : Answer :=
  inRange "SVS" (serviceOk svc) sent 0 s <|
    match group with
    | none => say "SVS" (s.serviceTexts svc) s
    | some g =>
      if g = ascii "COND" then opSvsCond svc (k.getD 1) sent s
      else if g = ascii "SUB" then say "SVS" (s.subtitleTexts svc) s
      else if g = ascii "REC" then say "SVS" (s.recorderTexts svc) s
      else deny "SVS" "UNKNOWN" [g] s

def opSve (svc : Nat) (sent : List Text) (s : State) : Answer :=
  inRange "SVE" (serviceOk svc) sent 0 s <|
    if (s.svc svc).profile.enabled then deny "SVE" "STATE" [ascii "ENABLED"] s
    else if (s.svc svc).profile.channels.isNone then deny "SVE" "STATE" [ascii "CHANNELS"] s
    else say "SVE" [natText svc] (clearMarks svc (enableService svc s))

/-- SVD (R17). R17 gives the accepted reply no fields: that it carries the service number, as =SVE does, is the model's
choice (DESIGN CHOICE, log entry 6). -/
def opSvd (svc : Nat) (sent : List Text) (s : State) : Answer :=
  inRange "SVD" (serviceOk svc) sent 0 s <|
    if (s.svc svc).profile.enabled then say "SVD" [natText svc] (disableService svc s)
    else deny "SVD" "STATE" [ascii "DISABLED"] s

/-- The profile after a PRF record's assignments, together (R99). -/
def assign (as : List Assignment) (p : Profile) : Profile :=
  as.foldl (fun q a => a.key.store (a.key.clamped a.value) q) p

def anyClamped (as : List Assignment) : Bool := as.any fun a => decide (a.key.clamped a.value ≠ a.value)

/-- The tick of a PRF that changes a timeout of an enabled service, or the mark as it stood (R14, R78). -/
def timeoutSetAt (now : Nat) (old new : Nat) (was : Option Nat) : Option Nat := if old = new then was else some now

/-- What a PRF does at its own tick (R101, R14, R78). When one record changes both SLOTS and ADL, the closings of
removed slots (R93) are taken before the entry of AD_TIME (R115): the spec gives no order between them (DESIGN CHOICE,
log entry 24). -/
def profileSet (i : Nat) (p : Profile) (s : State) : State :=
  let old := (s.svc i).profile
  let s1 := s.modProfile i fun _ => p
  if old.enabled then
    let s1 := s1.modSvc i fun v =>
      { v with
        feed := { v.feed with timeoutSet := timeoutSetAt s.now old.feedTimeout p.feedTimeout v.feed.timeoutSet }
        sc := { v.sc with timeoutSet := timeoutSetAt s.now old.carriageTimeout p.carriageTimeout v.sc.timeoutSet } }
    let s2 := if old.slotMask = p.slotMask then s1 else maskChanged i old.slotMask s1
    let s3 := if old.countPromos = p.countPromos then s2 else deriveActive i s2
    if old.advertLimit = p.advertLimit then s3 else limitChanged i s3
  else s1

def opPrf (svc : Nat) (settings : List (Text × Text)) (sent : List Text) (s : State) : Answer :=
  inRange "PRF" (serviceOk svc) sent 0 s <|
    match assignmentsOf settings with
    | .error k => deny "PRF" "UNKNOWN" [k] s
    | .ok as =>
      let p := assign as (s.svc svc).profile
      if (s.svc svc).profile.enabled ∧ p.channels ≠ (s.svc svc).profile.channels then
        deny "PRF" "STATE" [ascii "ENABLED"] s
      else say "PRF" (natText svc :: (as.map fun a => [a.name, a.key.show p]).flatten ++ clampedMark (anyClamped as))
        (profileSet svc p s)

def opPrq (svc : Nat) (keys : List Text) (sent : List Text) (s : State) : Answer :=
  inRange "PRQ" (serviceOk svc) sent 0 s <|
    match keys.find? fun k => (keyOf k).isNone with
    | some k => deny "PRQ" "UNKNOWN" [k] s
    | none => say "PRQ" (natText svc ::
        (keys.map fun k => [k, optText (fun key => Key.show key (s.svc svc).profile) (keyOf k)]).flatten) s

def clampCoefficient (c : Int) : Int := clampInt (-2147483648) 2147483647 c

def opWgt (svc sec : Nat) (c : Coefficients) (sent : List Text) (s : State) : Answer :=
  inRange "WGT" (serviceOk svc) sent 0 s <| inRange "WGT" (decide (sec = 1 ∨ sec = 2)) sent 1 s <|
    if (s.svc svc).profile.enabled then deny "WGT" "STATE" [ascii "ENABLED"] s
    else
      let d : Coefficients := ⟨clampCoefficient c.b0, clampCoefficient c.b1, clampCoefficient c.b2, clampCoefficient c.a1,
        clampCoefficient c.a2⟩
      say "WGT" (natText svc :: natText sec :: coefficientTexts d ++ clampedMark (decide (d ≠ c)))
        (s.modProfile svc fun p => if sec = 1 then { p with section1 := d } else { p with section2 := d })

def opMtr (svc : Nat) (sent : List Text) (s : State) : Answer :=
  inRange "MTR" (serviceOk svc) sent 0 s <| say "MTR" (s.meterTexts svc) s

def opAck (svc : Nat) (sent : List Text) (s : State) : Answer :=
  inRange "ACK" (serviceOk svc) sent 0 s <|
    say "ACK" [natText svc, flagText (s.svc svc).unacknowledged]
      (s.modSvc svc fun v => { v with unacknowledged := false })

/-- The context of the entry at depth `d` of a service, or the reply that there is none (R184). -/
def withContext (svc d : Nat) (s : State) (f : Nat → List Text) : Answer :=
  let stack := (s.svc svc).st.stack
  if stack.length < d then deny "CTQ" "NONE" [natText stack.length] s
  else match (stack[stack.length - d]?).bind StackEntry.context with
    | none => deny "CTQ" "NONE" [noneText] s
    | some c => say "CTQ" (f c) s

/-- A depth counts from 1; one above the stack is answered NONE (R184). That 0 is refused with RANGE is the model's
choice (log entry 15). -/
def depthOk (d : Nat) : Bool := decide (1 ≤ d)

def opCtq (svc : Nat) (form : ContextForm) (sent : List Text) (s : State) : Answer :=
  inRange "CTQ" (serviceOk svc) sent 0 s <|
    match form with
    | .stack => say "CTQ" (s.stackTexts svc) s
    | .context d p =>
      inRange "CTQ" (depthOk d) sent 1 s <| inRange "CTQ" (decide (p.getD 1 = 1 ∨ p.getD 1 = 2)) sent 2 s <|
        withContext svc d s fun c => if p.getD 1 = 1 then s.contextTexts c else s.contextSlotTexts svc c
    | .bins d b =>
      inRange "CTQ" (depthOk d) sent 1 s <| inRange "CTQ" (decide (b ≤ Config.topBin)) sent 3 s <|
        withContext svc d s fun c => s.binTexts c b

/-! ### Time (R6, R8) -/

/-- TB's part of TIM, and what the setting brings about in CU (R6, R7, R117). AM takes the setting and changes nothing
(R158). -/
def applyTime (second : Nat) (s : State) : State :=
  let hour := second / 3600
  let s1 := s.modTb fun b => { b with anchor := some ⟨s.now, second⟩, lastTim := some s.now }
  let s2 := logTake none (.timeSet s.wallNow second s.tb.hour hour) s1
  turnTallies true (s2.modTb fun b => { b with hour := ⟨hour, true⟩ })

/-- TIME_SET and CU's entries form one group (R6, R117, R120, R121). -/
def setTime (second : Nat) (s : State) : State := grouped (applyTime second) s

def opTim (second : Nat) (s : State) : Answer :=
  let t := clampNat 0 lastSecond second
  say "TIM" (natText t :: clampedMark (decide (t ≠ second))) (setTime t s)

def opTiq (s : State) : Answer := say "TIQ" s.timeTexts s

/-! ### Log (R123, R124) -/

/-- The first three cases of R123 and R124, and the entry when it is held. -/
def withEntry (verb : String) (n : Nat) (s : State) (gone : State) (f : Entry → Answer) : Answer :=
  if s.cl.lastSeq < n then deny verb "NONE" [natText s.cl.lastSeq] s
  else match s.oldestHeld, s.heldEntry n with
    | some o, none => deny verb "GONE" [natText o] gone
    | none, none => deny verb "GONE" [noneText] gone
    | _, some e => f e

def opLog (n : Nat) (part : Option Nat) (sent : List Text) (s : State) : Answer :=
  let p := part.getD 1
  inRange "LOG" (sequenceOk n) sent 0 s <| inRange "LOG" (decide (1 ≤ p ∧ p ≤ 8)) sent 1 s <|
    withEntry "LOG" n s s fun e =>
      if e.parts.length < p then deny "LOG" "RANGE" [natText e.parts.length] s else (s, some (e.partReply p))

def opLgc (n : Nat) (sent : List Text) (s : State) : Answer :=
  inRange "LGC" (sequenceOk n) sent 0 s <|
    say "LGC" [natText n, optText natText s.oldestHeld, if s.cl.ring.isEmpty then noneText else natText s.cl.lastSeq]
      (s.modCl fun c => { c with cursorSeq := n, cursorPart := 1 })

/-- The cursor after a part of an entry has been read (R124). After the last part of entry 4,294,967,295 it counts on to
4,294,967,296, where LGN finds no entry: the spec does not say (DESIGN CHOICE, log entry 24). -/
def LogState.advance (c : LogState) (parts : Nat) : LogState :=
  if c.cursorPart < parts then { c with cursorPart := c.cursorPart + 1 }
  else { c with cursorSeq := c.cursorSeq + 1, cursorPart := 1 }

def opLgn (s : State) : Answer :=
  withEntry "LGN" s.cl.cursorSeq s
    (s.modCl fun c => { c with cursorSeq := (c.ring.head?.map Entry.seq).getD c.cursorSeq, cursorPart := 1 })
    fun e => (s.modCl fun c => c.advance e.parts.length, some (e.partReply s.cl.cursorPart))

/-! ### Watches (R178) -/

def slotOk (slot : Nat) : Bool := decide (slot < 8)

def setWatch (slot : Nat) (w : Option Watch) (s : State) : State :=
  s.modLc fun l => { l with watches := setAt l.watches slot w }

def opWch (slot svc : Nat) (meter : Text) (interval : Nat) (sent : List Text) (s : State) : Answer :=
  inRange "WCH" (slotOk slot) sent 0 s <| inRange "WCH" (serviceOk svc) sent 1 s <|
    match meterOf meter with
    | none => deny "WCH" "UNKNOWN" [meter] s
    | some m =>
      let n := clampNat 1 600 interval
      say "WCH" ([natText slot, natText svc, meter, natText n] ++ clampedMark (decide (n ≠ interval)))
        (setWatch slot (some ⟨svc, m, n, laterTick s.now (n * Config.tenthTicks)⟩) s)

def opWcx (slot : Nat) (sent : List Text) (s : State) : Answer :=
  inRange "WCX" (slotOk slot) sent 0 s <| say "WCX" [natText slot] (setWatch slot none s)

/-! ### Holds (R159, R160, R162) -/

/-- The detail of a STATE reply where AM would answer OFFLINE (R159). -/
def State.offlineDetail (s : State) : Text :=
  if s.am.state = .offline ∨ s.am.state = .mounting then s.am.state.text else ascii "PENDING"

/-- The reply to a hold request that AM refuses (R159). -/
def holdRefusedReply (verb : String) (x : HoldRefusal) (before after : State) : Answer :=
  match x with
  | .fault => deny verb "STATE" [ascii "FAULT"] after
  | .unavailable => deny verb "STATE" [before.am.state.text] after
  | .offline => deny verb "STATE" [before.offlineDetail] after
  | .untimed => deny verb "STATE" [ascii "UNSET"] after
  | .full => deny verb "FULL" [natText Config.holdCount] after

def opHld (svc lo hi keep : Nat) (sent : List Text) (s : State) : Answer :=
  let a := clampNat 0 lastSecond lo
  let b := clampNat 0 lastSecond hi
  let k := clampNat 0 3650 keep
  inRange "HLD" (serviceOk svc) sent 0 s <| inRange "HLD" (decide (a ≤ b)) sent 1 s <|
    match requestHold ⟨svc, a, b, .host, none, k, false⟩ s with
    | (s1, .ok (id, n)) =>
      say "HLD" ([natText id, natText n] ++ clampedMark (decide (a ≠ lo ∨ b ≠ hi ∨ k ≠ keep))) s1
    | (s1, .error x) => holdRefusedReply "HLD" x s s1

def opHlr (id : Nat) (sent : List Text) (s : State) : Answer :=
  inRange "HLR" (idOk id) sent 0 s <|
    match s.holdsBarred with
    | some x => holdRefusedReply "HLR" x s s
    | none =>
      match s.am.holds.find? fun h => decide (h.id = id) with
      | none => deny "HLR" "NONE" [natText s.am.holds.length] s
      | some h => say "HLR" [natText id] (dropHold h false s)

def opHlq (id : Option Nat) (sent : List Text) (s : State) : Answer :=
  inRange "HLQ" (idOk (id.getD 1)) sent 0 s <|
    match s.am.holds.filter fun h => decide (id.getD 1 ≤ h.id) with
    | [] => deny "HLQ" "NONE" [natText s.am.holds.length] s
    | h :: rest => say "HLQ" (s.holdTexts h rest) s

/-! ### Capture triggers (R163) -/

def triggerServiceText : Option Nat → Text
  | none => ascii "ALL"
  | some n => natText n

/-- TRG (R163). An event word that names no event is the whole field as sent: COND_OPEN with an unknown class is refused
with UNKNOWN and the whole field, class and all, as detail (DESIGN CHOICE, log entry 6). -/
def opTrg (slot : Nat) (event svc action : Text) (pre post : Nat) (sent : List Text) (s : State) : Answer :=
  inRange "TRG" (slotOk slot) sent 0 s <|
    match triggerService svc with
    | none => deny "TRG" "RANGE" [svc] s
    | some service =>
      match eventOf event, actionOf action with
      | none, _ => deny "TRG" "UNKNOWN" [event] s
      | some _, none => deny "TRG" "UNKNOWN" [action] s
      | some e, some a =>
        let t : Trigger := ⟨e, service, a, clampNat 0 600 pre, clampNat 0 600 post⟩
        say "TRG" ([natText slot, e.text, triggerServiceText service, a.text, natText t.pre,
            natText t.post] ++ clampedMark (decide (t.pre ≠ pre ∨ t.post ≠ post)))
          (s.modTriggers fun l => setAt l slot (some t))

def opTrx (slot : Nat) (sent : List Text) (s : State) : Answer :=
  inRange "TRX" (slotOk slot) sent 0 s <| say "TRX" [natText slot] (s.modTriggers fun l => setAt l slot none)

/-! ### Export (R165, R168, R170) -/

/-- COMPLETE or DAMAGED (R165). -/
def Extent.recorded (x : Extent) : Bool := decide (x.state = .complete) || decide (x.state = .damaged)

/-- The extents of EXP's first form, in completion order (R165). -/
def State.serviceList (s : State) (svc lo hi : Nat) : List Nat :=
  s.am.order.filter fun e => coversExtent svc lo hi (s.extent e)

/-- The service has a timed FILLING extent that meets the range (R165). -/
def State.partialList (s : State) (svc lo hi : Nat) : Bool :=
  s.am.extents.any fun e => decide (e.2.state = .filling) && decide (e.2.service = svc) &&
    (match e.2.wall with
      | none => false
      | some (first, last) => rangesMeet lo hi first last)

/-- The extents of EXP's second form (R165). -/
def State.numberedList (s : State) (first last : Nat) : List Nat :=
  ((List.range (last + 1 - first)).map fun k => first + k).filter fun e => (s.extent e).recorded

def State.extentItem (s : State) (e : Nat) : ExportItem := ⟨e, (s.extent e).pages⟩

/-- The log pages of EXP's third form (R165). -/
def logItems (first count : Nat) : List ExportItem := (List.range count).map fun k => ⟨(first + k) % Config.logPages, 1⟩

/-- EXP's refusals that do not depend on the list; `ok` follows when none applies (R165). -/
def exportAllowed (s : State) (ok : Answer) : Answer :=
  match s.ee.current with
  | some x => deny "EXP" "BUSY" [natText x.id] s
  | none =>
    if s.sp.faultLatched then deny "EXP" "STATE" [ascii "FAULT"] s
    else if s.am.state ≠ .online then deny "EXP" "STATE" [s.am.state.text] s
    else if s.am.oflPending then deny "EXP" "STATE" [ascii "PENDING"] s
    else ok

/-- The list position of the first item that has a page. Step 3 of R165 sets the cursor to page 0 of the first list
item; an item of page count 0 has no page 0 and is passed over, as R166 passes over it later (DESIGN CHOICE, log entry
24). -/
def firstItem (items : List ExportItem) : Nat := items.findIdx fun i => decide (0 < i.pages)

/-- An export as it starts, its cursor at the first page of its list (R165; DESIGN CHOICE, log entry 24). -/
def newExport (id : Nat) (kind : ExportKind) (service : Option Nat) (items : List ExportItem) : Export where
  id := id
  kind := kind
  service := service
  items := items
  position := firstItem items
  page := 0
  frames := 0
  unreadable := 0
  stop := false
  state := .waiting
  abort := none
  frame := none

/-- An export starts on a list (R165). -/
def startExport (kind : ExportKind) (service : Option Nat) (items : List ExportItem) (s : State) : State :=
  let s1 := s.modEe fun e =>
    { e with nextId := nextIdAfter e.nextId, current := some (newExport e.nextId kind service items) }
  if pagesToSend items = 0 then endExport .complete s1 else s1

/-- EXP is accepted on a list that is not empty (R165). -/
def acceptExport (kind : ExportKind) (service : Option Nat) (items : List ExportItem) (marks : List Text) (s : State) :
    Answer :=
  exportAllowed s <|
    if items.isEmpty then deny "EXP" "NONE" [natText 0] s
    else say "EXP" ([natText s.ee.nextId, natText items.length, natText (pagesToSend items)] ++ marks)
      (startExport kind service items s)

def opExpService (svc lo hi : Nat) (sent : List Text) (s : State) : Answer :=
  let a := clampNat 0 lastSecond lo
  let b := clampNat 0 lastSecond hi
  let l := s.serviceList svc a b
  inRange "EXP" (serviceOk svc) sent 0 s <| inRange "EXP" (decide (a ≤ b)) sent 1 s <|
    acceptExport .service (some svc) ((l.take Config.exportItems).map s.extentItem)
      ((if s.partialList svc a b then [ascii "PARTIAL"] else []) ++
        (if Config.exportItems < l.length then [ascii "LIMITED"] else []) ++ clampedMark (decide (a ≠ lo ∨ b ≠ hi))) s

/-- An extent of the recording area; while no capacity is known the largest one bounds it (log entry 9). -/
def State.recordingExtent (s : State) (e : Nat) : Bool :=
  decide (Config.firstExtent ≤ e ∧ e < s.am.capacity.getD 1048576)

/-- EXP N (R165). With both numbers in the recording area, `first` above `last` and a span above 4096 are refused with
RANGE and `last` as detail: the spec does not name the value (DESIGN CHOICE, log entry 6). -/
def opExpExtents (first last : Nat) (sent : List Text) (s : State) : Answer :=
  inRange "EXP" (s.recordingExtent first) sent 1 s <|
    inRange "EXP" (s.recordingExtent last && decide (first ≤ last ∧ last - first < Config.exportItems)) sent 2 s <|
      acceptExport .extent none ((s.numberedList first last).map s.extentItem) [] s

/-- EXP L (R165). R165 gives count the range 1..4096 and calls it neither a numeric setting nor an identifier: one
outside is refused with RANGE and count as detail, as `first` is (DESIGN CHOICE, log entry 6). -/
def opExpLog (first count : Nat) (sent : List Text) (s : State) : Answer :=
  inRange "EXP" (decide (first < Config.logPages)) sent 1 s <|
    inRange "EXP" (decide (1 ≤ count ∧ count ≤ Config.exportItems)) sent 2 s <|
      acceptExport .log none (logItems first count) [] s

def opExp (form : ExportForm) (sent : List Text) (s : State) : Answer :=
  match form with
  | .service svc lo hi => opExpService svc lo hi sent s
  | .extents a b => opExpExtents a b sent s
  | .logPages a n => opExpLog a n sent s

def opXab (s : State) : Answer :=
  match s.ee.current with
  | none => deny "XAB" "STATE" [ascii "IDLE"] s
  | some x =>
    let s1 := s.modEe fun e => { e with current := some { x with stop := true } }
    say "XAB" [natText x.id] (if x.state = .waiting then endExport .aborted s1 else s1)

def opExq (s : State) : Answer := say "EXQ" s.exportTexts s

/-! ### Archive (R151, R152, R188, R189, R192) -/

/-- The refusals that OFL, ONL and FMT share (R151, R152, R188, R190): OFL and ONL test the latch before the archive
state (R144, `latchFirst`), FMT after it (R188; log entry 15). R190 refuses OFL and ONL with SUPPLY while LOW_SUPPLY is
asserted and states no order: that the archive state is tested first and LOW_SUPPLY last is the model's choice (DEDUCED,
log entry 15). -/
def archiveAllowed (verb : String) (latchFirst ok : Bool) (s : State) (rest : Answer) : Answer :=
  if latchFirst ∧ s.sp.faultLatched then deny verb "STATE" [ascii "FAULT"] s
  else if ¬ ok then deny verb "STATE" [s.am.state.text] s
  else if s.sp.faultLatched then deny verb "STATE" [ascii "FAULT"] s
  else if s.part.lowSupply then deny verb "STATE" [ascii "SUPPLY"] s
  else rest

/-- OFL: the change itself follows when no operation is in flight (`offlineChange`). -/
def opOfl (s : State) : Answer :=
  archiveAllowed "OFL" true (decide (s.am.state = .online)) s <|
    say "OFL" [] (s.modAm fun a => { a with oflPending := true })

/-- ONL (R152). The duration that MOUNT_DONE will carry counts from this tick, the probe included: R186 does not say
from which (DESIGN CHOICE, log entry 24). -/
def opOnl (s : State) : Answer :=
  archiveAllowed "ONL" true (decide (s.am.state = .offline ∨ s.am.state = .unformatted ∨ s.am.state = .unavailable)) s <|
    say "ONL" [] (s.modAm fun a => { a with state := .mounting, mount := .probing, mountStart := s.now })

/-- SAV (R189). The detail of its refusal while an OFL is pending is PENDING, as for HLD and EXP: R189 gives none
(DESIGN CHOICE, log entry 6). -/
def opSav (s : State) : Answer :=
  if s.am.state ≠ .online then deny "SAV" "STATE" [s.am.state.text] s
  else if s.am.oflPending then deny "SAV" "STATE" [ascii "PENDING"] s
  else if s.sp.faultLatched then deny "SAV" "STATE" [ascii "FAULT"] s
  else say "SAV" [] (logTake none .profileSaved (s.markDirty 258))

def opFmt (low : Option Nat) (s : State) : Answer :=
  let m := clampNat 4 1024 (low.getD Config.defaultLowWater)
  archiveAllowed "FMT" false (decide (s.am.state = .unformatted ∨ s.am.state = .offline)) s <|
    say "FMT" ([optText natText s.am.capacity, natText m] ++ clampedMark (decide (m ≠ low.getD Config.defaultLowWater)))
      (writeFormatPage 0
        (s.modAm fun a => { a with state := .mounting, mount := .formatting, mountStart := s.now, lowWater := m }))

/-- RST in RUN (R192): the flush starts, unless one runs. -/
def acceptRst (s : State) : State :=
  let s1 := queueAllFilling (s.modAm fun a => { a with rstPending := true, rstReplyEnded := false, rstFlushed := false })
  if s.am.flush = .idle then s1.modAm (Archive.startRstFlush s.now) else s1

/-- RST: before RUN, and while the flush stands FLUSHED, its reset applies at once (R185, R192). -/
def opRst (s : State) : Answer :=
  if s.part.state = .run ∧ s.am.flush ≠ .flushed then say "RST" [] (acceptRst s) else (resetTo .command s, none)

end Sys2Proof.Machine
end

