-- ==== Sys2Proof/Machine/LineOps.lean ====
section
/-! DEFINITION. The Line Controller's reception, the execution of records, and the transmitter (R171 to R173, R176, R179). -/

namespace Sys2Proof.Machine

/-! ### Execution (R173) -/

/-- What a command record does when its turn comes; `sent` is its fields as sent (R173, test 4). -/
def operate (i : Instr) (sent : List Text) (s : State) : Answer :=
  match i with
  | .idn => opIdn s
  | .sta g => opSta g s
  | .svs svc g k => opSvs svc g k sent s
  | .sve svc => opSve svc sent s
  | .svd svc => opSvd svc sent s
  | .prf svc ps => opPrf svc ps sent s
  | .prq svc ks => opPrq svc ks sent s
  | .wgt svc sec b0 b1 b2 a1 a2 => opWgt svc sec ⟨b0, b1, b2, a1, a2⟩ sent s
  | .tim n => opTim n s
  | .tiq => opTiq s
  | .mtr svc => opMtr svc sent s
  | .log n p => opLog n p sent s
  | .lgc n => opLgc n sent s
  | .lgn => opLgn s
  | .ack svc => opAck svc sent s
  | .wch slot svc m n => opWch slot svc m n sent s
  | .wcx slot => opWcx slot sent s
  | .hld svc lo hi k => opHld svc lo hi k sent s
  | .hlr n => opHlr n sent s
  | .hlq n => opHlq n sent s
  | .trg slot ev svc ac pre post => opTrg slot ev svc ac pre post sent s
  | .trx slot => opTrx slot sent s
  | .exp f => opExp f sent s
  | .xab => opXab s
  | .exq => opExq s
  | .ofl => opOfl s
  | .onl => opOnl s
  | .sav => opSav s
  | .fmt low => opFmt low s
  | .rst => opRst s
  | .ctq svc f => opCtq svc f sent s
  | _ => (s, none)

/-- A verb that is answered in every part state (R173, test 2). -/
def answeredBeforeRun (verb : Text) : Bool := verb = ascii "IDN" || verb = ascii "STA" || verb = ascii "RST"

/-- A verb that is answered while an RST is pending (R192). -/
def answeredDuringRst (verb : Text) : Bool := verb = ascii "IDN" || verb = ascii "STA"

/-- Test 2 of R173, and the refusal of R192: the reply, or none when the record goes on to test 3. -/
def gate (verb : Text) (s : State) : Option Text :=
  if s.part.state ≠ .run ∧ ¬ answeredBeforeRun verb then
    some (refusedReply verb (ascii "NOTREADY") [s.part.state.text])
  else if s.am.rstPending ∧ ¬ answeredDuringRst verb then some (refusedReply verb (ascii "BUSY") [ascii "RST"])
  else none

/-- A reply of more than 160 characters is refused with LONG in its place, and nothing changes (R174). -/
def fitReply (verb : Text) (s : State) (a : Answer) : Answer :=
  match a.2 with
  | none => a
  | some r => if Config.recordChars < r.length then (s, some (refusedReply verb (ascii "LONG") [])) else a

/-- The reply takes the reply slot (R173). -/
def putReply (a : Answer) : State :=
  match a.2 with
  | none => a.1
  | some r => a.1.modLc fun l => { l with reply := some r }

/-- A record of the catalogue is executed: `fault` is what test 3 finds, `op` the rest (R173). -/
def runRecord (verb : Text) (fault : Option Nat) (op : State → Answer) (s : State) : State :=
  match gate verb s with
  | some r => putReply (s, some r)
  | none =>
    match fault with
    | some p => putReply (s, some (refusedReply verb (ascii "SYNTAX") [natText p]))
    | none => putReply (fitReply verb s (op s))

def isCapital (c : Nat) : Bool := decide (65 ≤ c ∧ c ≤ 90)

def wellFormedVerb (v : Text) : Bool := decide (v.length = 3) && v.all isCapital

/-- Characters of a record as its execution reads them; one that fails reads 0 (R171). -/
def LineChar.read (c : LineChar) : Nat := if c.framing ∨ c.code ≤ 31 ∨ 127 ≤ c.code then 0 else c.code

/-- A record's text is executed (R173). -/
def runText (t : Text) (s : State) : State :=
  match splitAt 32 t with
  | [] => s
  | verb :: fields =>
    if ¬ wellFormedVerb verb then putReply (s, some (ascii "!??? SYNTAX"))
    else if ¬ verbTable.contains verb then putReply (s, some (refusedReply verb (ascii "UNKNOWN") [verb]))
    else match readFields verb fields with
      | .error p => runRecord verb (some p) (fun u => (u, none)) s
      | .ok i => runRecord verb (syntaxFault i) (operate i fields) s

/-! ### Reception (R171, R172) -/

/-- Positions of the receive buffer in use: the records that wait with their terminators, and the record being
received. -/
def Line.used (l : Line) : Nat := (l.waiting.map fun r => r.length + 1).sum + l.current.length

/-- The record being received faults: its characters leave the buffer (R172). -/
def Line.failRecord (l : Line) (f : LineFault) : Line := { l with current := [], fault := some f }

def isTerminator (c : LineChar) : Bool := decide (c.code = 10) && !c.framing

/-- A CR directly before the LF belongs to the terminator (R171). R171 also fails a character received with a framing
error, and does not say which holds of a CR received so: here it stays in the text, so that the record is not empty and
fails (DESIGN CHOICE, log entry 13). -/
def trimCr (r : List LineChar) : List LineChar :=
  match r.reverse with
  | c :: rest => if c.code = 13 ∧ ¬ c.framing then rest.reverse else r
  | [] => []

/-- The record's text has reached a 161st character: 160 stand before it, and it is not a terminator's CR (R171, R172).
-/
def tooLong (current : List LineChar) (c : LineChar) : Bool :=
  decide (Config.recordChars < (trimCr (current ++ [c])).length)

/-- A line reply for a faulted record joins the line-error queue, or is dropped (R172). -/
def Line.queueError (l : Line) (f : LineFault) : Line :=
  if l.errors.length < Config.lineErrorCount then { l with errors := l.errors ++ [f] } else l

/-- A complete record: executed at once, or waiting for its turn (R173). -/
def completeRecord (r : List LineChar) (s : State) : State :=
  let s1 := s.modLc fun l => { l with current := [] }
  if (trimCr r).isEmpty then s1
  else if s.lc.reply.isNone ∧ s.lc.waiting.isEmpty then runText ((trimCr r).map LineChar.read) s1
  else s1.modLc fun l => { l with waiting := l.waiting ++ [r] }

/-- A record at fault receives a character: its LF ends it with a line reply, unless nothing but a CR stood in it (R171,
R172). -/
def Line.receiveFaulted (l : Line) (f : LineFault) (c : LineChar) : Line :=
  if isTerminator c then
    let l' := { l with fault := none, crOnly := false }
    if l.crOnly then l' else l'.queueError f
  else { l with crOnly := false }

/-- A character finds no place (R172). The LF of an empty record asks for none (R171). -/
def Line.receiveFull (l : Line) (c : LineChar) : Line :=
  if isTerminator c then
    if (trimCr l.current).isEmpty then { l with current := [] } else { l with current := [] }.queueError .overrun
  else { l.failRecord .overrun with crOnly := l.current.isEmpty && decide (c.code = 13) && !c.framing }

/-- LC takes a character (R171, R172). -/
def receive (c : LineChar) (s : State) : State :=
  match s.lc.fault with
  | some f => s.modLc fun l => l.receiveFaulted f c
  | none =>
    if Config.receiveChars ≤ s.lc.used then s.modLc fun l => l.receiveFull c
    else if isTerminator c then completeRecord s.lc.current s
    else if tooLong s.lc.current c then s.modLc fun l => l.failRecord .long
    else s.modLc fun l => { l with current := l.current ++ [c] }

/-- Everything one character brings about. -/
def takeCharacter (s : State) (c : LineChar) : State := settle (receive c s)

/-- A record arrives character by character, with its LF. -/
def deliver (t : Text) (s : State) : State := (t ++ [10]).foldl (fun u c => takeCharacter u ⟨c, false⟩) s

/-- A record that arrives now is executed at its terminator: the reply slot is empty, no record waits or is being
received, and its text is not too long (R171, R173). -/
def State.lineFree (s : State) (t : Text) : Bool :=
  s.lc.reply.isNone && s.lc.waiting.isEmpty && s.lc.current.isEmpty && s.lc.fault.isNone &&
    decide (t.length ≤ Config.recordChars)

/-- A command record arrives: executed at once when the line is free for it, otherwise taken in like any other
characters. -/
def verbRow (i : Instr) (op : State → Answer) (s : State) : State :=
  if s.lineFree (recordText i) then settle (runRecord (verbOf i) (syntaxFault i) op s) else deliver (recordText i) s

/-! ### The transmitter (R176, R179, R192) -/

def rstReply : Text := ascii "=RST"

/-- The next complete record is taken when the reply slot has emptied (R173). -/
def executeNext (s : State) : State :=
  match s.lc.reply, s.lc.waiting with
  | none, r :: rest =>
    runText ((trimCr r).map LineChar.read) (s.modLc fun l => { l with waiting := rest })
  | _, _ => s

/-- The record being sent ends (R176); the end of `=RST` is what R192 waits for. -/
def endTransmission (s : State) : State :=
  match s.lc.sending with
  | none => s
  | some r =>
    let s1 := if r = rstReply ∧ s.am.rstPending then s.modAm fun a => { a with rstReplyEnded := true } else s
    executeNext (s1.modLc fun l => { l with sending := none }.startSending)

/-- A line break (R179): LC at its reset values, a record in progress being finished. -/
def breakLine (s : State) : State :=
  let s1 := if s.lc.reply = some rstReply ∧ s.am.rstPending then
      s.modAm fun a => { a with rstReplyEnded := true } else s
  s1.modLc fun l => { Line.reset with sending := l.sending }

/-- A watch falls due (R178). -/
def watchFallsDue (k : Nat) (s : State) : State :=
  match s.lc.watches.getD k none with
  | none => s
  | some w =>
    if reached s.now w.due then
      let s1 := if s.lc.reports.length < Config.reportCount then
          s.modLc fun l => { l with reports := l.reports ++ [s.watchReport k w] } else s
      setWatch k (some { w with due := laterTick w.due (w.interval * Config.tenthTicks) }) s1
    else s

end Sys2Proof.Machine
end

