-- ==== Sys2Proof/Machine/TimeBase.lean ====
section
/-! DEFINITION. Meanings of the time base's events (R1 to R4, R7). -/

namespace Sys2Proof.Machine

/-- Outcome of a command. -/
abbrev Result := Host.Outcome State Fault Refusal

/-- Tick `t` is an hour boundary under a mapping (R7). -/
def isBoundary (anchor : Option Anchor) (t : Nat) : Bool :=
  match wallOf anchor t with
  | none => decide (t ≠ 0 ∧ t % Config.ticksPerHour = 0)
  | some w => decide (w.tick = 0 ∧ w.second % 3600 = 0)

/-- TB after one tick more (R1). The hour number is that of the new tick (R7); at a boundary HOUR_BOUNDARY advances it
(log entry 7). -/
def TimeBase.advance (b : TimeBase) : TimeBase :=
  let t := (b.stationTime + 1) % Config.tickModulus
  { b with
    stationTime := t
    hour := if isBoundary b.anchor t then b.hour else hourOf b.anchor t }

/-- Station time advances by one tick (R1); what accrues over the tick that ends is counted first. -/
def advanceTick (s : State) : State := (accrueTick s).modTb TimeBase.advance

/-- The first edge in HOLDOVER returns TB to LOCKED (R4). R4 counts REF_BACK's divider ticks since the last edge before the
holdover, and does not say from when if there has been none: they count from the reset (DESIGN CHOICE, log entry 2). -/
def leaveHoldover (s : State) : State :=
  if s.tb.refState = .holdover then
    let s1 := s.modTb fun b => { b with refState := .locked }
    if s.part.state = .run then
      closeDevice .refLost
        (logTake none (.refBack (elapsed s.now s.tb.holdoverStart) s.tb.ticksSinceEdge) s1)
    else s1
  else s

/-- The divider restarts from an edge (R2). -/
def restartDivider (s : State) : State := s.modTb fun b => { b with dividerTicks := 0, ticksSinceEdge := 0 }

/-- An edge within half a nominal period after a divider tick is absorbed as that tick's edge; so is any further edge
of that half period (R2). -/
def absorbEdge (s : State) : State := restartDivider (leaveHoldover s)

/-- Any other edge is taken (R2). -/
def takeEdge (s : State) : State :=
  let s1 := advanceTick s
  restartDivider (leaveHoldover (s1.modTb fun b => { b with lastEdge := b.stationTime, lastTickDivider := false }))

/-- WORD_CLOCK_EDGE (R2, R4). -/
def execWordClockEdge (nearDividerTick : Bool) (s : State) : Result :=
  .next (settle (if nearDividerTick ∧ s.tb.lastTickDivider then absorbEdge s else takeEdge s))

/-- The divider produces a tick (R2, R3). -/
def dividerTick (s : State) : State :=
  (advanceTick s).modTb fun b =>
    { b with dividerTicks := min Config.holdoverTicks (b.dividerTicks + 1)
             ticksSinceEdge := b.ticksSinceEdge + 1
             lastTickDivider := true }

/-- DIVIDER_TICK (R2). -/
def execDividerTick (s : State) : Result := .next (dividerTick s)

/-- TB enters HOLDOVER now (R3). -/
def enterHoldover (s : State) : State :=
  let s1 := s.modTb fun b => { b with refState := .holdover, holdoverStart := s.now }
  if s.part.state = .run then logTake none (.refLost s.tb.lastEdge) (openDevice .refLost s1) else s1

/-- HOLDOVER_ENTRY (R3): in LOCKED with 48 consecutive divider ticks. -/
def execHoldoverEntry (s : State) : Result :=
  .next (if s.tb.refState = .locked ∧ s.tb.dividerTicks = Config.holdoverTicks then settle (enterHoldover s) else s)

/-- The current tick is an hour boundary that TB has not reported (R7). -/
def State.boundaryDue (s : State) : Bool :=
  decide (hourOf s.tb.anchor s.now ≠ s.tb.hour) && isBoundary s.tb.anchor s.now

/-- TB advances the hour number and reports the boundary to CU and AM (R7, R116, R161). Before RUN no service runs, and
no tally ends (R118, R129). -/
def hourBoundary (s : State) : State :=
  let s0 := s.modTb fun b => { b with hour := hourOf b.anchor b.stationTime }
  let s1 := if s.part.state = .run then turnTallies false s0 else s0
  match s.wallNow with
  | none => s1
  | some w => expireHolds w.second s1

/-- HOUR_BOUNDARY (R7). -/
def execHourBoundary (s : State) : Result := .next (if s.boundaryDue then settle (hourBoundary s) else s)

end Sys2Proof.Machine
end

