-- ==== Sys2Proof/Machine/FeedPort.lean ====
section
/-! DEFINITION. Meanings of the feed port's events (R9 to R15, R185). -/

namespace Sys2Proof.Machine

/-- A counted discard (R10). -/
def countDiscard (i : Nat) (s : State) : State := s.modFeed i fun f => { f with errors := min 65535 (f.errors + 1) }

/-- The feed returns (R15, R38): FEED_LOST closes before LE takes the unit. -/
def feedReturns (i : Nat) (s : State) : State :=
  (closeCond i .feedLost none .feedBack s).modLe i fun l => { l with lossStart := none }

/-- FI takes an AUDIO unit that has passed R10 (R13), and LE measures it. -/
def acceptAudio (i : Nat) (frames : List (List Int)) (s : State) : State :=
  let s1 := s.modFeed i fun f => { f with state := .live, lastAudio := some s.now }
  audioUnit i frames (if (s.svc i).feed.state = .lost then feedReturns i s1 else s1)

/-- A body's field tests against the profile (check 6 of R10). -/
def bodyAllowed (p : Profile) : FeedBody → Bool
  | .audio c _ => decide (p.channels = some c)
  | .cue slot _ _ _ _ => slotExpected p.slotMask slot
  | .carry slot => slotExpected p.slotMask slot
  | .clear _ _ | .markStart _ _ _ | .markEnd _ | .payload _ => true

/-- FI routes a unit by kind (R12). -/
def routeUnit (i : Nat) (b : FeedBody) (s : State) : State :=
  match b with
  | .audio _ frames => acceptAudio i frames s
  | .cue slot id off dur chars => cueUnit i (cueOf s.now slot id off dur chars) s
  | .clear slot id => clearUnit i slot id s
  | .carry slot => carryUnit i slot s
  | .markStart k id r => startMarker i k id r s
  | .markEnd id => endMarker i id s
  | .payload bytes => payloadUnit i bytes s

/-- The header names a service 0..15 that is enabled (checks 2 and 3 of R10). -/
def State.knows (s : State) (h : FeedHeader) : Bool :=
  decide (h.service < Config.serviceCount) && (s.svc h.service).profile.enabled

/-- Check 1 of R10, once the 8th byte of a header has arrived (R193): a unit that fails it is discarded from then on,
counted in RUN if the named service is 0..15 and enabled. -/
def checkHeader (bytes : List Byte) (s : State) : State :=
  let h := feedHeader bytes
  if s.feedLost ∨ bytes.length < 8 ∨ h.checkOk then s
  else
    { (settle (if s.part.state = .run ∧ s.knows h then countDiscard h.service s else s)) with feedLost := true }

/-- A unit in RUN that has passed check 1: checks 2 to 6 (R10). -/
def feedInRun (h : FeedHeader) (body : List Byte) (s : State) : State :=
  if ¬ s.knows h then s
  else if ¬ kindNamed h.kind ∨ ¬ lengthFits h.kind body then countDiscard h.service s
  else match bodyOf h.kind body with
    | none => countDiscard h.service s
    | some b => if bodyAllowed (s.svc h.service).profile b then routeUnit h.service b s else countDiscard h.service s

/-- A unit in START or MOUNT that has passed check 1 (R185): only a PAYLOAD unit of a service loaded as enabled with
recording 1 is staged. -/
def feedBeforeRun (h : FeedHeader) (body : List Byte) (s : State) : State :=
  if h.service < Config.serviceCount ∧ h.kind = 6 ∧ lengthFits h.kind body ∧ s.am.profilesLoaded ∧
      (s.svc h.service).profile.enabled ∧ (s.svc h.service).profile.recording ∧ ¬ s.part.lowSupply then
    takePayload h.service body .mount s
  else s

/-- FI takes one whole unit (R9, R10, R185); one that was arriving at a reset is lost (R18), and one that has failed
check 1 is discarded (R193). -/
def takeUnit (unit : List Byte) (s : State) : State :=
  if s.feedLost then { s with feedLost := false }
  else settle (if s.part.state = .run then feedInRun (feedHeader unit) (unit.drop 8) s
    else feedBeforeRun (feedHeader unit) (unit.drop 8) s)

/-- The unit at the front of some bytes: the header and as many bytes as it announces, whether or not its check holds
(R193); none while it is not whole. -/
def frontUnit (bytes : List Byte) : Option (List Byte) :=
  let n := 8 + (feedHeader bytes).length
  if 8 ≤ bytes.length ∧ n ≤ bytes.length then some (bytes.take n) else none

/-- FI checks the header at the front of the bytes that have arrived, takes the unit once it is whole, goes on with the
bytes after it, and keeps the rest (R9, R193). The fuel bounds the units. -/
def takeUnits : Nat → List Byte → State → State
  | 0, bytes, s => { s with feedBytes := bytes }
  | fuel + 1, bytes, s =>
    let s1 := checkHeader bytes s
    match frontUnit bytes with
    | none => { s1 with feedBytes := bytes }
    | some unit => takeUnits fuel (bytes.drop unit.length) (takeUnit unit s1)

/-- FEED_UNIT (R9): the bytes that the front end sends join those of the unit in progress. -/
def execFeedUnit (bytes : List Byte) (s : State) : Result :=
  .next (takeUnits (s.feedBytes.length + bytes.length) (s.feedBytes ++ bytes) s)

/-- The feed of a service becomes LOST now (R15, R37). COND_OPEN FEED_LOST is taken before COND_CLOSE DEAD_AIR: R37 and
R120 let the two stand in either order (DESIGN CHOICE, log entry 24). -/
def goLost (i : Nat) (s : State) : State :=
  loseFeed i (openCond i .feedLost none none (s.modFeed i fun f => { f with state := .lost }))

/-- The wait expiry of R14 is due. -/
def Feed.waitDue (f : Feed) (now : Nat) : Bool :=
  decide (f.state = .waiting) && decide (Config.waitTicks ≤ elapsed now f.waitStart)

/-- The audio timeout expiry of R14 is due: not at the tick of the PRF that changed the timeout. -/
def Feed.timeoutDue (f : Feed) (now timeout : Nat) : Bool :=
  decide (f.state = .live) && decide (f.timeoutSet ≠ some now) &&
  (match f.lastAudio with
    | none => false
    | some t => decide (timeout * 48 ≤ elapsed now t))

/-- WAIT_EXPIRY (R14). -/
def execWaitExpiry (svc : Nat) (s : State) : Result :=
  .next (if (s.svc svc).feed.waitDue s.now then settle (goLost svc s) else s)

/-- AUDIO_TIMEOUT_EXPIRY (R14). -/
def execAudioTimeoutExpiry (svc : Nat) (s : State) : Result :=
  .next (if (s.svc svc).feed.timeoutDue s.now (s.svc svc).profile.feedTimeout then settle (goLost svc s) else s)

end Sys2Proof.Machine
end

