-- ==== Sys2Proof/Machine/Monitoring.lean ====
section
/-! DEFINITION. Meanings of the events of the Subtitle Checker, the Compliance Unit and the log page buffer (R77, R78, R83,
R84, R91, R106, R115, R125). -/

namespace Sys2Proof.Machine

/-- ACQUISITION_WINDOW_EXPIRY (R77). -/
def execAcquisitionWindowExpiry (svc slot : Nat) (s : State) : Result :=
  .next (if (s.slot svc slot).carriage = .acquiring ∧
      Config.acquisitionTicks ≤ elapsed s.now (s.slot svc slot).windowStart then
    s.modSlot svc slot Slot.loseAcquisition else s)

/-- The carriage timeout of a slot has run out (R78). -/
def Slot.timeoutDue (t : Slot) (now timeout : Nat) : Bool :=
  decide (t.carriage = .carried) &&
  (match t.lastCarry with
    | none => false
    | some c => decide (timeout * Config.ticksPerSecond ≤ elapsed now c))

/-- The expiry may be taken now: not at the tick of the PRF that changed the timeout (R78). -/
def State.carriageDue (s : State) (svc slot : Nat) : Bool :=
  (s.slot svc slot).timeoutDue s.now (s.svc svc).profile.carriageTimeout &&
  decide ((s.svc svc).sc.timeoutSet ≠ some s.now)

/-- CARRIAGE_TIMEOUT_EXPIRY (R78). -/
def execCarriageTimeoutExpiry (svc slot : Nat) (s : State) : Result :=
  .next (if s.carriageDue svc slot then settle (lapseSlot svc slot s) else s)

/-- CUE_SHOW (R83). -/
def execCueShow (svc : Nat) (s : State) : Result := .next (settle (showHead svc s))

/-- CUE_END (R84). -/
def execCueEnd (svc slot : Nat) (s : State) : Result :=
  .next (match (s.slot svc slot).showing with
    | none => s
    | some sh => if reached s.now sh.endTick then uncover svc slot s else s)

/-- SUB_GAP_OPEN (R91). -/
def execSubGapOpen (svc slot : Nat) (s : State) : Result :=
  .next (if s.gapDue svc slot then
      settle (openCond svc .subGap (some slot) none (s.modSlot svc slot fun t => { t with gapOpen := true }))
    else s)

/-- AD_TIME_OPEN (R115). -/
def execAdTimeOpen (svc : Nat) (s : State) : Result :=
  .next (if s.overLimit svc then settle (openCond svc .adTime none none s) else s)

/-- LOG_BUFFER_DUE (R125). -/
def execLogBufferDue (s : State) : Result :=
  .next (if s.cl.buffer.state = .filling ∧ Config.logDueTicks ≤ elapsed s.now s.cl.buffer.firstTick then
      s.modCl fun c => { c with buffer := { c.buffer with state := .due } }
    else s)

/-- VERDICT_COMPLETION (R106), at a tick after the start of the evaluation (R102). -/
def execVerdictCompletion (s : State) : Result :=
  .next (match s.cu.engine with
    | none => s
    | some e => if Config.verdictTicks ≤ elapsed s.now e.startTick then settle (completeVerdict e s) else s)

end Sys2Proof.Machine
end

