-- ==== Sys2Proof/Machine/Storage.lean ====
section
/-! DEFINITION. Meanings of the events of the storage port and the export line (R139 to R144, R148, R166). An event of an
operation that is not in flight changes nothing. -/

namespace Sys2Proof.Machine

/-- SP_GRANT (R140). -/
def execSpGrant (s : State) : Result :=
  .next (if s.mayGrant then settle (grantNext (s.writeQueue.length + 2) s) else s)

/-- RECORDED_WRITE_SUCCESS (R142). -/
def execRecordedWriteSuccess (s : State) : Result :=
  .next (match s.sp.operation with
    | some (.recorded e _ b) => settle (recordedSucceeded e b s)
    | _ => s)

/-- RECORDED_WRITE_FAILURE (R143, R144). -/
def execRecordedWriteFailure (s : State) : Result :=
  .next (match s.sp.operation with
    | some (.recorded e page b) => settle (recordedFailed e page b s)
    | _ => s)

/-- LOG_PAGE_WRITE_DONE (R127). -/
def execLogPageWriteDone (ok : Bool) (s : State) : Result :=
  .next (match s.sp.operation with
    | some (.log position _ _ _) => settle (logWriteEnded ok position s)
    | _ => s)

/-- DIRECTORY_WRITE_DONE (R148). -/
def execDirectoryWriteDone (ok : Bool) (s : State) : Result :=
  .next (match s.sp.operation with
    | some (.directory page image) => settle (directoryWriteEnded ok page image s)
    | _ => s)

/-- An operation ends as a failure (R139). -/
def operationFails (op : Operation) (s : State) : State :=
  match op with
  | .directory page image => directoryWriteEnded false page image s
  | .log position _ _ _ => logWriteEnded false position s
  | .recorded e page b => recordedFailed e page b s
  | .exportRead _ _ => exportReadEnded none s
  | .mountRead _ | .mountWrite _ => mountAnswered s .failed
  | .formatWrite _ _ => formatAnswered s false

/-- STORAGE_OPERATION_TIMEOUT (R139): 250 ms after the grant. -/
def execStorageOperationTimeout (s : State) : Result :=
  .next (match s.sp.operation with
    | none => s
    | some op =>
      if Config.operationTicks ≤ elapsed s.now s.sp.grantTick then settle (operationFails op s) else s)

/-- EXPORT_READ_DONE (R166): with the page as read, or none after a failed read. -/
def execExportReadDone (page : Option (List Byte)) (s : State) : Result :=
  .next (match s.sp.operation with
    | some (.exportRead _ _) => settle (exportReadEnded page s)
    | _ => s)

/-- EXPORT_FRAME_END (R166). -/
def execExportFrameEnd (s : State) : Result :=
  .next (match s.ee.current with
    | none => s
    | some x =>
      match x.state, x.frame with
      | .sending, some f => settle (exportFrameEnded x f s)
      | _, _ => s)

end Sys2Proof.Machine
end

