-- ==== Sys2Proof/Machine/StartUp.lean ====
section
/-! DEFINITION. Meanings of the events of supply, reset, mount and format (R185 to R192). -/

namespace Sys2Proof.Machine

/-- LOW_SUPPLY_ASSERT (R190): before RUN the level alone changes (R187 takes it at entry to RUN). -/
def execLowSupplyAssert (s : State) : Result :=
  .next (if s.part.lowSupply then s
    else
      let s1 := s.modPart fun p => { p with lowSupply := true }
      if s.part.state = .run then settle (assertSupply s1) else s1)

/-- LOW_SUPPLY_DEASSERT (R191). -/
def execLowSupplyDeassert (s : State) : Result :=
  .next (if s.part.lowSupply then
      let s1 := s.modPart fun p => { p with lowSupply := false }
      if s.part.state = .run then settle (deassertSupply s1) else s1
    else s)

/-- POWER_ON_RESET (R185). -/
def execPowerOnReset (s : State) : Result := .next (resetTo .power s)

/-- PIN_RESET (R185). -/
def execPinReset (s : State) : Result := .next (resetTo .pin s)

/-- Both events that an accepted RST waits for have happened (R192). -/
def State.rstDue (s : State) : Bool := s.am.rstPending && s.am.rstFlushed && s.am.rstReplyEnded

/-- RST_RESET_APPLIED (R192): at the later of FLUSHED and the end of the `=RST` record. -/
def execRstResetApplied (s : State) : Result := .next (if s.rstDue then resetTo .command s else s)

/-- The probe's answer lies in the capacities the part takes (R185). -/
def capacityOk (n : Nat) : Bool := decide (1024 ≤ n ∧ n ≤ 1048576)

/-- The part enters MOUNT (R185). -/
def enterMount (s : State) : State :=
  (s.modPart fun p => { p with state := .mount }).modAm fun a => { a with mountStart := s.now }

/-- The probe ends: the mount goes on with the capacity found, or ends UNAVAILABLE at once (R185, R186). -/
def probeEnds (capacity : Option Nat) (s : State) : State :=
  let found := capacity.filter capacityOk
  let s1 := if s.part.state = .run then s else enterMount s
  match found with
  | some n => mountGoesOn n [] (s1.modAm fun a => { a with capacity := some n })
  | none => mountEndsWithout .unavailable .unavailable s1

/-- PROBE_END (R185). -/
def execProbeEnd (capacity : Option Nat) (s : State) : Result :=
  .next (if s.am.mount = .probing then settle (probeEnds capacity s) else s)

/-- MOUNT_END (R186, R187): the operation in flight and those after it end as the answers say. -/
def execMountEnd (answers : List PageAnswer) (s : State) : Result :=
  .next (match s.sp.operation with
    | some (.mountRead _) | some (.mountWrite _) => settle (answers.foldl mountAnswered s)
    | _ => s)

/-- FORMAT_END (R188): the write in flight and those after it end as the answers say. -/
def execFormatEnd (answers : List Bool) (s : State) : Result :=
  .next (match s.sp.operation with
    | some (.formatWrite _ _) => settle (answers.foldl formatAnswered s)
    | _ => s)

end Sys2Proof.Machine
end

