-- ==== Sys2Proof/Machine/ControlLine.lean ====
section
/-! DEFINITION. Meanings of the events of the control line (R171 to R173, R176 to R179). -/

namespace Sys2Proof.Machine

/-- LINE_CHARACTER (R171, R172). -/
def execLineCharacter (code : Byte) (framingError : Bool) (s : State) : Result :=
  .next (takeCharacter s ⟨code.toNat, framingError⟩)

/-- LINE_BREAK (R179). -/
def execLineBreak (s : State) : Result := .next (breakLine s)

/-- TRANSMIT_END (R176). -/
def execTransmitEnd (s : State) : Result := .next (settle (endTransmission s))

/-- WATCH_DUE (R178). -/
def execWatchDue (slot : Nat) (s : State) : Result := .next (settle (watchFallsDue slot s))

/-- The text is one record of printable characters. -/
def printableText (t : Text) : Bool := !t.isEmpty && t.all fun c => decide (32 ≤ c ∧ c ≤ 126)

/-- UNKNOWN_VERB (R171, R173): a record's text, answered with SYNTAX or UNKNOWN; a text that turns out to name a verb is
that verb's record. -/
def execUnknownVerb (text : Text) (s : State) : Result :=
  .next (if s.lineFree text ∧ printableText text then settle (runText text s) else deliver text s)

end Sys2Proof.Machine
end

