-- ==== Sys2Proof/Machine/Verbs.lean ====
section
/-! DEFINITION. Meanings of the command records of section 10.7: each is its own operation, taken as a record of the line
(R173). -/

namespace Sys2Proof.Machine

/-- IDN: identity and part state (R180). -/
def execIdn (s : State) : Result :=
  .next (verbRow .idn opIdn s)

/-- STA: device state (R181). -/
def execSta (group : Option Text) (s : State) : Result :=
  .next (verbRow (.sta group) (opSta group) s)

/-- SVS: one service's state (R182). -/
def execSvs (svc : Nat) (group : Option Text) (k : Option Nat) (s : State) : Result :=
  .next (verbRow (.svs svc group k) (opSvs svc group k (fieldsOf (.svs svc group k))) s)

/-- SVE: enable a service (R16). -/
def execSve (svc : Nat) (s : State) : Result :=
  .next (verbRow (.sve svc) (opSve svc (fieldsOf (.sve svc))) s)

/-- SVD: disable a service (R17). -/
def execSvd (svc : Nat) (s : State) : Result :=
  .next (verbRow (.svd svc) (opSvd svc (fieldsOf (.svd svc))) s)

/-- PRF: set profile fields (R99). -/
def execPrf (svc : Nat) (settings : List (Text × Text)) (s : State) : Result :=
  .next (verbRow (.prf svc settings) (opPrf svc settings (fieldsOf (.prf svc settings))) s)

/-- PRQ: read profile fields (R100). -/
def execPrq (svc : Nat) (keys : List Text) (s : State) : Result :=
  .next (verbRow (.prq svc keys) (opPrq svc keys (fieldsOf (.prq svc keys))) s)

/-- WGT: set weighting coefficients (R22). -/
def execWgt (svc sec : Nat) (b0 b1 b2 a1 a2 : Int) (s : State) : Result :=
  .next (verbRow (.wgt svc sec b0 b1 b2 a1 a2)
    (opWgt svc sec ⟨b0, b1, b2, a1, a2⟩ (fieldsOf (.wgt svc sec b0 b1 b2 a1 a2))) s)

/-- TIM: set wall time (R6). -/
def execTim (second : Nat) (s : State) : Result :=
  .next (verbRow (.tim second) (opTim second) s)

/-- TIQ: read the time base (R8). -/
def execTiq (s : State) : Result :=
  .next (verbRow .tiq opTiq s)

/-- MTR: meters of a service (R183). -/
def execMtr (svc : Nat) (s : State) : Result :=
  .next (verbRow (.mtr svc) (opMtr svc (fieldsOf (.mtr svc))) s)

/-- LOG: read an entry (R123). -/
def execLog (sequence : Nat) (part : Option Nat) (s : State) : Result :=
  .next (verbRow (.log sequence part) (opLog sequence part (fieldsOf (.log sequence part))) s)

/-- LGC: set the read cursor (R124). -/
def execLgc (sequence : Nat) (s : State) : Result :=
  .next (verbRow (.lgc sequence) (opLgc sequence (fieldsOf (.lgc sequence))) s)

/-- LGN: read at the cursor (R124). -/
def execLgn (s : State) : Result :=
  .next (verbRow .lgn opLgn s)

/-- ACK: clear the unacknowledged-failure flag (R108). -/
def execAck (svc : Nat) (s : State) : Result :=
  .next (verbRow (.ack svc) (opAck svc (fieldsOf (.ack svc))) s)

/-- WCH: set a watch (R178). -/
def execWch (slot svc : Nat) (meter : Text) (interval : Nat) (s : State) : Result :=
  .next (verbRow (.wch slot svc meter interval)
    (opWch slot svc meter interval (fieldsOf (.wch slot svc meter interval))) s)

/-- WCX: clear a watch (R178). -/
def execWcx (slot : Nat) (s : State) : Result :=
  .next (verbRow (.wcx slot) (opWcx slot (fieldsOf (.wcx slot))) s)

/-- HLD: create a hold (R159). -/
def execHld (svc lo hi keep : Nat) (s : State) : Result :=
  .next (verbRow (.hld svc lo hi keep) (opHld svc lo hi keep (fieldsOf (.hld svc lo hi keep))) s)

/-- HLR: release a hold (R160). -/
def execHlr (id : Nat) (s : State) : Result :=
  .next (verbRow (.hlr id) (opHlr id (fieldsOf (.hlr id))) s)

/-- HLQ: list holds (R162). -/
def execHlq (id : Option Nat) (s : State) : Result :=
  .next (verbRow (.hlq id) (opHlq id (fieldsOf (.hlq id))) s)

/-- TRG: set a capture trigger (R163). -/
def execTrg (slot : Nat) (event svc action : Text) (pre post : Nat) (s : State) : Result :=
  .next (verbRow (.trg slot event svc action pre post)
    (opTrg slot event svc action pre post (fieldsOf (.trg slot event svc action pre post))) s)

/-- TRX: clear a capture trigger (R163). -/
def execTrx (slot : Nat) (s : State) : Result :=
  .next (verbRow (.trx slot) (opTrx slot (fieldsOf (.trx slot))) s)

/-- EXP: start an export (R165). -/
def execExp (form : ExportForm) (s : State) : Result :=
  .next (verbRow (.exp form) (opExp form (fieldsOf (.exp form))) s)

/-- XAB: stop the export (R168). -/
def execXab (s : State) : Result :=
  .next (verbRow .xab opXab s)

/-- EXQ: read the export engine (R170). -/
def execExq (s : State) : Result :=
  .next (verbRow .exq opExq s)

/-- OFL: take the archive off line (R151). -/
def execOfl (s : State) : Result :=
  .next (verbRow .ofl opOfl s)

/-- ONL: mount the archive (R152). -/
def execOnl (s : State) : Result :=
  .next (verbRow .onl opOnl s)

/-- SAV: save profiles and triggers (R189). -/
def execSav (s : State) : Result :=
  .next (verbRow .sav opSav s)

/-- FMT: format the device (R188). -/
def execFmt (low : Option Nat) (s : State) : Result :=
  .next (verbRow (.fmt low) (opFmt low) s)

/-- RST: orderly reset (R185, R192). -/
def execRst (s : State) : Result :=
  .next (verbRow .rst opRst s)

/-- CTQ: contexts of a service (R184). -/
def execCtq (svc : Nat) (form : ContextForm) (s : State) : Result :=
  .next (verbRow (.ctq svc form) (opCtq svc form (fieldsOf (.ctq svc form))) s)

end Sys2Proof.Machine
end

