-- ==== Sys2Proof/Machine/Dispatch.lean ====
section
/-! DEFINITION. Which meaning each command has. -/

namespace Sys2Proof.Machine

def exec (i : Instr) (s : State) : Host.Outcome State Fault Refusal :=
  match i with
  | .wordClockEdge near => Sys2Proof.Machine.execWordClockEdge near s
  | .dividerTick => Sys2Proof.Machine.execDividerTick s
  | .holdoverEntry => Sys2Proof.Machine.execHoldoverEntry s
  | .hourBoundary => Sys2Proof.Machine.execHourBoundary s
  | .feedUnit bytes => Sys2Proof.Machine.execFeedUnit bytes s
  | .waitExpiry svc => Sys2Proof.Machine.execWaitExpiry svc s
  | .audioTimeoutExpiry svc => Sys2Proof.Machine.execAudioTimeoutExpiry svc s
  | .acquisitionWindowExpiry svc slot => Sys2Proof.Machine.execAcquisitionWindowExpiry svc slot s
  | .carriageTimeoutExpiry svc slot => Sys2Proof.Machine.execCarriageTimeoutExpiry svc slot s
  | .cueShow svc => Sys2Proof.Machine.execCueShow svc s
  | .cueEnd svc slot => Sys2Proof.Machine.execCueEnd svc slot s
  | .subGapOpen svc slot => Sys2Proof.Machine.execSubGapOpen svc slot s
  | .adTimeOpen svc => Sys2Proof.Machine.execAdTimeOpen svc s
  | .logBufferDue => Sys2Proof.Machine.execLogBufferDue s
  | .verdictCompletion => Sys2Proof.Machine.execVerdictCompletion s
  | .spGrant => Sys2Proof.Machine.execSpGrant s
  | .recordedWriteSuccess => Sys2Proof.Machine.execRecordedWriteSuccess s
  | .recordedWriteFailure => Sys2Proof.Machine.execRecordedWriteFailure s
  | .logPageWriteDone ok => Sys2Proof.Machine.execLogPageWriteDone ok s
  | .directoryWriteDone ok => Sys2Proof.Machine.execDirectoryWriteDone ok s
  | .storageOperationTimeout => Sys2Proof.Machine.execStorageOperationTimeout s
  | .exportReadDone page => Sys2Proof.Machine.execExportReadDone page s
  | .exportFrameEnd => Sys2Proof.Machine.execExportFrameEnd s
  | .lowSupplyAssert => Sys2Proof.Machine.execLowSupplyAssert s
  | .lowSupplyDeassert => Sys2Proof.Machine.execLowSupplyDeassert s
  | .powerOnReset => Sys2Proof.Machine.execPowerOnReset s
  | .pinReset => Sys2Proof.Machine.execPinReset s
  | .rstResetApplied => Sys2Proof.Machine.execRstResetApplied s
  | .probeEnd capacity => Sys2Proof.Machine.execProbeEnd capacity s
  | .mountEnd report => Sys2Proof.Machine.execMountEnd report s
  | .formatEnd report => Sys2Proof.Machine.execFormatEnd report s
  | .lineCharacter code framing => Sys2Proof.Machine.execLineCharacter code framing s
  | .lineBreak => Sys2Proof.Machine.execLineBreak s
  | .transmitEnd => Sys2Proof.Machine.execTransmitEnd s
  | .watchDue slot => Sys2Proof.Machine.execWatchDue slot s
  | .idn => Sys2Proof.Machine.execIdn s
  | .sta group => Sys2Proof.Machine.execSta group s
  | .svs svc group k => Sys2Proof.Machine.execSvs svc group k s
  | .sve svc => Sys2Proof.Machine.execSve svc s
  | .svd svc => Sys2Proof.Machine.execSvd svc s
  | .prf svc settings => Sys2Proof.Machine.execPrf svc settings s
  | .prq svc keys => Sys2Proof.Machine.execPrq svc keys s
  | .wgt svc sec b0 b1 b2 a1 a2 => Sys2Proof.Machine.execWgt svc sec b0 b1 b2 a1 a2 s
  | .tim second => Sys2Proof.Machine.execTim second s
  | .tiq => Sys2Proof.Machine.execTiq s
  | .mtr svc => Sys2Proof.Machine.execMtr svc s
  | .log sequence part => Sys2Proof.Machine.execLog sequence part s
  | .lgc sequence => Sys2Proof.Machine.execLgc sequence s
  | .lgn => Sys2Proof.Machine.execLgn s
  | .ack svc => Sys2Proof.Machine.execAck svc s
  | .wch slot svc meter interval => Sys2Proof.Machine.execWch slot svc meter interval s
  | .wcx slot => Sys2Proof.Machine.execWcx slot s
  | .hld svc lo hi keep => Sys2Proof.Machine.execHld svc lo hi keep s
  | .hlr id => Sys2Proof.Machine.execHlr id s
  | .hlq id => Sys2Proof.Machine.execHlq id s
  | .trg slot event svc action pre post => Sys2Proof.Machine.execTrg slot event svc action pre post s
  | .trx slot => Sys2Proof.Machine.execTrx slot s
  | .exp form => Sys2Proof.Machine.execExp form s
  | .xab => Sys2Proof.Machine.execXab s
  | .exq => Sys2Proof.Machine.execExq s
  | .ofl => Sys2Proof.Machine.execOfl s
  | .onl => Sys2Proof.Machine.execOnl s
  | .sav => Sys2Proof.Machine.execSav s
  | .fmt low => Sys2Proof.Machine.execFmt low s
  | .rst => Sys2Proof.Machine.execRst s
  | .ctq svc form => Sys2Proof.Machine.execCtq svc form s
  | .unknownVerb text => Sys2Proof.Machine.execUnknownVerb text s

end Sys2Proof.Machine
end

