-- ==== Sys2Proof/Machine/Step.lean ====
section
/-! DEFINITION. One step: the command at the front of the queue. -/

namespace Sys2Proof.Machine

/-- The queue without its front. -/
def State.withoutFront (s : State) : State := { s with pending := s.pending.tail }

/-- One step runs the command at the front of the queue; with none waiting the part idles (log entry 1). -/
def step (s : State) : Host.Outcome State Fault Refusal :=
  match s.pending with
  | [] => .next s
  | c :: _ => exec c s.withoutFront

/-- The command that a word spells, put at the front of the queue; no row of the table gives bits, so none is spelled.
-/
def State.withFetchWord (s : State) (nbits w : Nat) : State :=
  match decodeTableWord nbits w with
  | none => s
  | some c => { s with pending := c :: s.pending }

end Sys2Proof.Machine
end

