-- ==== Sys2Proof/Safety.lean ====
section
/-! DEFINITION. What claims speak of: outcomes, a part at rest, and the invariants every step keeps. -/

namespace Sys2Proof.Machine

/-- A step that neither faults nor is refused. -/
def Safe (s : State) : Prop := ∃ t, step s = .next t

/-- The control line is at rest: nothing is being sent, no reply waits, no record waits or is being received. -/
def State.lineIdle (s : State) : Bool :=
  s.lc.sending.isNone && s.lc.reply.isNone && s.lc.waiting.isEmpty && s.lc.current.isEmpty && s.lc.fault.isNone

/-- The part executes a record at once: it is in RUN, no RST is pending, and the line is at rest (R173, R192). -/
def State.ready (s : State) : Bool := decide (s.part.state = .run) && !s.am.rstPending && s.lineIdle

/-- Nothing is left for the end of an event: no entry waits for TU, no evaluation for its start, no OFL for its change,
no flush for its next step. -/
def State.settled (s : State) : Bool :=
  s.cl.handed.isEmpty && (s.cu.engine.isSome || s.cu.queue.isEmpty) &&
    !(s.am.oflPending && s.sp.operation.isNone) && decide (s.am.flush ≠ .flushing)

/-- Also nothing for the transmitter. -/
def State.still (s : State) : Bool := s.settled && decide (s.lc.startSending = s.lc)

/-- A record that meets R171: at most 160 characters, every field in its form. -/
def sendable (i : Instr) : Bool := decide ((recordText i).length ≤ Config.recordChars) && (syntaxFault i).isNone

/-- A reply that meets R174. -/
def fits (r : Text) : Bool := decide (r.length ≤ Config.recordChars)

/-- A unit, whole, of an enabled service in RUN passes every check of R10 and reads as `b`; no part of a unit waits on the
port. -/
def State.takes (s : State) (bytes : List Byte) (i : Nat) (b : FeedBody) : Bool :=
  s.feedBytes.isEmpty && !s.feedLost && wholeUnit bytes && (feedHeader bytes).checkOk &&
    decide ((feedHeader bytes).service = i) && decide (i < Config.serviceCount) && decide (s.services.length = Config.serviceCount) &&
    decide (s.part.state = .run) && (s.svc i).profile.enabled &&
    lengthFits (feedHeader bytes).kind (bytes.drop 8) &&
    decide (bodyOf (feedHeader bytes).kind (bytes.drop 8) = some b) && bodyAllowed (s.svc i).profile b

/-- No capture trigger is set. -/
def State.noTriggers (s : State) : Bool := s.triggers.all Option.isNone

/-- The part right after a reset: a unit that is arriving is lost (R18). -/
def State.restarted (s : State) (cause : ResetCause) : State :=
  { State.reset with
    part := ⟨.start, cause, s.part.lowSupply⟩
    feedBytes := s.feedBytes
    feedLost := !s.feedBytes.isEmpty
    pending := s.pending }

/-- The state with a reply that has just begun to leave the line. -/
def State.replying (s : State) (r : Text) : State := { s with lc := { s.lc with sending := some r } }

/-- The command is executed and its reply begins to leave the line. -/
def Answered (i : Instr) (s : State) (r : Text) (t : State) : Prop := exec i s = .next t ∧ t.lc.sending = some r

/-- What the end of an event never changes, nor the taking of an entry, nor the answering of a hold request. -/
structure SameCore (s t : State) : Prop where
  part : t.part = s.part
  tb : t.tb = s.tb
  feedBytes : t.feedBytes = s.feedBytes
  feedLost : t.feedLost = s.feedLost
  services : t.services = s.services
  writeQueue : t.writeQueue = s.writeQueue
  sp : t.sp = s.sp
  triggers : t.triggers = s.triggers
  pending : t.pending = s.pending
  free : t.pool.free = s.pool.free
  conditions : t.cu.conditions = s.cu.conditions
  boot : t.cl.boot = s.cl.boot
  cursorSeq : t.cl.cursorSeq = s.cl.cursorSeq
  cursorPart : t.cl.cursorPart = s.cl.cursorPart
  nextPage : t.cl.nextPage = s.cl.nextPage
  capacity : t.am.capacity = s.am.capacity
  hasTable : t.am.hasTable = s.am.hasTable
  extents : t.am.extents = s.am.extents
  freeList : t.am.free = s.am.free
  order : t.am.order = s.am.order
  nextCompletion : t.am.nextCompletion = s.am.nextCompletion
  lowWater : t.am.lowWater = s.am.lowWater
  bootCounter : t.am.bootCounter = s.am.bootCounter
  rstPending : t.am.rstPending = s.am.rstPending
  rstReplyEnded : t.am.rstReplyEnded = s.am.rstReplyEnded
  mount : t.am.mount = s.am.mount
  mountStart : t.am.mountStart = s.am.mountStart
  profilesLoaded : t.am.profilesLoaded = s.am.profilesLoaded
  waiting : t.lc.waiting = s.lc.waiting
  current : t.lc.current = s.lc.current
  fault : t.lc.fault = s.lc.fault
  crOnly : t.lc.crOnly = s.lc.crOnly
  watches : t.lc.watches = s.lc.watches

/-- The log's account of a boot (R120 to R122): the ring holds the newest min(2048, last sequence) entries, numbered
consecutively up to the last sequence, and the mark is set once the last number has been taken. -/
def LogState.ringOk (c : LogState) : Prop :=
  c.ring.length = min Config.ringEntries c.lastSeq ∧
  c.ring.map Entry.seq = List.range' (c.lastSeq + 1 - c.ring.length) c.ring.length ∧
  c.lastSeq ≤ Config.lastSequence ∧ (c.lastSeq = Config.lastSequence → c.exhausted = true)

/-- The bounds of the line controller's queues and of its buffer (R172, R177). -/
def Line.bounded (l : Line) : Prop :=
  l.reports.length ≤ Config.reportCount ∧ l.errors.length ≤ Config.lineErrorCount ∧ l.used ≤ Config.receiveChars

/-- The extent table stands in its canonical form: numbers strictly rising, no FREE record listed. -/
def State.tableOk (s : State) : Prop := tableWf .free s.am.extents = true

/-- The dirty directory pages stand in rising order, each once. -/
def State.dirtyOk (s : State) : Prop := s.am.dirty.Pairwise (· < ·)

/-- The numbers that the rules give: 16 services of 4 slots each, at most 4 open entries (R55) and 16 pending cues (R80)
of a service, 64 contexts (R57), at most 128 holds (R155), 8 triggers (R163), 8 watches (R178). -/
structure State.sizesOk (s : State) : Prop where
  services : s.services.length = 16
  slots : ∀ v ∈ s.services, v.sc.slots.length = 4
  entries : ∀ v ∈ s.services, v.st.stack.length ≤ 4
  cues : ∀ v ∈ s.services, v.sc.queue.length ≤ 16
  contexts : s.pool.contexts.length = 64
  holds : s.am.holds.length ≤ 128
  holdRanges : ∀ h ∈ s.am.holds, h.lo ≤ h.hi
  triggers : s.triggers.length = 8
  watches : s.lc.watches.length = 8

/-- The contexts that are not free: held by stack entries, in the verdict queue, under evaluation (R57). -/
def State.contextsInUse (s : State) : List Nat :=
  (s.services.map fun v => v.st.stack.filterMap StackEntry.context).flatten ++ s.cu.queue ++
    (s.cu.engine.map Evaluation.context).toList

/-- Every context number is in exactly one place: the free list, a stack, the verdict queue, the engine (R57). -/
def State.poolOk (s : State) : Prop :=
  s.services.length = 16 ∧ (s.pool.free ++ s.contextsInUse).Perm (List.range 64)

end Sys2Proof.Machine
end

