-- ==== Sys2Proof/Certificates/Slice0/Obligations.lean ====
section
/-! DEFINITION. The statements to be proved about the model. -/

open Sys2Proof Sys2Proof.Machine

/-! ### The queue and the outcomes -/

/-- With a command at the front of its queue a step is that command on the rest; with none waiting the part idles (both
the model's form of a step, log entry 1); and no command stops the part. -/
def Obligations.StepRunsFrontCommand : Prop :=
  (∀ (c : Instr) (s : State), step { s with pending := c :: s.pending } = exec c s) ∧
  (∀ s : State, s.pending = [] → step s = .next s) ∧
  (∀ (c : Instr) (s : State), ∃ t, exec c s = .next t)

/-! ### Time base -/

/-- An edge within half a period after a divider tick is absorbed: station time stands, and the divider tick count
returns to 0. Any other edge is taken: station time advances by one, and it is the last edge. Either restarts the
divider and leaves TB LOCKED. The hour number is that of the new tick, but at a boundary (log entry 7); whether an edge
falls that near is the command's operand (log entry 21). -/
def Obligations.EdgeAdvancesOrIsAbsorbed : Prop :=
  ∀ (near : Bool) (s : State),
    let next := (s.tb.stationTime + 1) % 2 ^ 48
    (near = true ∧ s.tb.lastTickDivider = true →
      ∃ t, exec (.wordClockEdge near) s = .next t ∧
        t.tb = { s.tb with refState := .locked, dividerTicks := 0, ticksSinceEdge := 0 } ∧
        t.services = s.services ∧ t.pool.free = s.pool.free ∧ t.sp = s.sp ∧ t.writeQueue = s.writeQueue ∧
        t.am.extents = s.am.extents ∧
        (s.tb.refState = .locked →
          SameCore { s with tb := { s.tb with dividerTicks := 0, ticksSinceEdge := 0 } } t)) ∧
    (¬ (near = true ∧ s.tb.lastTickDivider = true) →
      ∃ t, exec (.wordClockEdge near) s = .next t ∧
        t.tb = { s.tb with
          stationTime := next
          refState := .locked
          dividerTicks := 0
          hour := if isBoundary s.tb.anchor next then s.tb.hour else hourOf s.tb.anchor next
          lastEdge := next
          ticksSinceEdge := 0
          lastTickDivider := false } ∧
        t.part = s.part ∧ t.sp = s.sp ∧ t.writeQueue = s.writeQueue ∧ t.triggers = s.triggers ∧
        t.am.extents = s.am.extents ∧ t.pool.free = s.pool.free ∧ t.pending = s.pending ∧
        (s.tb.refState = .locked → t.cu.conditions = s.cu.conditions))

/-- With 48 consecutive divider ticks in LOCKED, TB enters HOLDOVER at this tick; in RUN it writes REF_LOST and the
device-wide condition stands from this tick. Otherwise the event changes nothing (the model's choice, log entry 7). In
HOLDOVER the first edge, absorbed or taken, returns TB to LOCKED; in RUN it writes REF_BACK with the length of the
holdover and the divider ticks since the last edge, and closes REF_LOST, and before RUN it writes nothing. With no edge
since the reset those ticks count from the reset (DESIGN CHOICE, log entry 2). -/
def Obligations.HoldoverBeginsAndEnds : Prop :=
  ∀ s : State,
    (s.tb.refState = .locked ∧ s.tb.dividerTicks = 48 →
      ∃ t, exec .holdoverEntry s = .next t ∧
        SameCore { s with
          tb := { s.tb with refState := .holdover, holdoverStart := s.tb.stationTime },
          cu := { s.cu with conditions := s.cu.conditions ++
            (if s.part.state = .run then [⟨.refLost, none, none, none, s.tb.stationTime, s.nextSeq⟩] else []) } } t ∧
        (s.settled = true → s.cl.exhausted = false → t.cl.ring =
          if s.part.state = .run then ringJoin s.cl.ring (s.entryFor none (.refLost s.tb.lastEdge)) else s.cl.ring)) ∧
    (¬ (s.tb.refState = .locked ∧ s.tb.dividerTicks = 48) → exec .holdoverEntry s = .next s) ∧
    (∀ near : Bool, s.tb.refState = .holdover → s.settled = true → s.cl.exhausted = false →
      let tick := if near = true ∧ s.tb.lastTickDivider = true then s.tb.stationTime
        else (s.tb.stationTime + 1) % 2 ^ 48
      ∃ t, exec (.wordClockEdge near) s = .next t ∧ t.tb.refState = .locked ∧ t.tb.dividerTicks = 0 ∧
        t.tb.stationTime = tick ∧ t.am = s.am ∧ t.sp = s.sp ∧
        (s.part.state = .run →
          t.cl.ring = ringJoin s.cl.ring
            { s.entryFor none (.refBack (elapsed tick s.tb.holdoverStart) s.tb.ticksSinceEdge) with
              tick := tick, wall := wallOf s.tb.anchor tick } ∧
          t.cu.conditions =
            s.cu.conditions.filter fun c => !decide (c.cls = .refLost ∧ c.service = none ∧ c.slot = none)) ∧
        (s.part.state ≠ .run → t.cl = s.cl ∧ t.cu.conditions = s.cu.conditions))

/-- A divider tick advances station time and counts one more consecutive tick, at most 48. Of the services only the
advert ticks of an enabled one that is advert-active change, of the pool only the services' credit targets, and every
other block stands. The hour number is that of the new tick, but at a boundary (log entry 7). That the counts go on past
2^48 − 1 is the model's choice (log entry 8). -/
def Obligations.DividerTickAdvancesTime : Prop :=
  ∀ s : State, s.services.length = 16 →
    let next := (s.tb.stationTime + 1) % 2 ^ 48
    ∃ t, exec .dividerTick s = .next t ∧
      t.tb = { s.tb with
        stationTime := next
        dividerTicks := min 48 (s.tb.dividerTicks + 1)
        hour := if isBoundary s.tb.anchor next then s.tb.hour else hourOf s.tb.anchor next
        ticksSinceEdge := s.tb.ticksSinceEdge + 1
        lastTickDivider := true } ∧
      t.services = s.services.map (fun v => { v with tally := { v.tally with
        advertTicks := v.tally.advertTicks + (if v.profile.enabled = true ∧ v.tally.active = true then 1 else 0) } }) ∧
      (∀ c, (∀ i, i < 16 → s.target i ≠ some c) → t.ctx c = s.ctx c) ∧
      t.part = s.part ∧ t.feedBytes = s.feedBytes ∧ t.feedLost = s.feedLost ∧ t.cu = s.cu ∧ t.cl = s.cl ∧
      t.writeQueue = s.writeQueue ∧
      t.am = s.am ∧ t.sp = s.sp ∧ t.triggers = s.triggers ∧ t.ee = s.ee ∧ t.lc = s.lc ∧ t.pool.free = s.pool.free ∧
      t.pending = s.pending

/-- Over one tick, from the divider or from an edge taken, a LOST service's credit target gains one tick of missing
time, a 48-bit count, and a service's credit target gains one covered tick for each slot that shows a cue and one lapsed
tick for each LAPSED slot, with MERGED if the innermost entry has no context of its own; an enabled service that is
advert-active gains one advert tick. What missing time holds after 2^48 − 1 is free, and that the other counts go on
past it is the model's choice (log entry 8). -/
def Obligations.TickAccruesToTarget : Prop :=
  ∀ (s : State) (e : Instr) (i : Nat), i < 16 → s.services.length = 16 →
    (e = .dividerTick ∨
      ∃ near, e = .wordClockEdge near ∧ ¬ (near = true ∧ s.tb.lastTickDivider = true)) →
    ∃ t, exec e s = .next t ∧
      (t.svc i).tally.advertTicks = (s.svc i).tally.advertTicks +
        (if (s.svc i).profile.enabled = true ∧ (s.svc i).tally.active = true then 1 else 0) ∧
      ∀ c, s.target i = some c → c < s.pool.contexts.length → (∀ j, j < 16 → j ≠ i → s.target j ≠ some c) →
        ((s.svc i).feed.state ≠ .lost → (t.ctx c).missing = (s.ctx c).missing) ∧
        ((s.svc i).feed.state = .lost → (t.ctx c).missing < 2 ^ 48 ∧
          ((s.ctx c).missing + 1 < 2 ^ 48 → (t.ctx c).missing = (s.ctx c).missing + 1)) ∧
        (t.ctx c).covered = addWhere Slot.isCovered (s.svc i).sc.slots (s.ctx c).covered ∧
        (t.ctx c).lapsed = addWhere Slot.isLapsed (s.svc i).sc.slots (s.ctx c).lapsed ∧
        (t.ctx c).flags.merged = ((s.ctx c).flags.merged || (s.innermostUnmeasured i &&
          (s.svc i).sc.slots.any fun x => x.showing.isSome || decide (x.carriage = .lapsed))) ∧
        (t.ctx c).bins = (s.ctx c).bins ∧ (t.ctx c).peak = (s.ctx c).peak

/-- At a boundary TB advances the hour number, and in RUN every enabled service starts a new tally at 0 at this tick
with the part mark clear; before RUN no tally ends and no entry is taken. At a tick that is no boundary, or whose
boundary has been reported, the event changes nothing (the model's choice, log entry 7). -/
def Obligations.HourBoundaryTurnsTallies : Prop :=
  ∀ s : State, s.services.length = 16 →
    (s.boundaryDue = true →
      ∃ t, exec .hourBoundary s = .next t ∧ t.tb = { s.tb with hour := hourOf s.tb.anchor s.tb.stationTime } ∧
        (s.part.state ≠ .run → t.services = s.services) ∧
        (s.part.state ≠ .run → s.am.state ≠ .online → s.settled = true → t.cl = s.cl) ∧
        (∀ i, i < 16 → (s.svc i).profile.enabled = false → t.svc i = s.svc i) ∧
        (s.part.state = .run → ∀ i, i < 16 → (s.svc i).profile.enabled = true → t.svc i =
          { s.svc i with tally := { (s.svc i).tally with
              hour := hourOf s.tb.anchor s.tb.stationTime, start := s.tb.stationTime, part := false,
              advertTicks := 0 } }) ∧
        t.sp = s.sp ∧ t.writeQueue = s.writeQueue ∧ t.am.extents = s.am.extents) ∧
    (s.boundaryDue = false → exec .hourBoundary s = .next s)

/-! ### Feed port and loudness -/

/-- Bytes that do not complete the unit in progress wait with it, and the length of a header sets where the next unit
begins whether or not its check holds. A header whose check fails is counted as its 8th byte arrives, in RUN if the
service it names is 0..15 and enabled, and the unit reaches no block from then on. A unit that was arriving at a reset
is lost whole. Of whole units: one whose header check fails is discarded, and counted if the service it names is 0..15
and enabled; one that passes it and names a service above 15, or a disabled one, is discarded uncounted; of an enabled
service, a kind code outside 1..6, a length that does not fit the kind and a field outside its range, another channel
count than the profile's, or a slot of a CUE or CARRY outside the mask is discarded and counted. That bytes of a unit
wait at the port, and what follows a unit cut by a reset, is DEDUCED (log entry 19). -/
def Obligations.FeedUnitIsDiscarded : Prop :=
  (∀ (bytes : List Byte) (s : State),
    (s.feedBytes ++ bytes).length < 8 + (feedHeader (s.feedBytes ++ bytes)).length →
    s.feedLost = true ∨ (s.feedBytes ++ bytes).length < 8 ∨ (feedHeader (s.feedBytes ++ bytes)).checkOk = true →
      exec (.feedUnit bytes) s = .next { s with feedBytes := s.feedBytes ++ bytes }) ∧
  (∀ (bytes : List Byte) (s : State), s.feedLost = false → s.still = true → 8 ≤ (s.feedBytes ++ bytes).length →
    let h := feedHeader (s.feedBytes ++ bytes)
    (s.feedBytes ++ bytes).length < 8 + h.length → h.checkOk = false →
    let checked := if s.part.state = .run ∧ h.service < 16 ∧ (s.svc h.service).profile.enabled = true then
        s.modFeed h.service fun f => { f with errors := min 65535 (f.errors + 1) } else s
    exec (.feedUnit bytes) s = .next { checked with feedBytes := s.feedBytes ++ bytes, feedLost := true }) ∧
  (∀ (u v : List Byte) (s t : State), s.feedBytes = [] → wholeUnit u = true → exec (.feedUnit u) s = .next t →
    exec (.feedUnit (u ++ v)) s = exec (.feedUnit v) t) ∧
  (∀ (bytes : List Byte) (s : State), s.feedLost = true → wholeUnit (s.feedBytes ++ bytes) = true →
    exec (.feedUnit bytes) s = .next { s with feedBytes := [], feedLost := false }) ∧
  (∀ (bytes : List Byte) (s : State), s.feedBytes = [] → s.feedLost = false → wholeUnit bytes = true →
    s.part.state = .run → s.still = true →
    let h := feedHeader bytes
    let body := bytes.drop 8
    let at1 := fun k => fieldAt body k 1
    let at2 := fun k => fieldAt body k 2
    let p := (s.svc h.service).profile
    let counted := Host.Outcome.next (s.modFeed h.service fun f => { f with errors := min 65535 (f.errors + 1) })
    let known := h.service < 16 ∧ p.enabled = true
    let slotOut := 3 < at1 0 ∨ p.slotMask.testBit (at1 0) = false
    (h.checkOk = false → exec (.feedUnit bytes) s = if known then counted else .next s) ∧
    (h.checkOk = true → ¬ known → exec (.feedUnit bytes) s = .next s) ∧
    (h.checkOk = true → known → h.kind < 1 ∨ 6 < h.kind → exec (.feedUnit bytes) s = counted) ∧
    (h.checkOk = true → known →
      (h.kind = 1 ∧ (body.length < 3 ∨ body.length ≠ 3 + 3 * at2 0 * at1 2)) ∨ (h.kind = 2 ∧ body.length ≠ 8) ∨
      (h.kind = 3 ∧ body.length ≠ 3) ∨ (h.kind = 4 ∧ body.length ≠ 1) ∨ (h.kind = 5 ∧ body.length ≠ 7) ∨
      (h.kind = 6 ∧ (body.length < 1 ∨ 4096 < body.length)) → exec (.feedUnit bytes) s = counted) ∧
    (h.checkOk = true → known → lengthFits h.kind body = true →
      (h.kind = 1 ∧ (at2 0 < 1 ∨ 480 < at2 0 ∨ at1 2 < 1 ∨ 6 < at1 2 ∨ p.channels ≠ some (at1 2))) ∨
      (h.kind = 2 ∧ (slotOut ∨ 500 < at2 3 ∨ at2 5 < 1 ∨ 3000 < at2 5 ∨ 240 < at1 7)) ∨ (h.kind = 3 ∧ 3 < at1 0) ∨
      (h.kind = 4 ∧ slotOut) ∨
      (h.kind = 5 ∧ (at1 0 < 1 ∨ 2 < at1 0 ∨ at1 1 < 1 ∨ 6 < at1 1 ∨ at1 6 < 1 ∨ 3 < at1 6)) →
      exec (.feedUnit bytes) s = counted))

/-- An accepted AUDIO unit makes the feed LIVE with the unit's stamp as its last audio stamp; a LOST feed's FEED_LOST
closes and its loss start ends. No other service changes. -/
def Obligations.AudioMakesFeedLive : Prop :=
  ∀ (bytes : List Byte) (s : State) (i c : Nat) (frames : List (List Int)), s.takes bytes i (.audio c frames) = true →
    ∃ t, exec (.feedUnit bytes) s = .next t ∧
      (t.svc i).feed = { (s.svc i).feed with state := .live, lastAudio := some s.tb.stationTime } ∧
      ((s.svc i).feed.state = .lost → t.isOpen (some i) .feedLost none = false ∧ (t.svc i).le.lossStart = none) ∧
      (∀ j, j ≠ i → t.svc j = s.svc j) ∧ t.tb = s.tb ∧ t.sp = s.sp ∧ t.am.extents = s.am.extents

/-- Each frame's samples go through the two filter sections of their channel, each channel sum gains the square of the
weighted sample, and the partial peak is the largest magnitude. With the 4800th frame the sub-block completes: its power
is the weighted sum over the channels and joins the ring of at most 30, the peak meter is the peak of the sub-block,
momentary and short-term are formed from the newest 4 and all 30 powers, and the partial sub-block is empty. With 4
powers or more a block is judged for dead air: below the threshold the silence run goes up, to 1200, and DEAD_AIR is
open once it has reached the limit; otherwise the run is 0 and DEAD_AIR is closed. A block's loudness is the model's
exact arithmetic (log entry 4, DEDUCED). -/
def Obligations.AudioFillsSubBlocks : Prop :=
  (∀ (l : Loudness) (p : Profile) (xs : List Int), l.filters.length = 6 → l.sums.length = 6 → xs.length ≤ 6 →
    (l.frame p xs).frameCount = l.frameCount + 1 ∧
    (∀ m, (l.frame p xs).partialPeak ≤ m ↔ l.partialPeak ≤ m ∧ ∀ x ∈ xs, x.natAbs ≤ m) ∧
    (∀ k, k < 6 →
      let f := l.filters.getD k .zero
      let x := xs.getD k 0
      let y := sectionOutput p.section1 f.first x
      let z := sectionOutput p.section2 f.second y
      (k < xs.length → ((l.frame p xs).sums.getD k 0 : Int) = l.sums.getD k 0 + z * z ∧
        (l.frame p xs).filters.getD k .zero =
          ⟨⟨x, f.first.x1, y, f.first.y1⟩, ⟨y, f.second.x1, z, f.second.y1⟩⟩) ∧
      (xs.length ≤ k → (l.frame p xs).sums.getD k 0 = l.sums.getD k 0 ∧
        (l.frame p xs).filters.getD k .zero = f))) ∧
  (∀ (bytes : List Byte) (s : State) (i c : Nat) (frames : List (List Int)), s.takes bytes i (.audio c frames) = true →
    let p := (s.svc i).profile
    let before := (s.svc i).le
    let start := if (s.svc i).feed.state = .lost then { before with lossStart := none } else before
    (before.frameCount + frames.length < 4800 →
      ∃ t, exec (.feedUnit bytes) s = .next t ∧ (t.svc i).le = frames.foldl (fun l xs => l.frame p xs) start) ∧
    (∀ a b : List (List Int), frames = a ++ b → a ≠ [] → before.frameCount + a.length = 4800 →
      let l := a.foldl (fun l xs => l.frame p xs) start
      let ring := (((List.zipWith (· * ·) p.weights l.sums).take c).sum :: before.ring).take 30
      let momentary := clampLoudness (blockLoudness 4 (ring.take 4).sum p.offset)
      let run := if 4 ≤ ring.length then
          (if momentary < p.silenceThreshold then min 1200 (before.silenceRun + 1) else 0)
        else before.silenceRun
      ∃ t, exec (.feedUnit bytes) s = .next t ∧
        (t.svc i).le = b.foldl (fun l xs => l.frame p xs)
          { l with
            frameCount := 0
            sums := [0, 0, 0, 0, 0, 0]
            partialPeak := 0
            ring := ring
            peakMeter := some (peakValue l.partialPeak)
            momentary := if 4 ≤ ring.length then some momentary else none
            shortTerm := if ring.length = 30 then some (clampLoudness (blockLoudness 30 ring.sum p.offset)) else none
            silenceRun := run } ∧
        (4 ≤ ring.length → momentary < p.silenceThreshold → p.silenceLimit * 10 ≤ run →
          t.isOpen (some i) .deadAir none = true) ∧
        (4 ≤ ring.length → ¬ momentary < p.silenceThreshold → t.isOpen (some i) .deadAir none = false)))

/-- An AUDIO unit raises the peak of its service's credit target to the unit's peak, and once it lies above the ceiling
the peak-over mark is set, with one PEAK_OVER entry. A block adds one to the target's block count and one to its
below-gate count or to one bin, raises its maxima, recomputes the running value at every tenth, and sets MERGED if the
innermost entry has no context of its own; without a block these figures stand. A block's loudness is the model's exact
arithmetic (log entry 4, DEDUCED). -/
def Obligations.BlocksAndPeaksAreCredited : Prop :=
  ∀ (bytes : List Byte) (s : State) (i n d : Nat) (frames : List (List Int)),
    s.takes bytes i (.audio n frames) = true → s.target i = some d → d < s.pool.contexts.length → d ∉ s.pool.free →
    tableWf 0 (s.ctx d).bins = true →
    let p := (s.svc i).profile
    let x := s.ctx d
    let peak := max x.peak (peakValue (largestMagnitude frames.flatten))
    let before := (s.svc i).le
    (∃ t, exec (.feedUnit bytes) s = .next t ∧ (t.ctx d).peak = peak ∧
      (t.ctx d).peakOver = (x.peakOver || decide (p.peakCeiling < peak)) ∧ (t.ctx d).missing = x.missing ∧
      (∀ j, j ≠ i → t.svc j = s.svc j)) ∧
    (before.frameCount + frames.length < 4800 →
      ∃ t, exec (.feedUnit bytes) s = .next t ∧ (t.ctx d).blockCount = x.blockCount ∧
        (t.ctx d).belowGate = x.belowGate ∧ (t.ctx d).bins = x.bins ∧ (t.ctx d).running = x.running ∧
        (t.ctx d).maxMomentary = x.maxMomentary ∧ (t.ctx d).maxShortTerm = x.maxShortTerm ∧
        (s.settled = true → s.noTriggers = true → s.cl.exhausted = false → (s.svc i).feed.state ≠ .lost →
          t.cl.ring = if x.peakOver = false ∧ p.peakCeiling < peak then
              ringJoin s.cl.ring (s.entryFor (some i) (.peakOver d x.kind x.id peak p.peakCeiling))
            else s.cl.ring)) ∧
    (∀ a b : List (List Int), frames = a ++ b → a ≠ [] → before.frameCount + a.length = 4800 → 3 ≤ before.ring.length →
      let l := a.foldl (fun l xs => l.frame p xs) before
      let ring := (((List.zipWith (· * ·) p.weights l.sums).take n).sum :: before.ring).take 30
      let loud := blockLoudness 4 (ring.take 4).sum p.offset
      let bin : Option Nat := match loud with
        | none => none
        | some v => if v < -700 then none else some (min 750 (v + 700).toNat)
      ∃ t, exec (.feedUnit bytes) s = .next t ∧ (t.ctx d).blockCount = x.blockCount + 1 ∧
        (t.ctx d).belowGate = x.belowGate + (if bin = none then 1 else 0) ∧
        (∀ k, tableGet 0 (t.ctx d).bins k = tableGet 0 x.bins k + (if bin = some k then 1 else 0)) ∧
        (t.ctx d).maxMomentary = some (match x.maxMomentary with
          | none => clampLoudness loud
          | some m => max m (clampLoudness loud)) ∧
        (ring.length = 30 → (t.ctx d).maxShortTerm = some (match x.maxShortTerm with
          | none => clampLoudness (blockLoudness 30 ring.sum p.offset)
          | some m => max m (clampLoudness (blockLoudness 30 ring.sum p.offset)))) ∧
        (ring.length ≠ 30 → (t.ctx d).maxShortTerm = x.maxShortTerm) ∧
        (t.ctx d).running =
          (if (x.blockCount + 1) % 10 = 0 then integrate (t.ctx d).bins p.gateOffset else x.running) ∧
        (t.ctx d).flags.merged = (x.flags.merged || s.innermostUnmeasured i))

/-- A wait expiry or an audio timeout that is due makes the feed LOST, opens FEED_LOST, closes DEAD_AIR, and clears LE's
state of the service with the loss starting at this tick; a timeout is not due at the tick of the PRF that set it. An
expiry that is not due changes nothing (the model's choice, log entry 7). -/
def Obligations.FeedExpiryLosesFeed : Prop :=
  ∀ (s : State) (i : Nat), i < 16 → s.services.length = 16 →
    (∀ e, (e = exec (.waitExpiry i) s ∧ (s.svc i).feed.waitDue s.tb.stationTime = true) ∨
        (e = exec (.audioTimeoutExpiry i) s ∧
          (s.svc i).feed.timeoutDue s.tb.stationTime (s.svc i).profile.feedTimeout = true) →
      ∃ t, e = .next t ∧
        t.services = s.services.modify i (fun v =>
          { v with feed := { v.feed with state := .lost }
                   le := { Loudness.reset with lossStart := some s.tb.stationTime } }) ∧
        t.tb = s.tb ∧ t.pool.free = s.pool.free ∧ t.sp = s.sp ∧ t.am.extents = s.am.extents ∧
        t.writeQueue = s.writeQueue ∧ t.isOpen (some i) .deadAir none = false ∧
        ((s.svc i).profile.enabled = true → t.isOpen (some i) .feedLost none = true)) ∧
    ((s.svc i).feed.waitDue s.tb.stationTime = false → exec (.waitExpiry i) s = .next s) ∧
    ((s.svc i).feed.timeoutDue s.tb.stationTime (s.svc i).profile.feedTimeout = false →
      exec (.audioTimeoutExpiry i) s = .next s)

/-- A filter section's output is its exact sum divided by 2^28, rounded with halves upward, and saturated to 24 bits; in
pass-through it is the input. -/
def Obligations.FilterSectionArithmetic : Prop :=
  (∀ (c : Coefficients) (h : History) (x q : Int),
    let sum := c.b0 * x + c.b1 * h.x1 + c.b2 * h.x2 - c.a1 * h.y1 - c.a2 * h.y2
    2 ^ 28 * q ≤ sum + 2 ^ 27 → sum + 2 ^ 27 < 2 ^ 28 * (q + 1) →
      sectionOutput c h x = if 8388607 < q then 8388607 else if q < -8388608 then -8388608 else q) ∧
  (∀ (h : History) (x : Int), -8388608 ≤ x → x ≤ 8388607 → sectionOutput .passThrough h x = x)

/-! ### Segments, subtitles and verdicts -/

/-- A START marker takes the first of these cases. An id that stands in the stack, or a fifth entry: no entry is pushed
and the stack stands; the first writes MARKER_FAULT, and for the fifth the overflow count goes up, to 255, and
NEST_FAULT gives it. Otherwise the entry is pushed innermost with its resolved requirement: it takes the context on top
of the free list, whose record is set whole to the values at open, or NONE from an empty pool. SC is handed the
requirement, and CU the counts of ADVERT and PROMO entries. -/
def Obligations.StartMarkersOpenEntries : Prop :=
  ∀ (bytes : List Byte) (s : State) (i : Nat) (kind : SegmentKind) (id : Nat) (req : Option Requirement),
    s.takes bytes i (.markStart kind id req) = true → s.settled = true →
    let stack := (s.svc i).st.stack
    let resolved := req.getD ((s.svc i).profile.kindDefaults.getD
      ([SegmentKind.programme, .brk, .advert, .promo, .sponsor, .other].idxOf kind) .exempt)
    let pushed := fun c => (⟨id, kind, resolved, s.tb.stationTime, s.wallNow, c⟩ : StackEntry) :: stack
    let handed := fun (t : State) c =>
      (t.svc i).st = { (s.svc i).st with stack := pushed c } ∧ (t.svc i).sc.requirement = some resolved ∧
        (t.svc i).tally.advertCount = ((pushed c).filter fun e => decide (e.kind = .advert)).length ∧
        (t.svc i).tally.promoCount = ((pushed c).filter fun e => decide (e.kind = .promo)).length ∧
        (∀ j, j ≠ i → t.svc j = s.svc j) ∧ t.tb = s.tb ∧ t.sp = s.sp
    ((∃ e ∈ stack, e.id = id) →
      ∃ t, exec (.feedUnit bytes) s = .next t ∧ SameCore s t ∧ (s.cl.exhausted = false →
        t.cl.ring = ringJoin s.cl.ring (s.entryFor (some i) (.markerFaultStart kind id)))) ∧
    ((∀ e ∈ stack, e.id ≠ id) → 4 ≤ stack.length →
      let n := min 255 ((s.svc i).st.overflow + 1)
      ∃ t, exec (.feedUnit bytes) s = .next t ∧ SameCore (s.modSt i fun x => { x with overflow := n }) t ∧
        (s.cl.exhausted = false →
          t.cl.ring = ringJoin s.cl.ring (s.entryFor (some i) (.nestFault kind id n)))) ∧
    ((∀ e ∈ stack, e.id ≠ id) → stack.length < 4 →
      (s.pool.free = [] →
        ∃ t, exec (.feedUnit bytes) s = .next t ∧ t.pool = s.pool ∧ handed t none) ∧
      (∀ c rest, s.pool.free = c :: rest → c < s.pool.contexts.length →
        ∃ t, exec (.feedUnit bytes) s = .next t ∧ t.pool.free = rest ∧ handed t (some c) ∧
          (∀ d, d ≠ c → t.ctx d = s.ctx d) ∧
          t.ctx c =
            { state := .opened, service := i, kind := kind, id := id, requirement := resolved,
              depth := stack.length + 1, openTick := s.tb.stationTime, openWall := s.wallNow, closeTick := none,
              closeWall := none, blockCount := 0, belowGate := 0, bins := [], running := none, maxMomentary := none,
              maxShortTerm := none, peak := -999, peakOver := false, missing := 0, covered := [0, 0, 0, 0],
              longestGap := [0, 0, 0, 0], lapsed := [0, 0, 0, 0], reference := none,
              flags := ⟨false, false, false, false, false, false⟩, cause := none }))

/-- An END marker whose id stands in the stack closes every entry inside it, innermost first, with cause CASCADE and the
flag TRUNCATED, and then the entry itself with cause END; their contexts are CLOSED at this tick with their references
and join the verdict queue in that order. One whose id does not stand there takes one from the overflow count, or with
the count at 0 writes MARKER_FAULT, and the stack stands. -/
def Obligations.EndMarkersCloseEntries : Prop :=
  ∀ (bytes : List Byte) (s : State) (i id : Nat), s.takes bytes i (.markEnd id) = true →
    let stack := (s.svc i).st.stack
    (∀ k, stack.findIdx? (fun e => decide (e.id = id)) = some k → s.cu.engine.isSome = true →
      let closed := (stack.take (k + 1)).filterMap StackEntry.context
      closed.Nodup → (∀ c ∈ closed, c < s.pool.contexts.length) →
      ∃ t, exec (.feedUnit bytes) s = .next t ∧
        (t.svc i).st = { (s.svc i).st with stack := stack.drop (k + 1) } ∧ t.cu.queue = s.cu.queue ++ closed ∧
        t.pool.free = s.pool.free ∧
        (∀ j e c, j ≤ k → stack[j]? = some e → e.context = some c →
          (t.ctx c).state = .closed ∧ (t.ctx c).closeTick = some s.tb.stationTime ∧ (t.ctx c).closeWall = s.wallNow ∧
          (t.ctx c).cause = some (if j = k then .ended else .cascade) ∧
          (t.ctx c).flags = { (s.ctx c).flags with truncated := (s.ctx c).flags.truncated || decide (j < k) } ∧
          (t.ctx c).reference = (match (s.ctx c).kind with
            | .advert | .promo | .sponsor =>
              ((stack.drop (j + 1)).findSome? fun o => if o.kind = .programme then o.context else none).bind
                fun o => (s.ctx o).running
            | _ => none)) ∧
        (∀ d, d ∉ closed → t.ctx d = s.ctx d) ∧
        (t.svc i).sc.requirement = (stack.drop (k + 1)).head?.map StackEntry.requirement ∧
        (t.svc i).tally.advertCount = ((stack.drop (k + 1)).filter fun e => decide (e.kind = .advert)).length ∧
        (t.svc i).tally.promoCount = ((stack.drop (k + 1)).filter fun e => decide (e.kind = .promo)).length ∧
        (∀ j, j ≠ i → t.svc j = s.svc j) ∧ t.tb = s.tb ∧ t.sp = s.sp) ∧
    ((∀ e ∈ stack, e.id ≠ id) →
      (0 < (s.svc i).st.overflow →
        ∃ t, exec (.feedUnit bytes) s = .next t ∧
          SameCore (s.modSt i fun x => { x with overflow := x.overflow - 1 }) t) ∧
      ((s.svc i).st.overflow = 0 →
        ∃ t, exec (.feedUnit bytes) s = .next t ∧ SameCore s t ∧
          (s.settled = true → s.cl.exhausted = false →
            t.cl.ring = ringJoin s.cl.ring (s.entryFor (some i) (.markerFaultEnd id)))))

/-- A CARRY unit for an expected slot sets the last carry stamp. An ABSENT slot becomes ACQUIRING with a window from
this tick and a count of 1; in ACQUIRING the count goes up, and at 3 the slot is CARRIED and the count 0; CARRIED stays;
a LAPSED slot becomes CARRIED with no lapse start. SC's mark for SUB_LAPSED is then clear, and the condition closed. -/
def Obligations.CarryUnitsMoveCarriage : Prop :=
  ∀ (bytes : List Byte) (s : State) (i k : Nat), s.takes bytes i (.carry k) = true →
    ∃ t, exec (.feedUnit bytes) s = .next t ∧
      t.services = (s.modSlot i k fun x =>
        { (match x.carriage with
            | .absent => { x with carriage := .acquiring, windowStart := s.tb.stationTime, windowCount := 1 }
            | .acquiring =>
              if x.windowCount + 1 = 3 then { x with carriage := .carried, windowCount := 0 }
              else { x with windowCount := x.windowCount + 1 }
            | .carried => x
            | .lapsed => { x with carriage := .carried, lapseStart := none }) with
          lastCarry := some s.tb.stationTime, lapsedOpen := false }).services ∧
      ((s.slot i k).lapsedOpen = true → k < (s.svc i).sc.slots.length →
        t.isOpen (some i) .subLapsed (some k) = false) ∧
      ((s.slot i k).lapsedOpen = false → t.cu.conditions = s.cu.conditions) ∧
      t.tb = s.tb ∧ t.sp = s.sp ∧ t.pool.free = s.pool.free ∧ t.am.extents = s.am.extents ∧
      t.writeQueue = s.writeQueue

/-- A CUE unit whose slot and id stand in the queue replaces that cue, at the place of its own show time; with 16 cues
waiting it is refused and an overflow episode is open, with a CUE_OVERFLOW entry for the first; otherwise it is placed
behind every cue that shows at or before its own show time. A CLEAR unit ends the slot's showing cue if that has the id,
and takes the pending cue of that slot and id out; the episode is closed when fewer than 16 cues then wait. -/
def Obligations.CueAndClearUnitsAct : Prop :=
  ∀ (bytes : List Byte) (s : State) (i : Nat),
    (∀ slot id off dur chars, s.takes bytes i (.cue slot id off dur chars) = true →
      let shows := (s.tb.stationTime + off * 480) % 2 ^ 48
      let cue : Cue := ⟨slot, id, shows, dur * 480, decide (chars = 0)⟩
      let same := fun (d : Cue) => decide (d.slot = slot ∧ d.id = id)
      let before := fun (d : Cue) => reached shows d.showTick
      let place := fun (q : List Cue) => q.takeWhile before ++ cue :: q.dropWhile before
      let q := (s.svc i).sc.queue
      (q.any same = true →
        ∃ t, exec (.feedUnit bytes) s = .next t ∧
          SameCore (s.modSc i fun x => { x with queue := place (q.filter fun d => !same d) }) t) ∧
      (q.any same = false → q.length < 16 →
        ∃ t, exec (.feedUnit bytes) s = .next t ∧ SameCore (s.modSc i fun x => { x with queue := place q }) t) ∧
      (q.any same = false → 16 ≤ q.length →
        ∃ t, exec (.feedUnit bytes) s = .next t ∧ SameCore (s.modSc i fun x => { x with episode := true }) t ∧
          (s.settled = true → s.cl.exhausted = false → t.cl.ring =
            if (s.svc i).sc.episode = true then s.cl.ring
            else ringJoin s.cl.ring (s.entryFor (some i) (.cueOverflow slot id shows))))) ∧
    (∀ slot id, s.takes bytes i (.clear slot id) = true →
      let q := (s.svc i).sc.queue.filter fun d => !decide (d.slot = slot ∧ d.id = id)
      let ends := (s.slot i slot).showing.map Showing.id = some id
      ∃ t, exec (.feedUnit bytes) s = .next t ∧
        SameCore (s.modSc i fun x =>
          { x with
            queue := q
            episode := x.episode && decide (16 ≤ q.length)
            slots := if ends then x.slots.modify slot fun y =>
                { y with showing := none, uncoveredSince := s.tb.stationTime } else x.slots }) t)

/-- The head cue that has reached its show time leaves the queue. With characters, on a slot that shows nothing, it
shows until its show time plus its duration, every context of the stack takes in the gap that ends, and SC's mark for
SUB_GAP is clear; on a slot that shows a cue it takes that one's place, and the slot has not been uncovered. A blank one
ends what the slot shows. A showing cue that has reached its end ends, and the slot is uncovered since this tick. That a
due event may come later than its first tick is the model's choice (log entry 7). -/
def Obligations.CuesShowAndEnd : Prop :=
  ∀ (s : State) (i : Nat), i < 16 → s.services.length = 16 → (s.svc i).sc.slots.length = 4 →
    (∀ (c : Cue) (rest : List Cue), c.slot < 4 → (s.svc i).sc.queue = c :: rest →
      reached s.tb.stationTime c.showTick = true →
      let x := s.slot i c.slot
      let shown : Showing := ⟨c.id, (c.showTick + c.duration) % 2 ^ 48⟩
      ∃ t, exec (.cueShow i) s = .next t ∧ (t.svc i).sc.queue = rest ∧
        (∀ k, k ≠ c.slot → t.slot i k = s.slot i k) ∧ (∀ j, j ≠ i → t.svc j = s.svc j) ∧ t.tb = s.tb ∧ t.sp = s.sp ∧
        (c.blank = false → x.showing = none →
          t.slot i c.slot = { x with showing := some shown, gapOpen := false } ∧
          (x.gapOpen = true → t.isOpen (some i) .subGap (some c.slot) = false) ∧
          (∀ d, d ∈ s.stackContexts i → d < s.pool.contexts.length → c.slot < (s.ctx d).longestGap.length →
            (t.ctx d).longestGap.getD c.slot 0 = max ((s.ctx d).longestGap.getD c.slot 0)
              (min (elapsed s.tb.stationTime x.uncoveredSince) (elapsed s.tb.stationTime (s.ctx d).openTick)))) ∧
        (c.blank = false → x.showing.isSome = true → t.slot i c.slot = { x with showing := some shown }) ∧
        (c.blank = true → t.slot i c.slot =
          if x.showing.isSome then { x with showing := none, uncoveredSince := s.tb.stationTime } else x)) ∧
    (∀ (k : Nat) (sh : Showing), (s.slot i k).showing = some sh → reached s.tb.stationTime sh.endTick = true →
      exec (.cueEnd i k) s =
        .next (s.modSlot i k fun x => { x with showing := none, uncoveredSince := s.tb.stationTime }))

/-- When the acquisition window of an ACQUIRING slot has run 1 s, the slot returns to ABSENT. When the carriage timeout
of a CARRIED slot of an enabled service has run out, and not at the tick of the PRF that set it, the slot is LAPSED from
this tick and SUB_LAPSED is open. When every condition for it holds, SUB_GAP of a slot of an enabled service opens and
SC's mark for it is set. When the advert ticks of an enabled service exceed its limit and AD_TIME is closed, AD_TIME
opens at this tick, and no other condition changes. That a due event may come later than its first tick is the model's
choice (log entry 7). -/
def Obligations.DueTimersAndConditionsAct : Prop :=
  ∀ (s : State) (i k : Nat),
    ((s.slot i k).carriage = .acquiring → 48000 ≤ elapsed s.tb.stationTime (s.slot i k).windowStart →
      exec (.acquisitionWindowExpiry i k) s =
        .next (s.modSlot i k fun x => { x with carriage := .absent, windowCount := 0 })) ∧
    (∀ stamp, (s.slot i k).carriage = .carried → (s.slot i k).lastCarry = some stamp →
      (s.svc i).profile.carriageTimeout * 48000 ≤ elapsed s.tb.stationTime stamp →
      (s.svc i).sc.timeoutSet ≠ some s.tb.stationTime → (s.svc i).profile.enabled = true →
      ∃ t, exec (.carriageTimeoutExpiry i k) s = .next t ∧
        t.services = (s.modSlot i k fun x =>
          { x with carriage := .lapsed, lapseStart := some s.tb.stationTime, lapsedOpen := true }).services ∧
        t.isOpen (some i) .subLapsed (some k) = true ∧ t.tb = s.tb ∧ t.sp = s.sp ∧ t.pool.free = s.pool.free ∧
        t.am.extents = s.am.extents ∧ t.writeQueue = s.writeQueue) ∧
    ((s.svc i).profile.enabled = true → s.gapDue i k = true →
      ∃ t, exec (.subGapOpen i k) s = .next t ∧
        t.services = (s.modSlot i k fun x => { x with gapOpen := true }).services ∧
        t.isOpen (some i) .subGap (some k) = true ∧ t.tb = s.tb ∧ t.sp = s.sp ∧ t.am.extents = s.am.extents ∧
        t.writeQueue = s.writeQueue) ∧
    ((s.svc i).profile.enabled = true → (s.svc i).profile.advertLimit * 48000 < (s.svc i).tally.advertTicks →
      s.isOpen (some i) .adTime none = false →
      ∃ t, exec (.adTimeOpen i) s = .next t ∧
        SameCore { s with cu := { s.cu with conditions :=
          s.cu.conditions ++ [⟨.adTime, some i, none, none, s.tb.stationTime, s.nextSeq⟩] } } t)

/-- The completion of an evaluation releases the context to the top of the free list, and a FAIL sets the service's
unacknowledged-failure flag. Of a context that is SHORT or UNMEASURED no failed check is a loudness check. Every
integrated value lies in −700..50 or is NONE. That a due event may come later than its first tick is the model's choice
(log entry 7). -/
def Obligations.VerdictReleasesContext : Prop :=
  (∀ (s : State) (e : Evaluation), s.cu.engine = some e → 1 ≤ elapsed s.tb.stationTime e.startTick →
    e.context < s.pool.contexts.length → (∀ c ∈ s.cu.queue, c ≠ e.context) → s.services.length = 16 →
    (s.ctx e.context).service < 16 → s.settled = true →
    ∃ t, exec .verdictCompletion s = .next t ∧ t.pool.free = e.context :: s.pool.free ∧
      (t.ctx e.context).state = .free ∧
      ((t.svc (s.ctx e.context).service).unacknowledged =
        ((s.svc (s.ctx e.context).service).unacknowledged || !(failedChecks (s.ctx e.context) e).isEmpty)) ∧
      t.cu.queue = s.cu.queue.tail ∧ t.tb = s.tb ∧ t.sp = s.sp) ∧
  (∀ (x : Context) (e : Evaluation), (x.flags.short = true ∨ e.unmeasured = true) →
    ∀ f ∈ failedChecks x e, f.1 ≠ .loudHigh ∧ f.1 ≠ .loudLow ∧ f.1 ≠ .adLoud ∧ f.1 ≠ .adShort) ∧
  (∀ bins g v, integrate bins g = some v → -700 ≤ v ∧ v ≤ 50)

/-- A log entry that names a service matches a set slot when the slot's service is ALL or that service and the entry is
of its event: a COND_OPEN or COND_CLOSE of its class, a VERDICT that fails, a PEAK_OVER. REPORT and BOTH hand on a
report with the slot and the sequence; HOLD and BOTH ask for a hold of the entry's service from the entry's second less
the pre-window to that second plus the post-window, refused for an untimed entry. An entry that does not match does
neither. AD_TIME of a service, as it opens, does so for the slot that names it. At a timed boundary, ONLINE with no OFL
pending and no latch, the holds whose keep-until is at or below its second are removed; at any other boundary none is.
That matching ends the event which takes the entry is DEDUCED (log entry 10). -/
def Obligations.TriggersMatchAndHoldsExpire : Prop :=
  (∀ (s : State) (e : Entry) (k : Nat) (g : Trigger), k < 8 →
    s.triggers = (List.replicate 8 none).modify k (fun _ => some g) → s.cl.handed = [e] →
    let fitting := match g.event with
      | .condOpen c => ∃ slot cause, e.body = .condOpen c slot cause
      | .condClose c => ∃ slot cause dur q, e.body = .condClose c slot cause dur q
      | .verdictFail => ∃ v, e.body = .verdict v ∧ v.failed ≠ []
      | .peakOver => ∃ c kind id peak ceiling, e.body = .peakOver c kind id peak ceiling
    let matching := ∃ svc, e.service = some svc ∧ (g.service = none ∨ g.service = some svc) ∧ fitting
    let request := fun (svc second : Nat) => (⟨svc, second - g.pre, min (second + g.post) 4294967295, .trigger,
      some e.seq, (s.svc svc).profile.keepDays, false⟩ : HoldRequest)
    SameCore s (fanOut s) ∧ (fanOut s).cl.handed = [] ∧
    (¬ matching → (fanOut s).am = s.am ∧ (fanOut s).lc = s.lc) ∧
    (matching → g.action = .report → (fanOut s).am = s.am ∧ (s.lc.reports.length < 32 →
      (fanOut s).lc.reports = s.lc.reports ++ [words [ascii "^T", natText k, natText e.seq]])) ∧
    (matching → g.action = .both → s.lc.reports.length < 32 →
      words [ascii "^T", natText k, natText e.seq] ∈ (fanOut s).lc.reports) ∧
    (matching → g.action ≠ .report → ∀ svc w, e.service = some svc → e.wall = some w →
      s.holdTests (request svc w.second) = none →
      (fanOut s).am.holds = insertByKey Hold.id (s.holdFor (request svc w.second)) s.am.holds) ∧
    (matching → e.wall = none → (fanOut s).am = s.am)) ∧
  (∀ (s : State) (i k : Nat) (g : Trigger) (w : WallStamp), k < 8 →
    s.triggers = (List.replicate 8 none).modify k (fun _ => some g) → s.settled = true → s.cl.exhausted = false →
    (s.svc i).profile.enabled = true → (s.svc i).profile.advertLimit * 48000 < (s.svc i).tally.advertTicks →
    s.isOpen (some i) .adTime none = false → g.event = .condOpen .adTime → (g.service = none ∨ g.service = some i) →
    g.action ≠ .report → s.wallNow = some w →
    let request : HoldRequest := ⟨i, w.second - g.pre, min (w.second + g.post) 4294967295, .trigger,
      some (s.cl.lastSeq + 1), (s.svc i).profile.keepDays, false⟩
    s.holdTests request = none →
    ∃ t, exec (.adTimeOpen i) s = .next t ∧
      t.am.holds = insertByKey Hold.id (s.holdFor request) s.am.holds ∧ 257 ∈ t.am.dirty) ∧
  (∀ s : State, s.boundaryDue = true → s.noTriggers = true → (s.am.holds.map Hold.id).Nodup →
    ∃ t, exec .hourBoundary s = .next t ∧
      t.am.holds = match s.wallNow with
        | none => s.am.holds
        | some w =>
          if s.am.state = .online ∧ s.am.oflPending = false ∧ s.sp.faultLatched = false then
            s.am.holds.filter fun h => match h.keepUntil with
              | none => true
              | some n => decide (w.second < n)
          else s.am.holds)

/-! ### Recording, storage port and export line -/

/-- A PAYLOAD unit in RUN. With recording off or an RST pending its bytes are dropped without a gap; with the fault
latched, LOW_SUPPLY asserted or no archive they are dropped as an intake loss: the mark takes the cause unless it is
set, and a CLOSED gap record becomes INTAKE with RECORD_GAP open. Each drop first queues the filling buffer. Otherwise
the bytes join the filling buffer, or one begun now with the service's mark as its gap-before; a buffer filled to 65,472
bytes joins the write queue and the rest begins another; with no buffer free they are an intake loss. A gap record
INTAKE becomes CLOSED once bytes are taken and none is lost. -/
def Obligations.PayloadIsStagedOrLost : Prop :=
  ∀ (bytes body : List Byte) (s : State) (i : Nat), s.takes bytes i (.payload body) = true →
    let rc := (s.svc i).rc
    let recording := (s.svc i).profile.recording = true ∧ s.am.rstPending = false
    let stored := s.am.state = .online ∨ s.am.state = .offline ∨ s.am.state = .mounting
    let lost := fun (mark : Option GapCause) (g : GapCause) => mark.or (some g)
    (¬ recording →
      ∃ t, exec (.feedUnit bytes) s = .next t ∧ t.writeQueue = s.writeQueue ++ rc.filling.toList ∧
        (t.svc i).rc = { rc with filling := none } ∧ (∀ j, j ≠ i → t.svc j = s.svc j) ∧
        t.cu.conditions = s.cu.conditions ∧ t.sp = s.sp ∧ t.tb = s.tb) ∧
    (recording → s.sp.faultLatched = true ∨ s.part.lowSupply = true ∨ ¬ stored →
      let g := if s.sp.faultLatched = true then .fault else if s.part.lowSupply = true then .supply else .unavailable
      ∃ t, exec (.feedUnit bytes) s = .next t ∧ t.writeQueue = s.writeQueue ++ rc.filling.toList ∧
        (t.svc i).rc = { rc with
          filling := none
          intakeMark := lost rc.intakeMark g
          gapRecord := if rc.gapRecord = .closed then .intake else rc.gapRecord } ∧
        (rc.gapRecord = .closed → t.isOpen (some i) .recordGap none = true) ∧
        (∀ j, j ≠ i → t.svc j = s.svc j) ∧ t.sp = s.sp ∧ t.tb = s.tb) ∧
    (recording → s.sp.faultLatched = false → s.part.lowSupply = false → stored →
      let begun : Buffer :=
        ⟨i, s.cl.boot, s.tb.stationTime, s.wallNow, s.wallNow, rc.intakeMark, [], false, false⟩
      let b := rc.filling.getD begun
      let room := 65472 - b.payload.length
      let held := { b with payload := b.payload ++ body.take room, lastWall := s.wallNow }
      let mark := if rc.filling = none then none else rc.intakeMark
      let shortage := if s.am.state = .online then .staging else if s.am.state = .offline then .offline else .mount
      (rc.filling = none → s.freeBuffers = 0 →
        ∃ t, exec (.feedUnit bytes) s = .next t ∧ t.writeQueue = s.writeQueue ∧ (t.svc i).rc.filling = none ∧
          (t.svc i).rc.intakeMark = lost rc.intakeMark shortage ∧ (t.svc i).rc.gapRecord ≠ .closed) ∧
      (rc.filling ≠ none ∨ 0 < s.freeBuffers → b.payload.length < 65472 →
        ∃ t, exec (.feedUnit bytes) s = .next t ∧ (∀ j, j ≠ i → t.svc j = s.svc j) ∧ t.sp = s.sp ∧ t.tb = s.tb ∧
          (body.length < room → t.writeQueue = s.writeQueue ∧ (t.svc i).rc.filling = some held ∧
            (t.svc i).rc.intakeMark = mark) ∧
          (room ≤ body.length → t.writeQueue = s.writeQueue ++ [held]) ∧
          (body.length = room → (t.svc i).rc.filling = none ∧ (t.svc i).rc.intakeMark = mark) ∧
          (room < body.length → (if rc.filling = none then 1 else 0) < s.freeBuffers →
            (t.svc i).rc.filling = some { begun with gap := mark, payload := body.drop room } ∧
            (t.svc i).rc.intakeMark = none) ∧
          (room < body.length → s.freeBuffers ≤ (if rc.filling = none then 1 else 0) →
            (t.svc i).rc.filling = none ∧ (t.svc i).rc.intakeMark = lost mark shortage ∧
            (t.svc i).rc.gapRecord ≠ .closed) ∧
          (rc.gapRecord = .intake → body.length ≤ room ∨ 1 < s.freeBuffers →
            (t.svc i).rc.gapRecord = .closed ∧ t.isOpen (some i) .recordGap none = false)))

/-- The free port grants, in this order: the lowest dirty directory page, its dirty mark cleared and its image as it
stands; the log page buffer while its request stands; the head of the write queue, to the page of its service's FILLING
extent that follows those written; the next read of a WAITING export. -/
def Obligations.SpGrantsByPriority : Prop :=
  ∀ s : State, s.mayGrant = true → s.cl.handed = [] →
    (∀ (p : Nat) (rest : List Nat), s.am.dirty = p :: rest →
      ∃ t, exec .spGrant s = .next t ∧ p ∉ t.am.dirty ∧
        SameCore { s with sp := { s.sp with operation := some (.directory p (s.directoryImage p)),
                                            grantTick := s.tb.stationTime } } t) ∧
    (s.am.dirty = [] → s.logRequest = true →
      ∃ t, exec .spGrant s = .next t ∧ t.cl.buffer.state = .empty ∧ t.cl.buffer.entries = [] ∧
        t.cl.buffer.overflowed = s.cl.buffer.dropped ∧ t.cl.buffer.dropped = false ∧
        t.sp = { s.sp with operation := some (.log s.cl.nextPage s.cl.boot s.cl.buffer.entries s.cl.buffer.overflowed),
                           grantTick := s.tb.stationTime }) ∧
    (s.am.dirty = [] → s.logRequest = false →
      (∀ (b : Buffer) (rest : List Buffer) (e : Nat), s.writeQueue = b :: rest → s.fillingExtent b.service = some e →
        ∃ t, exec .spGrant s = .next t ∧ t.writeQueue = rest ∧
          t.sp = { s.sp with operation := some (.recorded e (s.extent e).pages
                               { b with gap := b.gap.or (s.svc b.service).rc.issueMark }),
                             grantTick := s.tb.stationTime } ∧
          t.tb = s.tb ∧ t.am.free = s.am.free ∧ t.am.order = s.am.order) ∧
      (s.writeQueue = [] → ∀ x : Export, s.ee.current = some x → x.state = .waiting →
        ∃ t, exec .spGrant s = .next t ∧ t.ee.current = some { x with state := .reading } ∧
          t.sp = { s.sp with operation := some (.exportRead x.cursorAddress.1 x.cursorAddress.2),
                             grantTick := s.tb.stationTime } ∧ t.services = s.services))

/-- The grant of a page whose service has no FILLING extent takes the extent at the head of the free list, which becomes
FILLING for the service and receives the page as its page 0; with no extent free and none to reclaim the page is
discarded as an issue loss with cause ARCHIVE_FULL. An extent that is FILLING, or COMPLETE or DAMAGED with a hold count
above 0, keeps its state and does not join the free list; an extent that joins it was COMPLETE, unheld, and past
retention or of a service whose retention is not strict. -/
def Obligations.PlacementReclaimsOnlyUnheldExtents : Prop :=
  ∀ (s : State) (b : Buffer) (rest : List Buffer), s.mayGrant = true → s.cl.handed = [] → s.am.dirty = [] →
    s.logRequest = false → s.writeQueue = b :: rest → s.tableOk →
    (∀ x ∈ s.am.order, (s.extent x).state = .complete ∨ (s.extent x).state = .damaged) →
    (∃ t, exec .spGrant s = .next t ∧
      (∀ x, x ∉ s.am.free → (s.extent x).state = .filling ∨ 0 < s.holdCount x →
        (t.extent x).state = (s.extent x).state ∧ x ∉ t.am.free) ∧
      (∀ x, x ∉ s.am.free → x ∈ t.am.free → x ∈ s.am.order ∧ (s.extent x).state = .complete ∧ s.holdCount x = 0 ∧
        (s.passedRetention (s.extent x) = true ∨ (s.svc (s.extent x).service).profile.strict = false))) ∧
    (s.fillingExtent b.service = none →
      (∀ e free, s.am.free = e :: free → e ∉ free → e ∉ s.am.order →
        ∃ t, exec .spGrant s = .next t ∧ t.writeQueue = rest ∧
          t.sp = { s.sp with operation := some (.recorded e 0
                               { b with gap := b.gap.or (s.svc b.service).rc.issueMark }),
                             grantTick := s.tb.stationTime } ∧
          t.extent e = ⟨.filling, b.service, 0, none, 0, (b.gap.or (s.svc b.service).rc.issueMark).isSome⟩ ∧
          extentPage e ∈ t.am.dirty) ∧
      (s.am.free = [] → s.am.order = [] → rest = [] → s.ee.current = none → b.service < s.services.length →
        ∃ t, exec .spGrant s = .next t ∧ t.writeQueue = [] ∧ t.am.extents = s.am.extents ∧
          ((s.svc b.service).rc.gapRecord ≠ .closed → t.sp = s.sp) ∧
          (t.svc b.service).rc.issueMark = (s.svc b.service).rc.issueMark.or (some .archiveFull)))

/-- A successful recorded page write raises the extent's page count; at the 16th page or a close mark the extent becomes
COMPLETE, takes the next completion sequence and joins the tail of the completion order. A first failure damages the
extent, keeps its page count, and puts the page with its retry mark at the head of the write queue. What the next
completion sequence becomes after 4,294,967,295 is free in its range 1..4,294,967,295 (DESIGN CHOICE, log entry 8). -/
def Obligations.RecordedWritesEnd : Prop :=
  ∀ (s : State) (e p : Nat) (b : Buffer), s.sp.operation = some (.recorded e p b) → s.tableOk →
    (∃ t, exec .recordedWriteSuccess s = .next t ∧ t.sp = { s.sp with operation := none, failures := 0 } ∧
      (t.extent e).pages = (s.extent e).pages + 1 ∧
      (if (s.extent e).pages + 1 = 16 ∨ b.closeMark = true then
        (t.extent e).state = .complete ∧ (t.extent e).completion = s.am.nextCompletion ∧
          t.am.order = s.am.order ++ [e] ∧ 1 ≤ t.am.nextCompletion ∧ t.am.nextCompletion ≤ 4294967295 ∧
          (s.am.nextCompletion < 4294967295 → t.am.nextCompletion = s.am.nextCompletion + 1)
       else (t.extent e).state = (s.extent e).state ∧ t.am.order = s.am.order ∧
         t.am.nextCompletion = s.am.nextCompletion) ∧
      (∀ x, x ≠ e → t.extent x = s.extent x) ∧ t.am.free = s.am.free ∧ t.writeQueue = s.writeQueue ∧ t.tb = s.tb) ∧
    (s.sp.failures = 0 → b.retryMark = false →
      ∃ t, exec .recordedWriteFailure s = .next t ∧ t.sp = { s.sp with operation := none, failures := 1 } ∧
        (t.extent e).state = .damaged ∧ (t.extent e).pages = (s.extent e).pages ∧
        (t.extent e).completion = s.am.nextCompletion ∧ t.am.order = s.am.order ++ [e] ∧
        t.writeQueue = { b with retryMark := true } :: s.writeQueue ∧ (∀ x, x ≠ e → t.extent x = s.extent x) ∧
        t.services = s.services ∧ t.tb = s.tb)

/-- A successful log page write advances the next log page, from 4095 to 0, marks the directory header dirty and sets
the failure count to 0. A directory page write that succeeds sets the failure count to 0; a first failure marks the page
dirty again and counts 1. A FILLING log page buffer becomes DUE 480,000 ticks after its first entry. That a due event
may come later than its first tick is the model's choice (log entry 7). -/
def Obligations.LogAndDirectoryWritesEnd : Prop :=
  ∀ s : State,
    (∀ (k b : Nat) (es : List Entry) (o : Bool), s.sp.operation = some (.log k b es o) →
      ∃ t, exec (.logPageWriteDone true) s = .next t ∧ t.cl.nextPage = (s.cl.nextPage + 1) % 4096 ∧
        t.sp = { s.sp with operation := none, failures := 0 } ∧ 0 ∈ t.am.dirty ∧ t.services = s.services ∧
        t.am.extents = s.am.extents ∧ t.tb = s.tb) ∧
    (∀ (p : Nat) (image : DirectoryImage), s.sp.operation = some (.directory p image) →
      (∃ t, exec (.directoryWriteDone true) s = .next t ∧ t.sp = { s.sp with operation := none, failures := 0 } ∧
        t.services = s.services ∧ t.am.extents = s.am.extents ∧ t.tb = s.tb ∧ t.cl.nextPage = s.cl.nextPage) ∧
      (s.sp.failures = 0 →
        ∃ t, exec (.directoryWriteDone false) s = .next t ∧ t.sp = { s.sp with operation := none, failures := 1 } ∧
          p ∈ t.am.dirty ∧ t.services = s.services ∧ t.am.extents = s.am.extents ∧ t.tb = s.tb ∧
          t.cl.nextPage = s.cl.nextPage)) ∧
    (s.cl.buffer.state = .filling → 480000 ≤ elapsed s.tb.stationTime s.cl.buffer.firstTick →
      exec .logBufferDue s = .next { s with cl := { s.cl with buffer := { s.cl.buffer with state := .due } } })

/-- The second consecutive failed write, here of a directory page, latches STORAGE_FAULT: the write queue and the
filling buffers are emptied, the port starts no further operation, and ALARM is asserted. An operation that has not
completed 250 ms after its grant ends as a failure of its own kind. That a due event may come later than its first tick
is the model's choice (log entry 7). -/
def Obligations.FailuresLatchAndTimeOut : Prop :=
  (∀ (s : State) (p : Nat) (image : DirectoryImage), s.sp.operation = some (.directory p image) →
    s.sp.failures = 1 → s.sp.faultLatched = false →
    ∃ t, exec (.directoryWriteDone false) s = .next t ∧
      t.sp = { s.sp with operation := none, failures := 2, faultLatched := true } ∧ t.writeQueue = [] ∧
      (∀ i, i < 16 → (t.svc i).rc.filling = none) ∧ t.alarm = true ∧ exec .spGrant t = .next t) ∧
  (∀ (s : State) (op : Operation), s.sp.operation = some op → 12000 ≤ elapsed s.tb.stationTime s.sp.grantTick →
    ∃ t, exec .storageOperationTimeout s = .next t ∧ t.sp.operation = none ∧
      .next t = (match op with
        | .directory _ _ => exec (.directoryWriteDone false) s
        | .log _ _ _ _ => exec (.logPageWriteDone false) s
        | .recorded _ _ _ => exec .recordedWriteFailure s
        | .exportRead _ _ => exec (.exportReadDone none) s
        | .mountRead _ | .mountWrite _ => exec (.mountEnd [.failed]) s
        | .formatWrite _ _ => exec (.formatEnd [false]) s))

/-- At the end of an export read with the stop mark clear, EE begins a frame: with the page as read, or UNREADABLE with
the unreadable count one higher; the line clock runs, and the line carries the frame's bits. The end of the frame that
carries LAST ends the export COMPLETE. The end of another frame, with no stop and no abort, moves the cursor to the next
page and EE to WAITING. Frames sent rises by one, and the clock stops. That the line carries the frame as a whole
between two commands is the model's choice (log entry 25). -/
def Obligations.ExportFramesBeginAndEnd : Prop :=
  (∀ (s : State) (e p : Nat) (x : Export) (page : Option (List Byte)), s.sp.operation = some (.exportRead e p) →
    s.ee.current = some x → x.stop = false → s.am.oflPending = false →
    ∃ t, exec (.exportReadDone page) s = .next t ∧
      t.sp = { s.sp with operation := none } ∧
      t.ee.current = some { x with
        state := .sending, unreadable := x.unreadable + (if page.isNone then 1 else 0),
        frame := some (s.exportFrame x page) } ∧
      (s.exportFrame x page).unreadable = page.isNone ∧ (s.exportFrame x page).payload = page.getD [] ∧
      t.exportClock = true ∧ t.exportLine = lineBits (s.exportFrame x page).bytes ∧
      t.services = s.services ∧ t.am.extents = s.am.extents) ∧
  (∀ (s : State) (x : Export) (f : Frame), s.ee.current = some x → x.state = .sending → x.frame = some f →
    s.am.oflPending = false →
    (f.last = true → ∃ t, exec .exportFrameEnd s = .next t ∧ t.ee.current = none ∧
      t.ee.last = some (x.id, .complete) ∧ t.exportClock = false ∧ t.sp = s.sp ∧ t.services = s.services) ∧
    (f.last = false → x.stop = false → x.abort = none →
      ∀ pos page, nextPage x.items x.position x.page = some (pos, page) →
      ∃ t, exec .exportFrameEnd s = .next t ∧ t.ee.current = some { x with
        frames := x.frames + 1, frame := none, position := pos, page := page, state := .waiting } ∧
        t.exportClock = false ∧ t.exportLine = [] ∧ t.sp = s.sp ∧ t.services = s.services))

/-- The CRC-32 over the nine ASCII bytes 123456789 is FC891918, and the header of the example of R193 passes its check
and announces 963 bytes of AUDIO for service 3. On the export line bit 8k + j of a run of bytes is bit 7 − j of byte k,
and a frame cut off by a reset is a front part of the frame that ends before its CRC. That a cut frame may end after any
number of bits before its CRC is the model's choice (log entry 25). -/
def Obligations.FormatsOfTheLines : Prop :=
  crc32 (asciiBytes (ascii "123456789")) = 0xFC891918#32 ∧
  feedHeader [0x00, 0x03, 0x01, 0x00, 0x00, 0x03, 0xC3, 0x36] = ⟨3, 1, 963, true⟩ ∧
  (∀ (bytes : List Byte) (k j : Nat), k < bytes.length → j < 8 →
    (lineBits bytes)[8 * k + j]? = some ((bytes.getD k 0).getLsbD (7 - j))) ∧
  (∀ (f : Frame) (n : Nat), f.cut n <+: f.bits ∧ (f.cut n).length + 32 ≤ f.bits.length)

/-! ### Supply, resets, mount and format -/

/-- LOW_SUPPLY asserted in RUN with the flush IDLE: the flush runs while the archive is ONLINE without a latched fault,
and ends at once in FLUSHED otherwise; no buffer is filling. Deasserted with the flush FLUSHED: the clean flag is
cleared on chip, page 0 is dirty if the archive is ONLINE, and the flush is IDLE, whether or not an RST is pending.
Deasserted while a supply flush runs: the clean flag is cleared, page 0 being dirty if it was set, and the flush is
IDLE, or, with an RST pending, goes on as the RST's own (log entry 16). A flush that an RST runs goes on. -/
def Obligations.SupplyStartsAndEndsFlush : Prop :=
  ∀ s : State, s.part.state = .run →
    (s.part.lowSupply = false → s.am.flush = .idle → s.am.oflPending = false → s.services.length = 16 →
      ∃ t, exec .lowSupplyAssert s = .next t ∧ t.part = { s.part with lowSupply := true } ∧
        t.am.flush = (if s.am.state = .online ∧ s.sp.faultLatched = false then .flushing else .flushed) ∧
        (∀ i, i < 16 → (t.svc i).rc.filling = none) ∧ t.tb = s.tb ∧ t.sp = s.sp ∧ t.am.extents = s.am.extents) ∧
    (s.part.lowSupply = true → s.am.flush = .flushed →
      ∃ t, exec .lowSupplyDeassert s = .next t ∧ t.part = { s.part with lowSupply := false } ∧ t.am.flush = .idle ∧
        t.am.cleanFlag = false ∧ (s.am.state = .online → 0 ∈ t.am.dirty) ∧ t.services = s.services ∧ t.tb = s.tb ∧
        t.sp = s.sp ∧ t.am.extents = s.am.extents) ∧
    (s.part.lowSupply = true → s.am.flush = .flushing → s.am.flushForSupply = true →
      ∃ t, exec .lowSupplyDeassert s = .next t ∧ t.part = { s.part with lowSupply := false } ∧
        (s.am.cleanFlag = true → 0 ∈ t.am.dirty) ∧
        (s.am.rstPending = false → t.am.flush = .idle ∧ t.am.cleanFlag = false) ∧
        (s.am.rstPending = true → t.am.flush ≠ .idle ∧ t.am.flushForSupply = false ∧
          t.am.flushStart = s.tb.stationTime) ∧
        t.services = s.services ∧ t.tb = s.tb ∧ t.sp = s.sp ∧ t.am.extents = s.am.extents) ∧
    (s.part.lowSupply = true → s.am.flush = .flushing → s.am.flushForSupply = false →
      ∃ t, exec .lowSupplyDeassert s = .next t ∧ SameCore { s with part := { s.part with lowSupply := false } } t ∧
        t.am.flush ≠ .idle)

/-- Power-on and the reset pin act at once, RST once its flush has reached FLUSHED and its reply has ended; each leaves
the part in START with every block at its reset values; only the supply pin's level and the waiting commands stand, and
a feed unit that is arriving is lost whole. The export line's clock then stands still. -/
def Obligations.ResetsRestartThePart : Prop :=
  ∀ s : State,
    exec .powerOnReset s = .next (s.restarted .power) ∧
    exec .pinReset s = .next (s.restarted .pin) ∧
    (s.am.rstPending = true → s.am.rstFlushed = true → s.am.rstReplyEnded = true →
      exec .rstResetApplied s = .next (s.restarted .command)) ∧
    (∀ cause, (s.restarted cause).exportClock = false)

/-- After a reset station time is 0, wall time is UNSET, TB is LOCKED, every service's feed is OFF with no errors, no
condition is open, the log is empty with its cursor at 1/1, and ALARM is deasserted. -/
def Obligations.ResetValuesHold : Prop :=
  State.reset.tb.stationTime = 0 ∧ State.reset.tb.anchor = none ∧ State.reset.tb.refState = .locked ∧
  State.reset.tb.hour = ⟨0, false⟩ ∧
  (∀ v ∈ State.reset.services, v.feed.state = .off ∧ v.feed.errors = 0 ∧ v.feed.lastAudio = none) ∧
  State.reset.cu.conditions = [] ∧ State.reset.cl.ring = [] ∧ State.reset.cl.lastSeq = 0 ∧
  State.reset.cl.cursorSeq = 1 ∧ State.reset.cl.cursorPart = 1 ∧ State.reset.alarm = false ∧
  State.reset.pool.free = List.range 64 ∧ State.reset.ee.nextId = 1 ∧
  State.reset.sp.operation = none ∧ State.reset.sp.failures = 0 ∧ State.reset.sp.faultLatched = false

/-- When the probe in START ends with a capacity of 1024..1,048,576 extents, the part enters MOUNT and the port begins
the mount's read of page 0. Otherwise the mount ends UNAVAILABLE at once: the part is in RUN, and RESET shows a mount of
0 ticks. That PROBE_END carries the capacity, and that the read of page 0 begins at the very tick of the probe's end, is
the model's choice (DESIGN CHOICE, log entry 17). -/
def Obligations.ProbeEndEntersMount : Prop :=
  ∀ s : State, s.part.state = .start → s.am.mount = .probing → s.still = true →
    (∀ n, 1024 ≤ n → n ≤ 1048576 → exec (.probeEnd (some n)) s = .next { s with
      part := { s.part with state := .mount },
      am := { s.am with mount := .reading [], capacity := some n, mountStart := s.tb.stationTime },
      sp := { s.sp with operation := some (.mountRead 0), grantTick := s.tb.stationTime } }) ∧
    (∀ cap, (∀ n, cap = some n → n < 1024 ∨ 1048576 < n) →
      ∃ t, exec (.probeEnd cap) s = .next t ∧ t.part = { s.part with state := .run } ∧ t.am.state = .unavailable ∧
        t.am.mount = .idle ∧ t.cl.boot = 0 ∧ (∀ i, i < 16 → (t.svc i).profile = .default) ∧ t.tb = s.tb ∧
        (s.part.lowSupply = false → s.tb.refState = .locked → s.cl.exhausted = false →
          t.cl.ring = ringJoin s.cl.ring ⟨0, s.cl.lastSeq + 1, s.tb.stationTime, s.wallNow, none,
            .reset s.part.cause .unknown .unavailable 0⟩))

/-- A mount's operations come one at a time: page 0 is read first, and step 8 is reached with every page of the extent
table, page 257 and page 258 read and the tables built from them. At a reset, the end of a read starts the next
operation: another read, the write of page 0 with the boot counter one higher (65535 followed by 1) and the clean flag
clear, the profiles and triggers being loaded before it unless they have been, or the end of the mount UNFORMATTED. A
failed read or write ends the mount UNAVAILABLE without a change of the failure count: the part enters RUN with default
profiles, clear triggers, no holds and boot number 0, and RESET is the entry. The success of the write ends it ONLINE:
the extent table, next completion sequence, low-water mark and next log page are those of the directory as rebuilt, and
the boot counter is the boot number. A mount started by ONL in RUN takes the same operations; it leaves the profiles,
the triggers and the boot number, and the boot counter as the header has it, and it ends with MOUNT_DONE, the outcome
and the ticks since mountStart in it, and with STORAGE_ONLINE after it when it ends ONLINE. That MOUNT_END carries the
ends of the operations is the model's choice (log entry 17). -/
def Obligations.MountEndEntersRun : Prop :=
  (∀ n, mountNext n [] = .read 0) ∧
  (∀ (n : Nat) (pages : DevicePages) (m : MountTables), mountNext n pages = .write m → mountTables n pages = some m ∧
    ∀ a, a ≤ 1 + (n - 1) / 4096 ∨ a = 257 ∨ a = 258 → ∃ p ∈ pages, p.1 = a) ∧
  (∀ (s : State) (n : Nat), s.part.state = .mount → s.part.lowSupply = false → s.am.capacity = some n →
    s.am.oflPending = false → s.am.flush = .idle →
    (∀ (pages : DevicePages) (a : Nat) (page : List Byte), s.am.mount = .reading pages →
      s.sp.operation = some (.mountRead a) → s.still = true →
      let read := pages ++ [(a, page)]
      let next := fun (op : Operation) => ({ s with
        am := { s.am with mount := .reading read },
        sp := { s.sp with operation := some op, grantTick := s.tb.stationTime } } : State)
      (∀ b, mountNext n read = .read b → exec (.mountEnd [.read page]) s = .next (next (.mountRead b))) ∧
      (∀ m, mountNext n read = .write m → ∃ t, exec (.mountEnd [.read page]) s = .next t ∧
        let boot := if m.header.bootCounter = 65535 then 1 else m.header.bootCounter + 1
        t.sp = (next (.mountWrite (.header boot false n m.header.lowWater m.header.nextPage))).sp ∧
        t.am = { (next (.mountRead a)).am with profilesLoaded := true, bootCounter := boot, cleanFlag := false } ∧
        t.triggers = (if s.am.profilesLoaded then s.triggers else m.triggers) ∧
        (∀ i p, i < s.services.length → m.profiles[i]? = some p →
          (t.svc i).profile = if s.am.profilesLoaded then (s.svc i).profile else p) ∧ t.part = s.part ∧ t.tb = s.tb) ∧
      (mountNext n read = .unformatted → ∃ t, exec (.mountEnd [.read page]) s = .next t ∧
        t.part = { s.part with state := .run } ∧ t.am.state = .unformatted ∧ t.am.mount = .idle ∧
        t.sp = { s.sp with operation := none } ∧ t.cl.boot = 0 ∧ (∀ i, i < 16 → (t.svc i).profile = .default))) ∧
    (∀ op, s.sp.operation = some op → ((∃ a, op = .mountRead a) ∨ ∃ image, op = .mountWrite image) →
      s.tb.refState = .locked → s.cl.exhausted = false → s.cl.handed = [] →
      ∃ t, exec (.mountEnd [.failed]) s = .next t ∧ t.part = { s.part with state := .run } ∧
        t.am.state = .unavailable ∧ t.am.mount = .idle ∧ t.am.holds = [] ∧ t.am.nextHold = 1 ∧ t.cl.boot = 0 ∧
        (∀ i, i < 16 → (t.svc i).profile = .default) ∧ t.triggers = List.replicate 8 none ∧
        t.cl.ring = ringJoin s.cl.ring ⟨0, s.cl.lastSeq + 1, s.tb.stationTime, s.wallNow, none,
          .reset s.part.cause .unknown .unavailable (elapsed s.tb.stationTime s.am.mountStart)⟩ ∧
        t.tb = s.tb ∧ t.sp = { s.sp with operation := none }) ∧
    (∀ (pages : DevicePages) (m : MountTables) (image : DirectoryImage), s.am.mount = .reading pages →
      s.sp.operation = some (.mountWrite image) → mountTables n pages = some m →
      ∃ t, exec (.mountEnd [.written]) s = .next t ∧ t.part.state = .run ∧ t.am.state = .online ∧ t.am.mount = .idle ∧
        t.am.extents = m.extents ∧ t.am.nextCompletion = m.nextCompletion ∧ t.am.lowWater = m.header.lowWater ∧
        t.am.bootCounter = (if m.header.bootCounter = 65535 then 1 else m.header.bootCounter + 1) ∧
        t.cl.boot = t.am.bootCounter ∧ t.cl.nextPage = m.header.nextPage ∧ t.am.cleanFlag = false ∧ t.tb = s.tb ∧
        t.sp = { s.sp with operation := none, failures := 0 })) ∧
  (∀ (s : State) (n : Nat) (pages : DevicePages), s.part.state = .run → s.am.capacity = some n →
    s.am.mount = .reading pages → s.am.oflPending = false → s.am.flush = .idle → s.cl.handed = [] →
    s.cl.exhausted = false → s.cl.lastSeq + 2 ≤ 4294967295 →
    let keeps := fun (t : State) => t.services = s.services ∧ t.triggers = s.triggers ∧ t.cl.boot = s.cl.boot ∧
      t.part = s.part ∧ t.tb = s.tb
    let done := fun (o : MountOutcome) => (⟨s.cl.boot, s.cl.lastSeq + 1, s.tb.stationTime, s.wallNow, none,
      .mountDone o (elapsed s.tb.stationTime s.am.mountStart)⟩ : Entry)
    (∀ (a : Nat) (page : List Byte), s.sp.operation = some (.mountRead a) →
      let read := pages ++ [(a, page)]
      (∀ b, mountNext n read = .read b → ∃ t, exec (.mountEnd [.read page]) s = .next t ∧ keeps t ∧
        t.cl.ring = s.cl.ring ∧ t.am = { s.am with mount := .reading read } ∧
        t.sp = { s.sp with operation := some (.mountRead b), grantTick := s.tb.stationTime }) ∧
      (∀ m, mountNext n read = .write m → ∃ t, exec (.mountEnd [.read page]) s = .next t ∧ keeps t ∧
        t.cl.ring = s.cl.ring ∧
        t.am = { s.am with mount := .reading read, bootCounter := m.header.bootCounter, cleanFlag := false } ∧
        t.sp = { s.sp with
          operation := some (.mountWrite (.header m.header.bootCounter false n m.header.lowWater m.header.nextPage))
          grantTick := s.tb.stationTime }) ∧
      (mountNext n read = .unformatted → ∃ t, exec (.mountEnd [.read page]) s = .next t ∧ keeps t ∧
        t.am.state = .unformatted ∧ t.am.mount = .idle ∧ t.am.hasTable = false ∧ t.am.holds = [] ∧ t.am.nextHold = 1 ∧
        t.cl.ring = ringJoin s.cl.ring (done .unformatted) ∧ t.sp = { s.sp with operation := none })) ∧
    (∀ op, s.sp.operation = some op → ((∃ a, op = .mountRead a) ∨ ∃ image, op = .mountWrite image) →
      ∃ t, exec (.mountEnd [.failed]) s = .next t ∧ keeps t ∧ t.am.state = .unavailable ∧ t.am.mount = .idle ∧
        t.am.hasTable = false ∧ t.am.holds = [] ∧ t.am.nextHold = 1 ∧
        t.cl.ring = ringJoin s.cl.ring (done .unavailable) ∧ t.sp = { s.sp with operation := none }) ∧
    (∀ (m : MountTables) (image : DirectoryImage), s.sp.operation = some (.mountWrite image) →
      mountTables n pages = some m →
      ∃ t, exec (.mountEnd [.written]) s = .next t ∧ keeps t ∧ t.am.state = .online ∧ t.am.mount = .idle ∧
        t.am.extents = m.extents ∧ t.am.nextCompletion = m.nextCompletion ∧ t.am.lowWater = m.header.lowWater ∧
        t.am.bootCounter = m.header.bootCounter ∧ t.am.holds = m.holds ∧ t.am.nextHold = m.nextHold ∧
        t.cl.nextPage = m.header.nextPage ∧ t.am.cleanFlag = false ∧
        t.cl.ring = ringJoin (ringJoin s.cl.ring (done .online))
          ⟨s.cl.boot, s.cl.lastSeq + 2, s.tb.stationTime, s.wallNow, none, .storageOnline⟩ ∧
        t.sp = { s.sp with operation := none, failures := 0 }))

/-- A format writes its pages one at a time, each with its contents, and each success sets the failure count to 0: after
page 0 the extent table with every extent FREE, then page 257 with no hold and next hold id 1, then page 258 with the
profiles and triggers as they stand. The success of page 258 leaves every recording extent FREE, no hold, next hold id
1, next log page 0, and the archive ONLINE. A failed write ends the format UNFORMATTED and counts toward the latch. That
FORMAT_END carries the ends of the writes is the model's choice (log entry 17). -/
def Obligations.FormatBuildsEmptyArchive : Prop :=
  ∀ (s : State) (n page : Nat) (image : DirectoryImage), s.sp.operation = some (.formatWrite page image) →
    s.am.capacity = some n → 1024 ≤ n → n ≤ 1048576 → s.am.oflPending = false → s.am.flush = .idle → s.cl.handed = [] →
    (∀ q, formatPageAfter n page = some q → s.still = true →
      let written := if q ≤ 256 then DirectoryImage.extents [] else if q = 257 then .holds 1 []
        else .settings (s.services.map Service.profile) s.triggers
      exec (.formatEnd [true]) s = .next { s with
        sp := { s.sp with operation := some (.formatWrite q written), grantTick := s.tb.stationTime, failures := 0 } }) ∧
    (page = 258 → ∃ t, exec (.formatEnd [true]) s = .next t ∧ t.am.state = .online ∧ t.am.mount = .idle ∧
      t.am.extents = [] ∧ t.am.free = (List.range n).drop 288 ∧ t.am.order = [] ∧ t.am.holds = [] ∧ t.am.nextHold = 1 ∧
      t.am.nextCompletion = 1 ∧ t.cl.nextPage = 0 ∧ t.services = s.services ∧ t.tb = s.tb ∧
      t.sp = { s.sp with operation := none, failures := 0 }) ∧
    (∃ t, exec (.formatEnd [false]) s = .next t ∧ t.am.state = .unformatted ∧ t.am.mount = .idle ∧ t.am.hasTable = false ∧
      t.sp = { s.sp with operation := none, failures := s.sp.failures + 1,
                         faultLatched := s.sp.faultLatched || decide (1 ≤ s.sp.failures) } ∧ t.tb = s.tb)

/-! ### Control line: reception and transmission -/

/-- A character that is no terminator joins the record being received, while the buffer has room and the text stays
within 160 characters; a 161st character faults the record, and its characters leave the buffer. A CR that stands there
may belong to the terminator and joins. A character with a framing error, an LF too, joins or is dropped like any other
and ends no record. With all 256 positions in use a character faults the record as OVERRUN, a 161st one too; the LF of
an empty record there is ignored. A faulted record drops its characters, and its LF places the line reply while the
queue holds fewer than 4. Three of these points are the model's choice (log entry 13, DESIGN CHOICE): the CR at the
161st place, an LF with a framing error, which ends no record, and OVERRUN tested before LONG. -/
def Obligations.CharacterJoinsRecord : Prop :=
  ∀ (s : State) (code : Byte) (framing : Bool), s.still = true →
    (¬ (code.toNat = 10 ∧ framing = false) → s.lc.fault = none → s.lc.used < 256 →
      exec (.lineCharacter code framing) s = .next
        (if tooLong s.lc.current ⟨code.toNat, framing⟩ then
          { s with lc := { s.lc with current := [], fault := some .long } }
         else { s with lc := { s.lc with current := s.lc.current ++ [⟨code.toNat, framing⟩] } })) ∧
    (¬ (code.toNat = 10 ∧ framing = false) → s.lc.fault = none → 256 ≤ s.lc.used →
      exec (.lineCharacter code framing) s = .next { s with lc := { s.lc with
        current := [], fault := some .overrun,
        crOnly := decide (s.lc.current = [] ∧ code.toNat = 13 ∧ framing = false) } }) ∧
    (code.toNat = 10 → framing = false → s.lc.fault = none → 256 ≤ s.lc.used → s.lc.current = [] →
      exec (.lineCharacter code framing) s = .next s) ∧
    (∀ f, s.lc.fault = some f → s.lc.crOnly = false →
      (¬ (code.toNat = 10 ∧ framing = false) → exec (.lineCharacter code framing) s = .next s) ∧
      (code.toNat = 10 → framing = false → s.lc.sending.isSome = true →
        exec (.lineCharacter code framing) s = .next { s with lc := { s.lc with
          fault := none, errors := if s.lc.errors.length < 4 then s.lc.errors ++ [f] else s.lc.errors } }))

/-- A line break sets LC to its reset values but for the record in progress, and reaches no other block unless it
discards the =RST reply. At the end of a record the transmitter takes the reply slot first, then the oldest line error,
then the oldest report. -/
def Obligations.LineBreakAndTransmitterOrder : Prop :=
  (∀ s : State, ¬ (s.lc.reply = some (ascii "=RST") ∧ s.am.rstPending = true) →
    exec .lineBreak s = .next { s with lc := { Line.reset with sending := s.lc.sending } }) ∧
  (∀ (s : State) (r : Text), s.lc.sending = some r → s.lc.waiting = [] → s.settled = true → s.am.rstPending = false →
    exec .transmitEnd s = .next { s with lc :=
      match s.lc.reply, s.lc.errors, s.lc.reports with
      | some q, _, _ => { s.lc with sending := some q, reply := none }
      | none, f :: fs, _ => { s.lc with sending := some (words [ascii "!???", f.text]), errors := fs }
      | none, [], q :: qs => { s.lc with sending := some q, reports := qs }
      | none, [], [] => { s.lc with sending := none } })

/-- At its due tick a watch reports its meter if the report queue holds fewer than 32, and its due tick moves on by the
interval either way. That a due event may come later than its first tick is the model's choice (log entry 7). -/
def Obligations.WatchReportsWhenDue : Prop :=
  ∀ (s : State) (k : Nat) (w : Watch), s.lc.watches.getD k none = some w → reached s.tb.stationTime w.due = true →
    s.settled = true → s.lc.sending.isSome = true →
    exec (.watchDue k) s = .next { s with lc := { s.lc with
      reports := if s.lc.reports.length < 32 then s.lc.reports ++ [s.watchReport k w] else s.lc.reports
      watches := s.lc.watches.modify k fun _ =>
        some { w with due := (w.due + w.interval * 4800) % 2 ^ 48 } } }

/-- A service number outside 0..15 is refused with RANGE and the number as sent by SVE, SVD, MTR and ACK, and three
capital letters that name no verb are answered UNKNOWN with the letters as sent; before RUN every verb but IDN, STA and
RST is answered NOTREADY with the part state. None of these changes any state. -/
def Obligations.RefusedRecordsChangeNothing : Prop :=
  (∀ s : State, s.ready = true → s.settled = true →
    (∀ n, 16 ≤ n → n < 10 ^ 12 → ∀ i ∈ [Instr.sve n, .svd n, .mtr n, .ack n],
      exec i s = .next (s.replying (words [33 :: verbOf i, ascii "RANGE", natText n]))) ∧
    (∀ v : Text, wellFormedVerb v = true → verbTable.contains v = false →
      exec (.unknownVerb v) s = .next (s.replying (words [33 :: v, ascii "UNKNOWN", v])))) ∧
  (∀ (s : State) (i : Instr), s.lineIdle = true → s.settled = true → s.part.state ≠ .run → verbOf i ≠ [] →
    (recordText i).length ≤ 160 → verbOf i ≠ ascii "IDN" → verbOf i ≠ ascii "STA" → verbOf i ≠ ascii "RST" →
    exec i s = .next (s.replying (words [33 :: verbOf i, ascii "NOTREADY", s.part.state.text])))

/-! ### Control line: records -/

/-- IDN returns the identity, revision 4 and the part state, in every part state, and changes no state. -/
def Obligations.IdnReturnsIdentity : Prop :=
  ∀ s : State, s.lineIdle = true → s.settled = true →
    exec .idn s = .next (s.replying
      (words [ascii "=IDN", ascii "KALTRIN", ascii "MODEGRA2416", natText 4, s.part.state.text]))

/-- TIQ returns station time, wall time or UNSET, the reference state, the hour number with its mark, and the station
time of the last TIM or NONE, and changes no state. -/
def Obligations.TiqReturnsTimeBase : Prop :=
  ∀ (s : State) (r : Text), s.ready = true → s.settled = true →
    r = words ([ascii "=TIQ", natText s.tb.stationTime] ++
      (match s.wallNow with
        | none => [ascii "UNSET"]
        | some w => [natText w.second, natText w.tick]) ++
      [s.tb.refState.text, natText s.tb.hour.number, timedText s.tb.hour.timed, optText natText s.tb.lastTim]) →
    fits r = true → exec .tiq s = .next (s.replying r)

/-- The read-out records of a service (MTR, SVS, PRQ, CTQ), of a hold (HLQ), of the export engine (EXQ) and of a held
entry (LOG) answer with the fields that the model's functions for those rules give, and change no state; a depth above
the stack is answered NONE with the stack's depth. STA shows the device-wide state and REPORTS-DROPPED as it stood,
clears that flag, and changes no other state. Where the spec leaves a field's text open it is the model's (log entries 5
and 6). -/
def Obligations.ReadoutsChangeNothing : Prop :=
  (∀ s : State, s.ready = true → s.settled = true →
    ∀ (i : Instr) (r : Text), sendable i = true → fits r = true →
      ((∃ svc, svc < 16 ∧ i = .mtr svc ∧ r = accepted (ascii "MTR") (s.meterTexts svc)) ∨
       (∃ svc, svc < 16 ∧ i = .svs svc none none ∧ r = accepted (ascii "SVS") (s.serviceTexts svc)) ∨
       (∃ svc keys, svc < 16 ∧ i = .prq svc keys ∧ (∀ k ∈ keys, (keyOf k).isSome = true) ∧
         r = accepted (ascii "PRQ") (natText svc ::
           (keys.map fun k => [k, optText (fun key => Key.show key (s.svc svc).profile) (keyOf k)]).flatten)) ∨
       (∃ svc, svc < 16 ∧ i = .ctq svc .stack ∧ r = accepted (ascii "CTQ") (s.stackTexts svc)) ∨
       (∃ svc d, svc < 16 ∧ (s.svc svc).st.stack.length < d ∧ i = .ctq svc (.context d none) ∧
         r = words [ascii "!CTQ", ascii "NONE", natText (s.svc svc).st.stack.length]) ∨
       (∃ h rest, i = .hlq none ∧ s.am.holds.filter (fun g => decide (1 ≤ g.id)) = h :: rest ∧
         r = accepted (ascii "HLQ") (s.holdTexts h rest)) ∨
       (i = .exq ∧ r = accepted (ascii "EXQ") s.exportTexts) ∨
       (∃ n e o, i = .log n none ∧ 1 ≤ n ∧ n ≤ 4294967295 ∧ n ≤ s.cl.lastSeq ∧ s.heldEntry n = some e ∧
         s.oldestHeld = some o ∧ 1 ≤ e.parts.length ∧ r = e.partReply 1)) →
      exec i s = .next (s.replying r)) ∧
  (∀ (s : State) (r : Text), s.ready = true → s.settled = true →
    r = accepted (ascii "STA") (s.deviceTexts ++ [if s.lc.dropped then ascii "DROPPED" else ascii "OK"]) →
    fits r = true →
    exec (.sta none) s = .next { s with lc := { s.lc with sending := some r, dropped := false } })

/-- SVE enables a service whose channel count is set: FI waits from this tick with no errors, LE and SC start afresh,
the tally starts with its part mark set, and RC's marks are clear. That the start tick of each slot's acquisition window
becomes 0 is the model's choice (DESIGN CHOICE, log entry 24). -/
def Obligations.SveEnablesService : Prop :=
  ∀ (s : State) (i : Nat), s.ready = true → i < 16 → s.services.length = 16 → (s.svc i).profile.enabled = false →
    (s.svc i).profile.channels.isSome = true →
    ∃ t, Answered (.sve i) s (words [ascii "=SVE", natText i]) t ∧
      SameCore (s.modSvc i fun v =>
        { v with profile := { v.profile with enabled := true }
                 feed := ⟨.waiting, s.tb.stationTime, none, 0, none⟩
                 le := .reset
                 sc := ⟨[], false, none, List.replicate 4 { Slot.reset with uncoveredSince := s.tb.stationTime }, none⟩
                 tally := ⟨s.tb.hour, s.tb.stationTime, true, 0, 0, 0, false⟩
                 rc := { v.rc with intakeMark := none, issueMark := none, gapRecord := .closed } }) t

/-- SVD disables an enabled service: its feed is OFF with its error count kept, its segment stack is empty, its meters
are cleared and its marks are clear. That the reply carries the service number is the model's choice (log entry 6). -/
def Obligations.SvdDisablesService : Prop :=
  ∀ (s : State) (i : Nat), s.ready = true → i < 16 → s.services.length = 16 → (s.svc i).profile.enabled = true →
    ∃ t, Answered (.svd i) s (words [ascii "=SVD", natText i]) t ∧ (t.svc i).profile.enabled = false ∧
      (t.svc i).feed = { (s.svc i).feed with state := .off } ∧ (t.svc i).st = ⟨[], 0⟩ ∧
      (t.svc i).le = { Loudness.reset with filters := (s.svc i).le.filters } ∧ (t.svc i).sc.queue = [] ∧
      (t.svc i).rc = ⟨none, none, none, .closed⟩ ∧ (∀ j, j ≠ i → t.svc j = s.svc j) ∧ t.tb = s.tb

/-- PRF sets all the fields it names together in a disabled service's profile, and the reply shows each field as stored
and carries CLAMPED if any was clamped. A number outside its field's range is taken as the nearer end and one inside it
as sent; the field then reads as that number, a default and a mask as given, and every other field as before. WGT sets
the five coefficients of a section of a disabled service; for an enabled one it is refused with STATE ENABLED and the
profile keeps its coefficients. That PRC, REC, STR and HOF are numeric fields clamped to 0..1 is the model's choice
(DESIGN CHOICE, log entry 24), and so is the text of a field where the spec leaves it open (log entry 6). -/
def Obligations.ProfileRecordsSetFields : Prop :=
  (∀ (s : State) (i : Nat) (settings : List (Text × Text)) (as : List Assignment) (r : Text), s.ready = true →
    i < 16 → s.services.length = 16 → sendable (.prf i settings) = true → assignmentsOf settings = .ok as →
    (s.svc i).profile.enabled = false →
    r = words ([ascii "=PRF", natText i] ++
      (as.map fun a => [a.name, a.key.show (assign as (s.svc i).profile)]).flatten ++
      (if anyClamped as then [ascii "CLAMPED"] else [])) → fits r = true →
    ∃ t, Answered (.prf i settings) s r t ∧
      SameCore (s.modSvc i fun v => { v with profile := assign as v.profile }) t) ∧
  (∀ (k : Key) (lo hi n : Int), k.range = some (lo, hi) →
    k.clamped (.number n) = .number (if n < lo then lo else if hi < n then hi else n)) ∧
  (∀ (k : Key) (p : Profile) (lo hi n : Int), k.range = some (lo, hi) → lo ≤ n → n ≤ hi → p.weights.length = 6 →
    (∀ j, k = .weight j → j < 6) → k.show (k.store (.number n) p) = intText n) ∧
  (∀ (j : Nat) (p : Profile) (q : Requirement), p.kindDefaults.length = 6 → j < 6 →
    Key.show (.kindDefault j) (Key.store (.kindDefault j) (.default q) p) =
      if q = .required then ascii "REQ" else ascii "EXM") ∧
  (∀ (m : Nat) (p : Profile), (Key.store .amask (.mask m) p).alarmMask = m) ∧
  (∀ (k other : Key) (v : Value) (p : Profile), other ≠ k → (∀ n, k ≠ .coeff n) →
    other.show (k.store v p) = other.show p) ∧
  (∀ (s : State) (i : Nat) (c : Coefficients), s.ready = true → i < 16 → s.services.length = 16 →
    (∀ x ∈ [c.b0, c.b1, c.b2, c.a1, c.a2], -2147483648 ≤ x ∧ x ≤ 2147483647) →
    ((s.svc i).profile.enabled = false →
      (∃ t, exec (.wgt i 1 c.b0 c.b1 c.b2 c.a1 c.a2) s = .next t ∧
        SameCore (s.modSvc i fun v => { v with profile := { v.profile with section1 := c } }) t) ∧
      (∃ t, exec (.wgt i 2 c.b0 c.b1 c.b2 c.a1 c.a2) s = .next t ∧
        SameCore (s.modSvc i fun v => { v with profile := { v.profile with section2 := c } }) t)) ∧
    ((s.svc i).profile.enabled = true → s.settled = true →
      exec (.wgt i 1 c.b0 c.b1 c.b2 c.a1 c.a2) s = .next (s.replying
        (words [ascii "!WGT", ascii "STATE", ascii "ENABLED"]))))

/-- PRF of an enabled service is refused with STATE ENABLED when it would change the channel count. Otherwise its fields
stand at once, and at its own tick: a slot that leaves the mask shows nothing, is ABSENT with its marks clear, its
conditions closed and its cues gone; one that joins is ABSENT and uncovered since this tick; another stands; a changed
count-promos re-derives the advert-active state, and a changed advert limit opens or closes AD_TIME. That a slot which
leaves the mask keeps its acquisition window's start tick is the model's choice (DESIGN CHOICE, log entry 24). The ticks
at which the timeouts were changed are the model's own (log entry 7). The text of a field in the reply is the model's
where the spec leaves it open (log entry 6). -/
def Obligations.PrfOfEnabledServiceActs : Prop :=
  ∀ (s : State) (i : Nat) (settings : List (Text × Text)) (as : List Assignment), s.ready = true →
    i < 16 → s.services.length = 16 → (s.svc i).sc.slots.length = 4 → sendable (.prf i settings) = true →
    assignmentsOf settings = .ok as → (s.svc i).profile.enabled = true →
    let old := (s.svc i).profile
    let new := assign as old
    (new.channels ≠ old.channels → s.settled = true →
      exec (.prf i settings) s = .next (s.replying (words [ascii "!PRF", ascii "STATE", ascii "ENABLED"]))) ∧
    (∀ r : Text, new.channels = old.channels →
      r = words ([ascii "=PRF", natText i] ++ (as.map fun a => [a.name, a.key.show new]).flatten ++
        (if anyClamped as then [ascii "CLAMPED"] else [])) → fits r = true →
      ∃ t, Answered (.prf i settings) s r t ∧ (t.svc i).profile = new ∧ (∀ j, j ≠ i → t.svc j = s.svc j) ∧
        (t.svc i).feed = { (s.svc i).feed with timeoutSet :=
          if old.feedTimeout = new.feedTimeout then (s.svc i).feed.timeoutSet else some s.tb.stationTime } ∧
        (t.svc i).sc.timeoutSet =
          (if old.carriageTimeout = new.carriageTimeout then (s.svc i).sc.timeoutSet else some s.tb.stationTime) ∧
        (t.svc i).le = (s.svc i).le ∧ (t.svc i).st = (s.svc i).st ∧ (t.svc i).rc = (s.svc i).rc ∧
        t.tb = s.tb ∧ t.sp = s.sp ∧ t.pool.free = s.pool.free ∧ t.am.extents = s.am.extents ∧
        (∀ k, k < 4 → old.slotMask.testBit k = true → new.slotMask.testBit k = false →
          t.slot i k = { s.slot i k with
            carriage := .absent, windowCount := 0, lastCarry := none, lapseStart := none, showing := none,
            uncoveredSince :=
              if (s.slot i k).showing.isSome then s.tb.stationTime else (s.slot i k).uncoveredSince,
            lapsedOpen := false, gapOpen := false } ∧
          (∀ c ∈ (t.svc i).sc.queue, c.slot ≠ k) ∧
          ((s.slot i k).lapsedOpen = true → t.isOpen (some i) .subLapsed (some k) = false) ∧
          ((s.slot i k).gapOpen = true → t.isOpen (some i) .subGap (some k) = false)) ∧
        (∀ k, k < 4 → old.slotMask.testBit k = false → new.slotMask.testBit k = true →
          t.slot i k = { s.slot i k with carriage := .absent, showing := none, uncoveredSince := s.tb.stationTime }) ∧
        (∀ k, k < 4 → old.slotMask.testBit k = new.slotMask.testBit k → t.slot i k = s.slot i k ∧
          (t.svc i).sc.queue.filter (fun c => decide (c.slot = k)) =
            (s.svc i).sc.queue.filter (fun c => decide (c.slot = k))) ∧
        (t.svc i).tally = { (s.svc i).tally with
          active := if old.countPromos = new.countPromos then (s.svc i).tally.active
            else (decide (0 < (s.svc i).tally.advertCount) ||
              (decide (0 < (s.svc i).tally.promoCount) && new.countPromos)) } ∧
        (old.advertLimit ≠ new.advertLimit → t.isOpen (some i) .adTime none =
          decide (new.advertLimit * 48000 < (s.svc i).tally.advertTicks)))

/-- TIM maps this tick to the second it names, recomputes the hour number, and every enabled service starts a part tally
at this tick. -/
def Obligations.TimSetsWallTime : Prop :=
  ∀ (s : State) (n : Nat), s.ready = true → n ≤ 4294967295 → s.services.length = 16 →
    ∃ t, Answered (.tim n) s (words [ascii "=TIM", natText n]) t ∧
      t.tb = { s.tb with anchor := some ⟨s.tb.stationTime, n⟩, lastTim := some s.tb.stationTime,
                         hour := ⟨n / 3600, true⟩ } ∧
      t.wallNow = some ⟨n, 0⟩ ∧
      (∀ i, i < 16 → (s.svc i).profile.enabled = false → t.svc i = s.svc i) ∧
      (∀ i, i < 16 → (s.svc i).profile.enabled = true → t.svc i = { s.svc i with tally := { (s.svc i).tally with
        hour := ⟨n / 3600, true⟩, start := s.tb.stationTime, part := true, advertTicks := 0 } }) ∧
      t.am.extents = s.am.extents ∧ t.sp = s.sp

/-- LGC sets the read cursor to part 1 of the sequence it names, whatever the log holds, and answers with the oldest
held and the last sequence; out of range it is refused. LGN answers by the first of: not yet written, the cursor stays;
overwritten, the cursor moves to the oldest held entry; held, the part at the cursor, and the cursor moves to the next
part or entry. None of these changes anything else. That it counts on to 4,294,967,296 after the last part of entry
4,294,967,295 is the model's choice (DESIGN CHOICE, log entry 24). A reset sets the cursor to 1/1, a line break leaves
it. -/
def Obligations.LogCursorMoves : Prop :=
  (∀ s : State, s.ready = true → s.settled = true →
    (∀ n, 1 ≤ n → n ≤ 4294967295 →
      exec (.lgc n) s = .next (({ s with cl := { s.cl with cursorSeq := n, cursorPart := 1 } } : State).replying
        (words [ascii "=LGC", natText n, optText natText s.oldestHeld,
          if s.cl.ring.isEmpty then ascii "NONE" else natText s.cl.lastSeq]))) ∧
    (∀ n, n < 1 ∨ 4294967295 < n → n < 10 ^ 12 →
      exec (.lgc n) s = .next (s.replying (words [ascii "!LGC", ascii "RANGE", natText n]))) ∧
    (s.cl.lastSeq < s.cl.cursorSeq →
      exec .lgn s = .next (s.replying (words [ascii "!LGN", ascii "NONE", natText s.cl.lastSeq]))) ∧
    (∀ o, s.cl.cursorSeq ≤ s.cl.lastSeq → s.oldestHeld = some o → s.heldEntry s.cl.cursorSeq = none →
      exec .lgn s = .next (({ s with cl := { s.cl with cursorSeq := o, cursorPart := 1 } } : State).replying
        (words [ascii "!LGN", ascii "GONE", natText o]))) ∧
    (∀ e o, s.heldEntry s.cl.cursorSeq = some e → s.cl.cursorSeq ≤ s.cl.lastSeq → s.oldestHeld = some o →
      fits (e.partReply s.cl.cursorPart) = true →
      exec .lgn s = .next (({ s with cl := { s.cl with
          cursorSeq := if s.cl.cursorPart < e.parts.length then s.cl.cursorSeq else s.cl.cursorSeq + 1,
          cursorPart := if s.cl.cursorPart < e.parts.length then s.cl.cursorPart + 1 else 1 } } : State).replying
        (e.partReply s.cl.cursorPart)))) ∧
  (∀ s t : State, exec .powerOnReset s = .next t ∨ exec .pinReset s = .next t ∨
      (s.rstDue = true ∧ exec .rstResetApplied s = .next t) →
    t.cl.cursorSeq = 1 ∧ t.cl.cursorPart = 1) ∧
  (∀ s t : State, exec .lineBreak s = .next t → t.cl = s.cl)

/-- WCH sets a watch slot whole with its next due tick, and WCX clears it; TRG sets a capture trigger slot whole, and
TRX clears it; ACK clears the unacknowledged-failure flag, and the reply gives the state it had. None of them changes
anything else. -/
def Obligations.SlotTablesAndFlagsAreSet : Prop :=
  ∀ (s : State) (k i : Nat), s.ready = true → s.settled = true → k < 8 → i < 16 →
    (∀ (n : Nat) (m : Meter), 1 ≤ n → n ≤ 600 →
      let w : Watch := ⟨i, m, n, (s.tb.stationTime + n * 4800) % 2 ^ 48⟩
      exec (.wch k i m.text n) s =
        .next ((s.modLc fun l => { l with watches := l.watches.modify k fun _ => some w }).replying
        (words [ascii "=WCH", natText k, natText i, m.text, natText n]))) ∧
    exec (.wcx k) s = .next ((s.modLc fun l => { l with watches := l.watches.modify k fun _ => none }).replying
      (words [ascii "=WCX", natText k])) ∧
    (∀ (pre post : Nat) (e : TriggerEvent) (a : TriggerAction), pre ≤ 600 → post ≤ 600 → e ∈ triggerEvents →
      exec (.trg k e.text (natText i) a.text pre post) s =
        .next ((s.modTriggers fun l => l.modify k fun _ => some ⟨e, some i, a, pre, post⟩).replying
          (words [ascii "=TRG", natText k, e.text, natText i, a.text, natText pre, natText post]))) ∧
    exec (.trx k) s = .next ((s.modTriggers fun l => l.modify k fun _ => none).replying
      (words [ascii "=TRX", natText k])) ∧
    exec (.ack i) s = .next ((s.modSvc i fun v => { v with unacknowledged := false }).replying
      (words [ascii "=ACK", natText i, if (s.svc i).unacknowledged then ascii "SET" else ascii "CLEAR"]))

/-- An HLD request that passes AM's tests creates the hold with the next free id and marks page 257 dirty; HLR removes
the hold it names. -/
def Obligations.HostHoldsAreKept : Prop :=
  ∀ s : State, s.ready = true → s.settled = true →
    (∀ svc lo hi keep : Nat, svc < 16 → lo ≤ hi → hi ≤ 4294967295 → keep ≤ 3650 →
      s.holdTests ⟨svc, lo, hi, .host, none, keep, false⟩ = none →
      ∃ t, exec (.hld svc lo hi keep) s = .next t ∧
        t.am.holds = insertByKey Hold.id (s.holdFor ⟨svc, lo, hi, .host, none, keep, false⟩) s.am.holds ∧
        257 ∈ t.am.dirty ∧ t.services = s.services ∧ t.am.extents = s.am.extents ∧ t.sp = s.sp) ∧
    (∀ id h, 1 ≤ id → id ≤ 65535 → s.holdsBarred = none →
      s.am.holds.find? (fun g => decide (g.id = id)) = some h →
      ∃ t, exec (.hlr id) s = .next t ∧ t.am.holds = s.am.holds.filter (fun g => decide (g.id ≠ id)) ∧
        257 ∈ t.am.dirty ∧ t.services = s.services ∧ t.am.extents = s.am.extents ∧ t.sp = s.sp)

/-- EXP L lists log pages counting on from 4095 to 0, takes the next export id, and EE waits at the first page. XAB in
WAITING ends the export at once, ABORTED. -/
def Obligations.ExportStartsAndStops : Prop :=
  ∀ s : State, s.ready = true → s.settled = true →
    (∀ first count : Nat, first ≤ 4095 → 1 ≤ count → count ≤ 4096 → s.ee.current = none → s.sp.faultLatched = false →
      s.am.state = .online → s.am.oflPending = false →
      let items : List ExportItem := (List.range count).map fun k => ⟨(first + k) % 4096, 1⟩
      ∃ t, exec (.exp (.logPages first count)) s = .next t ∧
        t.ee.nextId = (if s.ee.nextId = 65535 then 1 else s.ee.nextId + 1) ∧ t.ee.last = s.ee.last ∧
        t.ee.current = some ⟨s.ee.nextId, .log, none, items, 0, 0, 0, 0, false, .waiting, none, none⟩ ∧
        t.services = s.services ∧ t.am = s.am ∧ t.sp = s.sp ∧ t.cl = s.cl) ∧
    (∀ x : Export, s.ee.current = some x → x.state = .waiting →
      ∃ t, exec .xab s = .next t ∧ t.ee = { s.ee with current := none, last := some (x.id, .aborted) } ∧
        t.services = s.services ∧ t.sp = s.sp)

/-- OFL takes the archive OFFLINE at its tick with no operation in flight, and otherwise waits with the OFL pending; ONL
from OFFLINE, UNFORMATTED or UNAVAILABLE starts a mount with the probe; SAV marks page 258 dirty; FMT on an OFFLINE or
UNFORMATTED archive starts a format with the write of page 0, the low-water mark standing on chip from its acceptance
(the model's choice, log entry 17). With STORAGE_FAULT latched OFL and ONL are refused with FAULT whatever the archive
state and LOW_SUPPLY: that FAULT is tested before the archive state of R151 and R152 and before SUPPLY of R190 is the
model's choice (log entry 15, DEDUCED). That the duration of MOUNT_DONE counts from the acceptance of ONL and of FMT,
the tick that mountStart takes here, is the model's choice (DESIGN CHOICE, log entry 24), and an OFL while an OFL is
pending is accepted again (log entry 22, DEDUCED). -/
def Obligations.ArchiveCommandsAct : Prop :=
  ∀ s : State, s.ready = true → s.settled = true →
    (s.sp.faultLatched = false → s.part.lowSupply = false →
      (s.am.state = .online → s.am.oflPending = false → s.sp.operation = none →
        ∃ t, exec .ofl s = .next t ∧ t.am.state = .offline ∧ t.am.oflPending = false ∧ t.am.extents = s.am.extents ∧
          t.writeQueue = s.writeQueue ∧ t.services = s.services) ∧
      (s.am.state = .online → ∀ op, s.sp.operation = some op →
        exec .ofl s = .next ((s.modAm fun a => { a with oflPending := true }).replying (ascii "=OFL"))) ∧
      (s.am.state = .offline ∨ s.am.state = .unformatted ∨ s.am.state = .unavailable →
        ∃ t, exec .onl s = .next t ∧ t.am = { s.am with
          state := .mounting, mount := .probing, mountStart := s.tb.stationTime } ∧ t.services = s.services) ∧
      (s.am.state = .online → s.am.oflPending = false → ∃ t, exec .sav s = .next t ∧ 258 ∈ t.am.dirty ∧
          t.services = s.services ∧ t.triggers = s.triggers ∧ t.am.extents = s.am.extents) ∧
      (s.am.state = .offline ∨ s.am.state = .unformatted →
        ∃ t, exec (.fmt none) s = .next t ∧ t.am = { s.am with
          state := .mounting, mount := .formatting, mountStart := s.tb.stationTime, lowWater := 32 } ∧
          t.sp = { s.sp with grantTick := s.tb.stationTime, operation := some (.formatWrite 0
            (.header s.cl.boot false (s.am.capacity.getD 0) 32 0)) } ∧
          t.services = s.services)) ∧
    (s.sp.faultLatched = true → ∀ i ∈ [Instr.ofl, .onl],
      exec i s = .next (s.replying (words [33 :: verbOf i, ascii "STATE", ascii "FAULT"])))

/-- RST in RUN is answered =RST, sets the RST-pending mark, and leaves no buffer filling. With the flush FLUSHED, and in
START and MOUNT, it applies its reset at once, without a reply (log entries 15 and 16). -/
def Obligations.RstFlushesOrResets : Prop :=
  ∀ s : State,
    (s.ready = true → s.services.length = 16 → s.am.flush ≠ .flushed →
      ∃ t, Answered .rst s (ascii "=RST") t ∧ t.am.rstPending = true ∧ t.am.flush ≠ .idle ∧
        (∀ i, i < 16 → (t.svc i).rc.filling = none) ∧ t.tb = s.tb ∧ t.cu.conditions = s.cu.conditions) ∧
    ((s.ready = true ∧ s.am.flush = .flushed) ∨
        (s.part.state ≠ .run ∧ s.am.rstPending = false ∧ s.lineIdle = true) →
      exec .rst s = .next (s.restarted .command))

/-! ### ALARM -/

/-- ALARM is asserted exactly while STORAGE_FAULT is latched, or some service has an open condition in its alarm mask (a
device-wide one counts for every enabled service), or some service's unacknowledged-failure flag is set. A power-on, pin
or RST reset deasserts it, and a line break leaves it. -/
def Obligations.AlarmFollowsItsInputs : Prop :=
  (∀ s : State, s.alarm = true ↔
    s.sp.faultLatched = true ∨ ∃ i, i < 16 ∧
      ((s.svc i).unacknowledged = true ∨
        ∃ c ∈ s.cu.conditions, inMask (s.svc i).profile.alarmMask c.cls = true ∧
          (c.service = some i ∨ (c.service = none ∧ (s.svc i).profile.enabled = true)))) ∧
  (∀ s t : State, exec .powerOnReset s = .next t ∨ exec .pinReset s = .next t ∨
      (s.rstDue = true ∧ exec .rstResetApplied s = .next t) → t.alarm = false) ∧
  (∀ s t : State, exec .lineBreak s = .next t → t.alarm = s.alarm)

/-! ### Invariants -/

/-- After reset the log's account holds, the line controller's queues and buffer are within their bounds, the extent
table is in its canonical form, the dirty pages rise, the tables have their sizes, and every context is in one place. -/
def Obligations.ResetMeetsInvariants : Prop :=
  State.reset.cl.ringOk ∧ State.reset.lc.bounded ∧ State.reset.tableOk ∧ State.reset.dirtyOk ∧ State.reset.sizesOk ∧
    State.reset.poolOk

/-- Every step keeps the log's account: the ring holds the newest min(2048, last sequence) entries of the boot, numbered
consecutively up to the last sequence. -/
def Obligations.StepKeepsLogRing : Prop := ∀ s t : State, s.cl.ringOk → step s = .next t → t.cl.ringOk

/-- Every step keeps the report queue within 32, the line-error queue within 4 and the receive buffer within 256
positions. -/
def Obligations.StepKeepsLineBounds : Prop := ∀ s t : State, s.lc.bounded → step s = .next t → t.lc.bounded

/-- Every step keeps the extent table in its canonical form, numbers strictly rising and no FREE record listed, and the
dirty directory pages strictly rising, so that the head is the lowest. That a FREE extent's record holds nothing else is
the model's choice (log entry 24). -/
def Obligations.StepKeepsExtentTable : Prop :=
  (∀ s t : State, s.tableOk → step s = .next t → t.tableOk) ∧
  (∀ s t : State, s.dirtyOk → step s = .next t → t.dirtyOk)

/-- Every step keeps 16 services of 4 slots each, stacks of at most 4 entries, cue queues of at most 16 cues, 64
contexts, at most 128 holds, each with from ≤ to, 8 trigger slots and 8 watch slots. -/
def Obligations.StepKeepsTableSizes : Prop := ∀ s t : State, s.sizesOk → step s = .next t → t.sizesOk

/-- Every step keeps each of the 64 context numbers in exactly one place: on the free list, in one stack entry, in the
verdict queue or under evaluation. -/
def Obligations.StepKeepsContextPool : Prop := ∀ s t : State, s.poolOk → step s = .next t → t.poolOk

/-! ### Encodings -/

/-- A profile record read back gives the profile that was written, for every profile in its ranges; a trigger record and
a hold record read back give what was written. A trigger record, set or clear, whose service or window lies outside its
values is refused. -/
def Obligations.ArchiveRecordsRoundTrip : Prop :=
  (∀ p : Profile, p.inRange = true →
    (∀ x ∈ [p.section1.b0, p.section1.b1, p.section1.b2, p.section1.a1, p.section1.a2, p.section2.b0, p.section2.b1,
      p.section2.b2, p.section2.a1, p.section2.a2], -2147483648 ≤ x ∧ x ≤ 2147483647) →
    decodeProfile (encodeProfile p) = some p) ∧
  (∀ t : Trigger, t.event ∈ triggerEvents → (∀ n, t.service = some n → n ≤ 15) → t.pre ≤ 600 → t.post ≤ 600 →
    decodeTrigger (encodeTrigger (some t)) = some (some t)) ∧
  decodeTrigger (encodeTrigger none) = some none ∧
  (∀ b : List Byte, (15 < fieldAt b 3 1 ∧ fieldAt b 3 1 ≠ 255) ∨ 600 < fieldAt b 5 2 ∨ 600 < fieldAt b 7 2 →
    decodeTrigger b = none) ∧
  (∀ h : Hold, 1 ≤ h.id → h.id ≤ 65535 → h.service ≤ 15 → h.lo ≤ h.hi → h.hi ≤ 4294967295 →
    (∀ n, h.origin = some n → n ≤ 4294967295) → (∀ n, h.keepUntil = some n → n ≤ 4294967295) →
    decodeHold (encodeHold h) = some h)
end

