-- ==== Sys2Proof/Laws/State.lean ====
section
/-! SUPPORT. What each update of a block of State does to each field of it: one lemma per field per update. -/

namespace Sys2Proof.Machine

@[simp] theorem State.modPart_part (s : State) (f : Part → Part) : (s.modPart f).part = f s.part := rfl
@[simp] theorem State.modPart_tb (s : State) (f : Part → Part) : (s.modPart f).tb = s.tb := rfl
@[simp] theorem State.modPart_feedBytes (s : State) (f : Part → Part) : (s.modPart f).feedBytes = s.feedBytes := rfl
@[simp] theorem State.modPart_feedLost (s : State) (f : Part → Part) : (s.modPart f).feedLost = s.feedLost := rfl
@[simp] theorem State.modPart_services (s : State) (f : Part → Part) : (s.modPart f).services = s.services := rfl
@[simp] theorem State.modPart_pool (s : State) (f : Part → Part) : (s.modPart f).pool = s.pool := rfl
@[simp] theorem State.modPart_cu (s : State) (f : Part → Part) : (s.modPart f).cu = s.cu := rfl
@[simp] theorem State.modPart_cl (s : State) (f : Part → Part) : (s.modPart f).cl = s.cl := rfl
@[simp] theorem State.modPart_writeQueue (s : State) (f : Part → Part) : (s.modPart f).writeQueue = s.writeQueue := rfl
@[simp] theorem State.modPart_am (s : State) (f : Part → Part) : (s.modPart f).am = s.am := rfl
@[simp] theorem State.modPart_sp (s : State) (f : Part → Part) : (s.modPart f).sp = s.sp := rfl
@[simp] theorem State.modPart_triggers (s : State) (f : Part → Part) : (s.modPart f).triggers = s.triggers := rfl
@[simp] theorem State.modPart_ee (s : State) (f : Part → Part) : (s.modPart f).ee = s.ee := rfl
@[simp] theorem State.modPart_lc (s : State) (f : Part → Part) : (s.modPart f).lc = s.lc := rfl
@[simp] theorem State.modPart_pending (s : State) (f : Part → Part) : (s.modPart f).pending = s.pending := rfl

@[simp] theorem State.modTb_part (s : State) (f : TimeBase → TimeBase) : (s.modTb f).part = s.part := rfl
@[simp] theorem State.modTb_tb (s : State) (f : TimeBase → TimeBase) : (s.modTb f).tb = f s.tb := rfl
@[simp] theorem State.modTb_feedBytes (s : State) (f : TimeBase → TimeBase) : (s.modTb f).feedBytes = s.feedBytes := rfl
@[simp] theorem State.modTb_feedLost (s : State) (f : TimeBase → TimeBase) : (s.modTb f).feedLost = s.feedLost := rfl
@[simp] theorem State.modTb_services (s : State) (f : TimeBase → TimeBase) : (s.modTb f).services = s.services := rfl
@[simp] theorem State.modTb_pool (s : State) (f : TimeBase → TimeBase) : (s.modTb f).pool = s.pool := rfl
@[simp] theorem State.modTb_cu (s : State) (f : TimeBase → TimeBase) : (s.modTb f).cu = s.cu := rfl
@[simp] theorem State.modTb_cl (s : State) (f : TimeBase → TimeBase) : (s.modTb f).cl = s.cl := rfl
@[simp] theorem State.modTb_writeQueue (s : State) (f : TimeBase → TimeBase) : (s.modTb f).writeQueue = s.writeQueue := rfl
@[simp] theorem State.modTb_am (s : State) (f : TimeBase → TimeBase) : (s.modTb f).am = s.am := rfl
@[simp] theorem State.modTb_sp (s : State) (f : TimeBase → TimeBase) : (s.modTb f).sp = s.sp := rfl
@[simp] theorem State.modTb_triggers (s : State) (f : TimeBase → TimeBase) : (s.modTb f).triggers = s.triggers := rfl
@[simp] theorem State.modTb_ee (s : State) (f : TimeBase → TimeBase) : (s.modTb f).ee = s.ee := rfl
@[simp] theorem State.modTb_lc (s : State) (f : TimeBase → TimeBase) : (s.modTb f).lc = s.lc := rfl
@[simp] theorem State.modTb_pending (s : State) (f : TimeBase → TimeBase) : (s.modTb f).pending = s.pending := rfl

@[simp] theorem State.modSvc_part (s : State) (i : Nat) (f : Service → Service) : (s.modSvc i f).part = s.part := rfl
@[simp] theorem State.modSvc_tb (s : State) (i : Nat) (f : Service → Service) : (s.modSvc i f).tb = s.tb := rfl
@[simp] theorem State.modSvc_feedBytes (s : State) (i : Nat) (f : Service → Service) : (s.modSvc i f).feedBytes = s.feedBytes := rfl
@[simp] theorem State.modSvc_feedLost (s : State) (i : Nat) (f : Service → Service) : (s.modSvc i f).feedLost = s.feedLost := rfl
@[simp] theorem State.modSvc_services (s : State) (i : Nat) (f : Service → Service) : (s.modSvc i f).services = s.services.modify i f := rfl
@[simp] theorem State.modSvc_pool (s : State) (i : Nat) (f : Service → Service) : (s.modSvc i f).pool = s.pool := rfl
@[simp] theorem State.modSvc_cu (s : State) (i : Nat) (f : Service → Service) : (s.modSvc i f).cu = s.cu := rfl
@[simp] theorem State.modSvc_cl (s : State) (i : Nat) (f : Service → Service) : (s.modSvc i f).cl = s.cl := rfl
@[simp] theorem State.modSvc_writeQueue (s : State) (i : Nat) (f : Service → Service) : (s.modSvc i f).writeQueue = s.writeQueue := rfl
@[simp] theorem State.modSvc_am (s : State) (i : Nat) (f : Service → Service) : (s.modSvc i f).am = s.am := rfl
@[simp] theorem State.modSvc_sp (s : State) (i : Nat) (f : Service → Service) : (s.modSvc i f).sp = s.sp := rfl
@[simp] theorem State.modSvc_triggers (s : State) (i : Nat) (f : Service → Service) : (s.modSvc i f).triggers = s.triggers := rfl
@[simp] theorem State.modSvc_ee (s : State) (i : Nat) (f : Service → Service) : (s.modSvc i f).ee = s.ee := rfl
@[simp] theorem State.modSvc_lc (s : State) (i : Nat) (f : Service → Service) : (s.modSvc i f).lc = s.lc := rfl
@[simp] theorem State.modSvc_pending (s : State) (i : Nat) (f : Service → Service) : (s.modSvc i f).pending = s.pending := rfl

@[simp] theorem State.modPool_part (s : State) (f : Pool → Pool) : (s.modPool f).part = s.part := rfl
@[simp] theorem State.modPool_tb (s : State) (f : Pool → Pool) : (s.modPool f).tb = s.tb := rfl
@[simp] theorem State.modPool_feedBytes (s : State) (f : Pool → Pool) : (s.modPool f).feedBytes = s.feedBytes := rfl
@[simp] theorem State.modPool_feedLost (s : State) (f : Pool → Pool) : (s.modPool f).feedLost = s.feedLost := rfl
@[simp] theorem State.modPool_services (s : State) (f : Pool → Pool) : (s.modPool f).services = s.services := rfl
@[simp] theorem State.modPool_pool (s : State) (f : Pool → Pool) : (s.modPool f).pool = f s.pool := rfl
@[simp] theorem State.modPool_cu (s : State) (f : Pool → Pool) : (s.modPool f).cu = s.cu := rfl
@[simp] theorem State.modPool_cl (s : State) (f : Pool → Pool) : (s.modPool f).cl = s.cl := rfl
@[simp] theorem State.modPool_writeQueue (s : State) (f : Pool → Pool) : (s.modPool f).writeQueue = s.writeQueue := rfl
@[simp] theorem State.modPool_am (s : State) (f : Pool → Pool) : (s.modPool f).am = s.am := rfl
@[simp] theorem State.modPool_sp (s : State) (f : Pool → Pool) : (s.modPool f).sp = s.sp := rfl
@[simp] theorem State.modPool_triggers (s : State) (f : Pool → Pool) : (s.modPool f).triggers = s.triggers := rfl
@[simp] theorem State.modPool_ee (s : State) (f : Pool → Pool) : (s.modPool f).ee = s.ee := rfl
@[simp] theorem State.modPool_lc (s : State) (f : Pool → Pool) : (s.modPool f).lc = s.lc := rfl
@[simp] theorem State.modPool_pending (s : State) (f : Pool → Pool) : (s.modPool f).pending = s.pending := rfl

@[simp] theorem State.modCu_part (s : State) (f : Compliance → Compliance) : (s.modCu f).part = s.part := rfl
@[simp] theorem State.modCu_tb (s : State) (f : Compliance → Compliance) : (s.modCu f).tb = s.tb := rfl
@[simp] theorem State.modCu_feedBytes (s : State) (f : Compliance → Compliance) : (s.modCu f).feedBytes = s.feedBytes := rfl
@[simp] theorem State.modCu_feedLost (s : State) (f : Compliance → Compliance) : (s.modCu f).feedLost = s.feedLost := rfl
@[simp] theorem State.modCu_services (s : State) (f : Compliance → Compliance) : (s.modCu f).services = s.services := rfl
@[simp] theorem State.modCu_pool (s : State) (f : Compliance → Compliance) : (s.modCu f).pool = s.pool := rfl
@[simp] theorem State.modCu_cu (s : State) (f : Compliance → Compliance) : (s.modCu f).cu = f s.cu := rfl
@[simp] theorem State.modCu_cl (s : State) (f : Compliance → Compliance) : (s.modCu f).cl = s.cl := rfl
@[simp] theorem State.modCu_writeQueue (s : State) (f : Compliance → Compliance) : (s.modCu f).writeQueue = s.writeQueue := rfl
@[simp] theorem State.modCu_am (s : State) (f : Compliance → Compliance) : (s.modCu f).am = s.am := rfl
@[simp] theorem State.modCu_sp (s : State) (f : Compliance → Compliance) : (s.modCu f).sp = s.sp := rfl
@[simp] theorem State.modCu_triggers (s : State) (f : Compliance → Compliance) : (s.modCu f).triggers = s.triggers := rfl
@[simp] theorem State.modCu_ee (s : State) (f : Compliance → Compliance) : (s.modCu f).ee = s.ee := rfl
@[simp] theorem State.modCu_lc (s : State) (f : Compliance → Compliance) : (s.modCu f).lc = s.lc := rfl
@[simp] theorem State.modCu_pending (s : State) (f : Compliance → Compliance) : (s.modCu f).pending = s.pending := rfl

@[simp] theorem State.modCl_part (s : State) (f : LogState → LogState) : (s.modCl f).part = s.part := rfl
@[simp] theorem State.modCl_tb (s : State) (f : LogState → LogState) : (s.modCl f).tb = s.tb := rfl
@[simp] theorem State.modCl_feedBytes (s : State) (f : LogState → LogState) : (s.modCl f).feedBytes = s.feedBytes := rfl
@[simp] theorem State.modCl_feedLost (s : State) (f : LogState → LogState) : (s.modCl f).feedLost = s.feedLost := rfl
@[simp] theorem State.modCl_services (s : State) (f : LogState → LogState) : (s.modCl f).services = s.services := rfl
@[simp] theorem State.modCl_pool (s : State) (f : LogState → LogState) : (s.modCl f).pool = s.pool := rfl
@[simp] theorem State.modCl_cu (s : State) (f : LogState → LogState) : (s.modCl f).cu = s.cu := rfl
@[simp] theorem State.modCl_cl (s : State) (f : LogState → LogState) : (s.modCl f).cl = f s.cl := rfl
@[simp] theorem State.modCl_writeQueue (s : State) (f : LogState → LogState) : (s.modCl f).writeQueue = s.writeQueue := rfl
@[simp] theorem State.modCl_am (s : State) (f : LogState → LogState) : (s.modCl f).am = s.am := rfl
@[simp] theorem State.modCl_sp (s : State) (f : LogState → LogState) : (s.modCl f).sp = s.sp := rfl
@[simp] theorem State.modCl_triggers (s : State) (f : LogState → LogState) : (s.modCl f).triggers = s.triggers := rfl
@[simp] theorem State.modCl_ee (s : State) (f : LogState → LogState) : (s.modCl f).ee = s.ee := rfl
@[simp] theorem State.modCl_lc (s : State) (f : LogState → LogState) : (s.modCl f).lc = s.lc := rfl
@[simp] theorem State.modCl_pending (s : State) (f : LogState → LogState) : (s.modCl f).pending = s.pending := rfl

@[simp] theorem State.modQueue_part (s : State) (f : List Buffer → List Buffer) : (s.modQueue f).part = s.part := rfl
@[simp] theorem State.modQueue_tb (s : State) (f : List Buffer → List Buffer) : (s.modQueue f).tb = s.tb := rfl
@[simp] theorem State.modQueue_feedBytes (s : State) (f : List Buffer → List Buffer) : (s.modQueue f).feedBytes = s.feedBytes := rfl
@[simp] theorem State.modQueue_feedLost (s : State) (f : List Buffer → List Buffer) : (s.modQueue f).feedLost = s.feedLost := rfl
@[simp] theorem State.modQueue_services (s : State) (f : List Buffer → List Buffer) : (s.modQueue f).services = s.services := rfl
@[simp] theorem State.modQueue_pool (s : State) (f : List Buffer → List Buffer) : (s.modQueue f).pool = s.pool := rfl
@[simp] theorem State.modQueue_cu (s : State) (f : List Buffer → List Buffer) : (s.modQueue f).cu = s.cu := rfl
@[simp] theorem State.modQueue_cl (s : State) (f : List Buffer → List Buffer) : (s.modQueue f).cl = s.cl := rfl
@[simp] theorem State.modQueue_writeQueue (s : State) (f : List Buffer → List Buffer) : (s.modQueue f).writeQueue = f s.writeQueue := rfl
@[simp] theorem State.modQueue_am (s : State) (f : List Buffer → List Buffer) : (s.modQueue f).am = s.am := rfl
@[simp] theorem State.modQueue_sp (s : State) (f : List Buffer → List Buffer) : (s.modQueue f).sp = s.sp := rfl
@[simp] theorem State.modQueue_triggers (s : State) (f : List Buffer → List Buffer) : (s.modQueue f).triggers = s.triggers := rfl
@[simp] theorem State.modQueue_ee (s : State) (f : List Buffer → List Buffer) : (s.modQueue f).ee = s.ee := rfl
@[simp] theorem State.modQueue_lc (s : State) (f : List Buffer → List Buffer) : (s.modQueue f).lc = s.lc := rfl
@[simp] theorem State.modQueue_pending (s : State) (f : List Buffer → List Buffer) : (s.modQueue f).pending = s.pending := rfl

@[simp] theorem State.modAm_part (s : State) (f : Archive → Archive) : (s.modAm f).part = s.part := rfl
@[simp] theorem State.modAm_tb (s : State) (f : Archive → Archive) : (s.modAm f).tb = s.tb := rfl
@[simp] theorem State.modAm_feedBytes (s : State) (f : Archive → Archive) : (s.modAm f).feedBytes = s.feedBytes := rfl
@[simp] theorem State.modAm_feedLost (s : State) (f : Archive → Archive) : (s.modAm f).feedLost = s.feedLost := rfl
@[simp] theorem State.modAm_services (s : State) (f : Archive → Archive) : (s.modAm f).services = s.services := rfl
@[simp] theorem State.modAm_pool (s : State) (f : Archive → Archive) : (s.modAm f).pool = s.pool := rfl
@[simp] theorem State.modAm_cu (s : State) (f : Archive → Archive) : (s.modAm f).cu = s.cu := rfl
@[simp] theorem State.modAm_cl (s : State) (f : Archive → Archive) : (s.modAm f).cl = s.cl := rfl
@[simp] theorem State.modAm_writeQueue (s : State) (f : Archive → Archive) : (s.modAm f).writeQueue = s.writeQueue := rfl
@[simp] theorem State.modAm_am (s : State) (f : Archive → Archive) : (s.modAm f).am = f s.am := rfl
@[simp] theorem State.modAm_sp (s : State) (f : Archive → Archive) : (s.modAm f).sp = s.sp := rfl
@[simp] theorem State.modAm_triggers (s : State) (f : Archive → Archive) : (s.modAm f).triggers = s.triggers := rfl
@[simp] theorem State.modAm_ee (s : State) (f : Archive → Archive) : (s.modAm f).ee = s.ee := rfl
@[simp] theorem State.modAm_lc (s : State) (f : Archive → Archive) : (s.modAm f).lc = s.lc := rfl
@[simp] theorem State.modAm_pending (s : State) (f : Archive → Archive) : (s.modAm f).pending = s.pending := rfl

@[simp] theorem State.modSp_part (s : State) (f : StoragePort → StoragePort) : (s.modSp f).part = s.part := rfl
@[simp] theorem State.modSp_tb (s : State) (f : StoragePort → StoragePort) : (s.modSp f).tb = s.tb := rfl
@[simp] theorem State.modSp_feedBytes (s : State) (f : StoragePort → StoragePort) : (s.modSp f).feedBytes = s.feedBytes := rfl
@[simp] theorem State.modSp_feedLost (s : State) (f : StoragePort → StoragePort) : (s.modSp f).feedLost = s.feedLost := rfl
@[simp] theorem State.modSp_services (s : State) (f : StoragePort → StoragePort) : (s.modSp f).services = s.services := rfl
@[simp] theorem State.modSp_pool (s : State) (f : StoragePort → StoragePort) : (s.modSp f).pool = s.pool := rfl
@[simp] theorem State.modSp_cu (s : State) (f : StoragePort → StoragePort) : (s.modSp f).cu = s.cu := rfl
@[simp] theorem State.modSp_cl (s : State) (f : StoragePort → StoragePort) : (s.modSp f).cl = s.cl := rfl
@[simp] theorem State.modSp_writeQueue (s : State) (f : StoragePort → StoragePort) : (s.modSp f).writeQueue = s.writeQueue := rfl
@[simp] theorem State.modSp_am (s : State) (f : StoragePort → StoragePort) : (s.modSp f).am = s.am := rfl
@[simp] theorem State.modSp_sp (s : State) (f : StoragePort → StoragePort) : (s.modSp f).sp = f s.sp := rfl
@[simp] theorem State.modSp_triggers (s : State) (f : StoragePort → StoragePort) : (s.modSp f).triggers = s.triggers := rfl
@[simp] theorem State.modSp_ee (s : State) (f : StoragePort → StoragePort) : (s.modSp f).ee = s.ee := rfl
@[simp] theorem State.modSp_lc (s : State) (f : StoragePort → StoragePort) : (s.modSp f).lc = s.lc := rfl
@[simp] theorem State.modSp_pending (s : State) (f : StoragePort → StoragePort) : (s.modSp f).pending = s.pending := rfl

@[simp] theorem State.modTriggers_part (s : State) (f : List (Option Trigger) → List (Option Trigger)) : (s.modTriggers f).part = s.part := rfl
@[simp] theorem State.modTriggers_tb (s : State) (f : List (Option Trigger) → List (Option Trigger)) : (s.modTriggers f).tb = s.tb := rfl
@[simp] theorem State.modTriggers_feedBytes (s : State) (f : List (Option Trigger) → List (Option Trigger)) : (s.modTriggers f).feedBytes = s.feedBytes := rfl
@[simp] theorem State.modTriggers_feedLost (s : State) (f : List (Option Trigger) → List (Option Trigger)) : (s.modTriggers f).feedLost = s.feedLost := rfl
@[simp] theorem State.modTriggers_services (s : State) (f : List (Option Trigger) → List (Option Trigger)) : (s.modTriggers f).services = s.services := rfl
@[simp] theorem State.modTriggers_pool (s : State) (f : List (Option Trigger) → List (Option Trigger)) : (s.modTriggers f).pool = s.pool := rfl
@[simp] theorem State.modTriggers_cu (s : State) (f : List (Option Trigger) → List (Option Trigger)) : (s.modTriggers f).cu = s.cu := rfl
@[simp] theorem State.modTriggers_cl (s : State) (f : List (Option Trigger) → List (Option Trigger)) : (s.modTriggers f).cl = s.cl := rfl
@[simp] theorem State.modTriggers_writeQueue (s : State) (f : List (Option Trigger) → List (Option Trigger)) : (s.modTriggers f).writeQueue = s.writeQueue := rfl
@[simp] theorem State.modTriggers_am (s : State) (f : List (Option Trigger) → List (Option Trigger)) : (s.modTriggers f).am = s.am := rfl
@[simp] theorem State.modTriggers_sp (s : State) (f : List (Option Trigger) → List (Option Trigger)) : (s.modTriggers f).sp = s.sp := rfl
@[simp] theorem State.modTriggers_triggers (s : State) (f : List (Option Trigger) → List (Option Trigger)) : (s.modTriggers f).triggers = f s.triggers := rfl
@[simp] theorem State.modTriggers_ee (s : State) (f : List (Option Trigger) → List (Option Trigger)) : (s.modTriggers f).ee = s.ee := rfl
@[simp] theorem State.modTriggers_lc (s : State) (f : List (Option Trigger) → List (Option Trigger)) : (s.modTriggers f).lc = s.lc := rfl
@[simp] theorem State.modTriggers_pending (s : State) (f : List (Option Trigger) → List (Option Trigger)) : (s.modTriggers f).pending = s.pending := rfl

@[simp] theorem State.modEe_part (s : State) (f : ExportEngine → ExportEngine) : (s.modEe f).part = s.part := rfl
@[simp] theorem State.modEe_tb (s : State) (f : ExportEngine → ExportEngine) : (s.modEe f).tb = s.tb := rfl
@[simp] theorem State.modEe_feedBytes (s : State) (f : ExportEngine → ExportEngine) : (s.modEe f).feedBytes = s.feedBytes := rfl
@[simp] theorem State.modEe_feedLost (s : State) (f : ExportEngine → ExportEngine) : (s.modEe f).feedLost = s.feedLost := rfl
@[simp] theorem State.modEe_services (s : State) (f : ExportEngine → ExportEngine) : (s.modEe f).services = s.services := rfl
@[simp] theorem State.modEe_pool (s : State) (f : ExportEngine → ExportEngine) : (s.modEe f).pool = s.pool := rfl
@[simp] theorem State.modEe_cu (s : State) (f : ExportEngine → ExportEngine) : (s.modEe f).cu = s.cu := rfl
@[simp] theorem State.modEe_cl (s : State) (f : ExportEngine → ExportEngine) : (s.modEe f).cl = s.cl := rfl
@[simp] theorem State.modEe_writeQueue (s : State) (f : ExportEngine → ExportEngine) : (s.modEe f).writeQueue = s.writeQueue := rfl
@[simp] theorem State.modEe_am (s : State) (f : ExportEngine → ExportEngine) : (s.modEe f).am = s.am := rfl
@[simp] theorem State.modEe_sp (s : State) (f : ExportEngine → ExportEngine) : (s.modEe f).sp = s.sp := rfl
@[simp] theorem State.modEe_triggers (s : State) (f : ExportEngine → ExportEngine) : (s.modEe f).triggers = s.triggers := rfl
@[simp] theorem State.modEe_ee (s : State) (f : ExportEngine → ExportEngine) : (s.modEe f).ee = f s.ee := rfl
@[simp] theorem State.modEe_lc (s : State) (f : ExportEngine → ExportEngine) : (s.modEe f).lc = s.lc := rfl
@[simp] theorem State.modEe_pending (s : State) (f : ExportEngine → ExportEngine) : (s.modEe f).pending = s.pending := rfl

@[simp] theorem State.modLc_part (s : State) (f : Line → Line) : (s.modLc f).part = s.part := rfl
@[simp] theorem State.modLc_tb (s : State) (f : Line → Line) : (s.modLc f).tb = s.tb := rfl
@[simp] theorem State.modLc_feedBytes (s : State) (f : Line → Line) : (s.modLc f).feedBytes = s.feedBytes := rfl
@[simp] theorem State.modLc_feedLost (s : State) (f : Line → Line) : (s.modLc f).feedLost = s.feedLost := rfl
@[simp] theorem State.modLc_services (s : State) (f : Line → Line) : (s.modLc f).services = s.services := rfl
@[simp] theorem State.modLc_pool (s : State) (f : Line → Line) : (s.modLc f).pool = s.pool := rfl
@[simp] theorem State.modLc_cu (s : State) (f : Line → Line) : (s.modLc f).cu = s.cu := rfl
@[simp] theorem State.modLc_cl (s : State) (f : Line → Line) : (s.modLc f).cl = s.cl := rfl
@[simp] theorem State.modLc_writeQueue (s : State) (f : Line → Line) : (s.modLc f).writeQueue = s.writeQueue := rfl
@[simp] theorem State.modLc_am (s : State) (f : Line → Line) : (s.modLc f).am = s.am := rfl
@[simp] theorem State.modLc_sp (s : State) (f : Line → Line) : (s.modLc f).sp = s.sp := rfl
@[simp] theorem State.modLc_triggers (s : State) (f : Line → Line) : (s.modLc f).triggers = s.triggers := rfl
@[simp] theorem State.modLc_ee (s : State) (f : Line → Line) : (s.modLc f).ee = s.ee := rfl
@[simp] theorem State.modLc_lc (s : State) (f : Line → Line) : (s.modLc f).lc = f s.lc := rfl
@[simp] theorem State.modLc_pending (s : State) (f : Line → Line) : (s.modLc f).pending = s.pending := rfl

@[simp] theorem State.modPool_svc (s : State) (f : Pool → Pool) (i : Nat) : (s.modPool f).svc i = s.svc i := rfl
@[simp] theorem State.modCu_svc (s : State) (f : Compliance → Compliance) (i : Nat) : (s.modCu f).svc i = s.svc i := rfl
@[simp] theorem State.modCl_svc (s : State) (f : LogState → LogState) (i : Nat) : (s.modCl f).svc i = s.svc i := rfl
@[simp] theorem State.modTb_svc (s : State) (f : TimeBase → TimeBase) (i : Nat) : (s.modTb f).svc i = s.svc i := rfl
@[simp] theorem State.modAm_svc (s : State) (f : Archive → Archive) (i : Nat) : (s.modAm f).svc i = s.svc i := rfl
@[simp] theorem State.modSp_svc (s : State) (f : StoragePort → StoragePort) (i : Nat) : (s.modSp f).svc i = s.svc i := rfl
@[simp] theorem State.modLc_svc (s : State) (f : Line → Line) (i : Nat) : (s.modLc f).svc i = s.svc i := rfl
@[simp] theorem State.modEe_svc (s : State) (f : ExportEngine → ExportEngine) (i : Nat) : (s.modEe f).svc i = s.svc i := rfl

/-- A service's update reads back at that service, when it exists. -/
theorem State.modSvc_svc_same (s : State) (i : Nat) (f : Service → Service) (h : i < s.services.length) :
    (s.modSvc i f).svc i = f (s.svc i) := by
  simp [State.svc, State.modSvc, List.getD_eq_getElem?_getD, h]

/-- A service's update leaves the other services. -/
theorem State.modSvc_svc_other (s : State) {i j : Nat} (f : Service → Service) (h : i ≠ j) :
    (s.modSvc i f).svc j = s.svc j := by
  simp [State.svc, State.modSvc, List.getD_eq_getElem?_getD, h]

/-- A service that does not exist is not changed. -/
theorem State.modSvc_absent (s : State) (i : Nat) (f : Service → Service) (h : s.services.length ≤ i) :
    s.modSvc i f = s := by
  have : s.services.modify i f = s.services := List.modify_eq_self h
  simp [State.modSvc, this]

end Sys2Proof.Machine
end

