-- ==== Sys2Proof/Laws/Core.lean ====
section
/-! SUPPORT. What the shared operations of the log, the holds and the end of an event leave unchanged, said once. -/

namespace Sys2Proof.Machine

theorem SameCore.refl (s : State) : SameCore s s := by constructor <;> rfl

theorem SameCore.trans {s t u : State} (h : SameCore s t) (k : SameCore t u) : SameCore s u := by
  constructor <;> first
    | exact k.part.trans h.part | exact k.tb.trans h.tb | exact k.feedBytes.trans h.feedBytes | exact k.feedLost.trans h.feedLost | exact k.services.trans h.services
    | exact k.writeQueue.trans h.writeQueue | exact k.sp.trans h.sp | exact k.triggers.trans h.triggers
    | exact k.pending.trans h.pending | exact k.free.trans h.free | exact k.conditions.trans h.conditions
    | exact k.boot.trans h.boot | exact k.cursorSeq.trans h.cursorSeq | exact k.cursorPart.trans h.cursorPart
    | exact k.nextPage.trans h.nextPage | exact k.capacity.trans h.capacity | exact k.hasTable.trans h.hasTable
    | exact k.extents.trans h.extents | exact k.freeList.trans h.freeList | exact k.order.trans h.order
    | exact k.nextCompletion.trans h.nextCompletion | exact k.lowWater.trans h.lowWater
    | exact k.bootCounter.trans h.bootCounter | exact k.rstPending.trans h.rstPending
    | exact k.rstReplyEnded.trans h.rstReplyEnded | exact k.mount.trans h.mount
    | exact k.mountStart.trans h.mountStart | exact k.profilesLoaded.trans h.profilesLoaded
    | exact k.waiting.trans h.waiting | exact k.current.trans h.current | exact k.fault.trans h.fault
    | exact k.crOnly.trans h.crOnly | exact k.watches.trans h.watches

theorem pushReport_same (r : Text) (s : State) : SameCore s (pushReport r s) := by
  constructor <;> first | rfl | (simp only [pushReport, State.modLc]; split <;> rfl)

theorem logTake_same (svc : Option Nat) (b : Body) (s : State) : SameCore s (logTake svc b s) := by
  unfold logTake
  split
  · exact .refl s
  · exact SameCore.trans (by constructor <;> rfl) (pushReport_same _ _)

theorem logReserve_same (n : Nat) (s : State) : SameCore s (logReserve n s) := by
  unfold logReserve
  split
  · constructor <;> rfl
  · exact .refl s

/-- A group for which the numbers suffice is what its rule does (R121). -/
theorem grouped_fits (f : State → State) (s : State) (h : entriesOf f s ≤ Config.lastSequence - s.cl.lastSeq) :
    grouped f s = f s := by
  simp [grouped, logReserve, Nat.not_lt.mpr h]

/-- A group leaves unchanged what its rule does. -/
theorem grouped_same {f : State → State} (h : ∀ t, SameCore t (f t)) (s : State) : SameCore s (grouped f s) :=
  (logReserve_same _ _).trans (h _)

theorem markDirty_same (p : Nat) (s : State) : SameCore s (s.markDirty p) := by constructor <;> rfl

/-- The lower end of a hold's range never lies above the upper (R155). -/
theorem holdRange_ordered (lo hi : Nat) : (holdRange lo hi).1 ≤ (holdRange lo hi).2 := by
  unfold holdRange
  split
  · assumption
  · simp only; omega

/-- Missing time stays a 48-bit count (R34). -/
theorem nextMissing_lt (n : Nat) : nextMissing n < 2 ^ 48 := by
  unfold nextMissing Config.tickModulus
  split
  · assumption
  · exact Nat.mod_lt _ (by decide)

/-- The next completion sequence lies in 1..4,294,967,295 (section 8.2). -/
theorem completionAfter_range (n : Nat) : 1 ≤ completionAfter n ∧ completionAfter n ≤ 4294967295 := by
  unfold completionAfter Config.lastCompletion
  split
  · omega
  · have := Nat.mod_lt (Config.unstatedCompletion n) (show 4294967295 > 0 by decide)
    omega

/-- A request with its ends in order gives the hold its own range (R106, R159, R164). -/
theorem holdRange_eq (lo hi : Nat) (h : lo ≤ hi) : holdRange lo hi = (lo, hi) := by simp [holdRange, h]

theorem requestHold_same (r : HoldRequest) (s : State) : SameCore s (requestHold r s).1 := by
  unfold requestHold
  split
  · exact logTake_same _ _ _
  · exact SameCore.trans (SameCore.trans (by constructor <;> rfl) (logTake_same _ _ _)) (markDirty_same _ _)

theorem dropHold_same (h : Hold) (expired : Bool) (s : State) : SameCore s (dropHold h expired s) := by
  unfold dropHold
  exact SameCore.trans (SameCore.trans (by constructor <;> rfl) (logTake_same _ _ _)) (markDirty_same _ _)

theorem actOnSlot_same (e : Entry) (s : State) (k : Nat) : SameCore s (actOnSlot e s k) := by
  unfold actOnSlot
  split
  · exact .refl s
  · split
    · have h (r : Text) (c : Prop) [Decidable c] : SameCore s (if c then s else pushReport r s) := by
        split
        · exact .refl s
        · exact pushReport_same _ _
      dsimp only
      split
      · exact h _ _
      · exact (h _ _).trans (requestHold_same _ _)
    · exact .refl s

theorem foldl_same {α : Type} (f : State → α → State) (h : ∀ s a, SameCore s (f s a)) (l : List α) (s : State) :
    SameCore s (l.foldl f s) := by
  induction l generalizing s with
  | nil => exact .refl s
  | cons a l ih => exact (h s a).trans (ih _)

theorem matchEntry_same (s : State) (e : Entry) : SameCore s (matchEntry s e) :=
  grouped_same (fun _ => foldl_same _ (actOnSlot_same e) _ _) s

theorem fanOut_same (s : State) : SameCore s (fanOut s) :=
  (foldl_same _ matchEntry_same _ _).trans (by constructor <;> rfl)

theorem startVerdict_same (s : State) : SameCore s (startVerdict s) := by
  unfold startVerdict
  split
  · constructor <;> rfl
  · exact .refl s

theorem endExport_same (o : ExportOutcome) (s : State) : SameCore s (endExport o s) := by
  unfold endExport
  split
  · exact .refl s
  · exact SameCore.trans (SameCore.trans (by constructor <;> rfl) (logTake_same _ _ _)) (pushReport_same _ _)

theorem abortExport_same (o : ExportOutcome) (s : State) : SameCore s (abortExport o s) := by
  unfold abortExport
  split
  · exact .refl s
  · split
    · constructor <;> rfl
    · exact endExport_same _ _

theorem offlineChange_same (s : State) : SameCore s (offlineChange s) := by
  unfold offlineChange
  split
  · exact SameCore.trans (SameCore.trans (by constructor <;> rfl) (logTake_same _ _ _)) (abortExport_same _ _)
  · exact .refl s

theorem endFlush_same (o : FlushOutcome) (s : State) : SameCore s (endFlush o s) := by
  have h : SameCore s (s.modAm Archive.flushDone) := by constructor <;> rfl
  unfold endFlush
  dsimp only
  split
  · exact h.trans (logTake_same _ _ _)
  · exact h

theorem flushStep_same (s : State) : SameCore s (flushStep s) := by
  unfold flushStep
  split
  · split
    · exact endFlush_same _ _
    · split
      · exact endFlush_same _ _
      · split
        · constructor <;> rfl
        · exact .refl s
  · exact .refl s

theorem startSending_same (s : State) : SameCore s (s.modLc Line.startSending) := by
  constructor <;> first
    | rfl
    | (simp only [State.modLc, Line.startSending]; split <;> first | rfl | (split <;> first | rfl | (split <;> first | rfl | (split <;> rfl))))

/-- What the end of an event never changes. -/
theorem settle_same (s : State) : SameCore s (settle s) :=
  (((((fanOut_same s).trans (startVerdict_same _)).trans (offlineChange_same _)).trans (flushStep_same _)).trans
    (fanOut_same _)).trans (startSending_same _)

/-- An entry of no service matches no trigger (R164). -/
theorem matchEntry_device {e : Entry} (h : e.service = none) (s : State) : matchEntry s e = s := by
  have one (t : State) (k : Nat) : actOnSlot e t k = t := by
    unfold actOnSlot
    split <;> simp [triggerMatches, h]
  have all (l : List Nat) (t : State) : l.foldl (actOnSlot e) t = t := by
    induction l with
    | nil => rfl
    | cons a l ih => simpa [one] using ih
  simp [matchEntry, grouped, all, entriesOf, State.modCl, logReserve]

theorem fanOut_device {s : State} (h : ∀ e ∈ s.cl.handed, e.service = none) :
    fanOut s = s.modCl fun c => { c with handed := [] } := by
  have all (l : List Entry) (t : State) (hl : ∀ e ∈ l, e.service = none) : l.foldl matchEntry t = t := by
    induction l with
    | nil => rfl
    | cons a l ih => simpa [matchEntry_device (hl a (by simp))] using ih fun e he => hl e (by simp [he])
  simp [fanOut, all _ _ h]

/-- The end of an event whose entries are of no service, with no OFL pending and no flush, leaves AM and the log ring. -/
theorem settle_archive {s : State} (h : ∀ e ∈ s.cl.handed, e.service = none) (ho : s.am.oflPending = false)
    (hf : s.am.flush = .idle) : (settle s).am = s.am ∧ (settle s).cl.ring = s.cl.ring := by
  have e : (startVerdict (fanOut s)).am = s.am ∧ (startVerdict (fanOut s)).cl = { s.cl with handed := [] } := by
    rw [fanOut_device h]
    unfold startVerdict
    split <;> exact ⟨rfl, rfl⟩
  have o : offlineChange (startVerdict (fanOut s)) = startVerdict (fanOut s) := by simp [offlineChange, e.1, ho]
  have g : flushStep (startVerdict (fanOut s)) = startVerdict (fanOut s) := by simp [flushStep, e.1, hf]
  have z : fanOut (startVerdict (fanOut s)) = startVerdict (fanOut s) := by
    have c : { (startVerdict (fanOut s)).cl with handed := [] } = (startVerdict (fanOut s)).cl := by rw [e.2]
    rw [fanOut_device (by simp [e.2])]
    simp [State.modCl, c]
  simp [settle, o, g, z, State.modLc, e]

theorem settle_svc (s : State) (i : Nat) : (settle s).svc i = s.svc i := by
  simp [State.svc, (settle_same s).services]

/-! ### The line's own fields -/

/-- The reply slot and the transmitter are not touched. -/
structure SameReply (s t : State) : Prop where
  reply : t.lc.reply = s.lc.reply
  sending : t.lc.sending = s.lc.sending

theorem SameReply.refl (s : State) : SameReply s s := by constructor <;> rfl

theorem SameReply.trans {s t u : State} (h : SameReply s t) (k : SameReply t u) : SameReply s u :=
  ⟨k.reply.trans h.reply, k.sending.trans h.sending⟩

theorem pushReport_reply (r : Text) (s : State) : SameReply s (pushReport r s) := by
  constructor <;> (simp only [pushReport, State.modLc]; split <;> rfl)

theorem logTake_reply (svc : Option Nat) (b : Body) (s : State) : SameReply s (logTake svc b s) := by
  unfold logTake
  split
  · exact .refl s
  · exact SameReply.trans (by constructor <;> rfl) (pushReport_reply _ _)

theorem grouped_reply {f : State → State} (h : ∀ t, SameReply t (f t)) (s : State) : SameReply s (grouped f s) := by
  unfold grouped logReserve
  split
  · exact SameReply.trans (by constructor <;> rfl) (h _)
  · exact h _

theorem markDirty_reply (p : Nat) (s : State) : SameReply s (s.markDirty p) := by constructor <;> rfl

theorem requestHold_reply (r : HoldRequest) (s : State) : SameReply s (requestHold r s).1 := by
  unfold requestHold
  split
  · exact logTake_reply _ _ _
  · exact SameReply.trans (SameReply.trans (by constructor <;> rfl) (logTake_reply _ _ _))
      (markDirty_reply _ _)

theorem actOnSlot_reply (e : Entry) (s : State) (k : Nat) : SameReply s (actOnSlot e s k) := by
  unfold actOnSlot
  split
  · exact .refl s
  · split
    · have h (r : Text) (c : Prop) [Decidable c] : SameReply s (if c then s else pushReport r s) := by
        split
        · exact .refl s
        · exact pushReport_reply _ _
      dsimp only
      split
      · exact h _ _
      · exact (h _ _).trans (requestHold_reply _ _)
    · exact .refl s

theorem foldl_reply {α : Type} (f : State → α → State) (h : ∀ s a, SameReply s (f s a)) (l : List α) (s : State) :
    SameReply s (l.foldl f s) := by
  induction l generalizing s with
  | nil => exact .refl s
  | cons a l ih => exact (h s a).trans (ih _)

theorem fanOut_reply (s : State) : SameReply s (fanOut s) :=
  (foldl_reply _ (fun t e => grouped_reply (fun _ => foldl_reply _ (actOnSlot_reply e) _ _) t) _ _).trans (by constructor <;> rfl)

theorem startVerdict_reply (s : State) : SameReply s (startVerdict s) := by
  unfold startVerdict
  split <;> constructor <;> rfl

theorem endExport_reply (o : ExportOutcome) (s : State) : SameReply s (endExport o s) := by
  unfold endExport
  split
  · exact .refl s
  · exact SameReply.trans (SameReply.trans (by constructor <;> rfl) (logTake_reply _ _ _)) (pushReport_reply _ _)

theorem abortExport_reply (o : ExportOutcome) (s : State) : SameReply s (abortExport o s) := by
  unfold abortExport
  split
  · exact .refl s
  · split
    · constructor <;> rfl
    · exact endExport_reply _ _

theorem offlineChange_reply (s : State) : SameReply s (offlineChange s) := by
  unfold offlineChange
  split
  · exact SameReply.trans (SameReply.trans (by constructor <;> rfl) (logTake_reply _ _ _)) (abortExport_reply _ _)
  · exact .refl s

theorem endFlush_reply (o : FlushOutcome) (s : State) : SameReply s (endFlush o s) := by
  unfold endFlush
  dsimp only
  split
  · exact SameReply.trans (by constructor <;> rfl) (logTake_reply _ _ _)
  · constructor <;> rfl

theorem flushStep_reply (s : State) : SameReply s (flushStep s) := by
  unfold flushStep
  split
  · split
    · exact endFlush_reply _ _
    · split
      · exact endFlush_reply _ _
      · split <;> constructor <;> rfl
  · exact .refl s

/-- A reply in the slot of an IDLE transmitter begins to leave at the end of the event (R176). -/
theorem settle_sending (s : State) (r : Text) (hs : s.lc.sending = none) (hr : s.lc.reply = some r) :
    (settle s).lc.sending = some r ∧ (settle s).lc.reply = none := by
  have h : SameReply s (fanOut (flushStep (offlineChange (startVerdict (fanOut s))))) :=
    ((((fanOut_reply s).trans (startVerdict_reply _)).trans (offlineChange_reply _)).trans (flushStep_reply _)).trans
      (fanOut_reply _)
  simp [settle, Line.startSending, h.reply, h.sending, hs, hr]

/-- With nothing left to do, the end of an event is the transmitter's choice alone. -/
theorem settle_eq (s : State) (h : s.settled = true) : settle s = s.modLc Line.startSending := by
  simp only [State.settled, Bool.and_eq_true, Bool.not_eq_true', Bool.and_eq_false_imp, decide_eq_true_eq,
    List.isEmpty_iff] at h
  obtain ⟨⟨⟨h1, h2⟩, h3⟩, h4⟩ := h
  have f : fanOut s = s := by
    have e : { s.cl with handed := [] } = s.cl := by cases hc : s.cl; simp_all
    simp [fanOut, State.modCl, h1, e]
  have v : startVerdict s = s := by
    unfold startVerdict
    cases he : s.cu.engine <;> cases hq : s.cu.queue <;> simp_all
  have o : offlineChange s = s := by
    unfold offlineChange
    split
    · rename_i hh; simp_all
    · rfl
  have g : flushStep s = s := by
    unfold flushStep
    split
    · contradiction
    · rfl
  simp [settle, f, v, o, g]

/-- A still part stays as it is. -/
theorem settle_still (s : State) (h : s.still = true) : settle s = s := by
  simp only [State.still, Bool.and_eq_true, decide_eq_true_eq] at h
  rw [settle_eq s h.1]
  simp [State.modLc, h.2]

/-! ### Command records -/

/-- A record that a ready part receives is executed, and its reply begins to leave (R173, R176). -/
theorem verbRow_ready (i : Instr) (op : State → Answer) (s e : State) (r : Text) (h : s.ready = true)
    (hi : sendable i = true) (hop : op s = (e, some r)) (hr : fits r = true) :
    verbRow i op s = settle (putReply (e, some r)) := by
  simp only [State.ready, State.lineIdle, Bool.and_eq_true, decide_eq_true_eq, Bool.not_eq_true'] at h
  simp only [sendable, Bool.and_eq_true, decide_eq_true_eq, Option.isNone_iff_eq_none] at hi
  simp only [fits, decide_eq_true_eq] at hr
  obtain ⟨⟨h1, h2⟩, ⟨⟨⟨h3, h4⟩, h5⟩, h6⟩, h7⟩ := h
  have hl : s.lineFree (recordText i) = true := by simp [State.lineFree, h4, h5, h6, h7, hi.1]
  have hg : gate (verbOf i) s = none := by simp [gate, h1, h2]
  have hf : fitReply (verbOf i) s (e, some r) = (e, some r) := by
    simp [fitReply, Nat.not_lt.mpr hr]
  simp [verbRow, hl, runRecord, hg, hi.2, hop, hf]

/-- The reply of an executed record is what is sent next. -/
theorem verbRow_answered (i : Instr) (op : State → Answer) (s e : State) (r : Text) (h : s.ready = true)
    (hi : sendable i = true) (hop : op s = (e, some r)) (hr : fits r = true) (he : e.lc.sending = none) :
    (verbRow i op s).lc.sending = some r := by
  rw [verbRow_ready i op s e r h hi hop hr]
  exact (settle_sending _ r (by simp [putReply, he]) (by simp [putReply])).1

end Sys2Proof.Machine
end

