-- ==== Sys2Proof/Laws/Conditions.lean ====
section
/-! SUPPORT. What the taking of an entry and the opening or closing of a condition leave unchanged, and what they do to the
condition table (R109, R110, R120). -/

namespace Sys2Proof.Machine

/-- Only the log, the condition table and the report queue differ. -/
structure OnlyLog (s t : State) : Prop where
  part : t.part = s.part
  tb : t.tb = s.tb
  feedBytes : t.feedBytes = s.feedBytes
  feedLost : t.feedLost = s.feedLost
  services : t.services = s.services
  pool : t.pool = s.pool
  engine : t.cu.engine = s.cu.engine
  queue : t.cu.queue = s.cu.queue
  boot : t.cl.boot = s.cl.boot
  cursorSeq : t.cl.cursorSeq = s.cl.cursorSeq
  cursorPart : t.cl.cursorPart = s.cl.cursorPart
  nextPage : t.cl.nextPage = s.cl.nextPage
  writeQueue : t.writeQueue = s.writeQueue
  am : t.am = s.am
  sp : t.sp = s.sp
  triggers : t.triggers = s.triggers
  ee : t.ee = s.ee
  pending : t.pending = s.pending
  waiting : t.lc.waiting = s.lc.waiting
  current : t.lc.current = s.lc.current
  fault : t.lc.fault = s.lc.fault
  crOnly : t.lc.crOnly = s.lc.crOnly
  errors : t.lc.errors = s.lc.errors
  reply : t.lc.reply = s.lc.reply
  sending : t.lc.sending = s.lc.sending
  watches : t.lc.watches = s.lc.watches

theorem OnlyLog.refl (s : State) : OnlyLog s s := by constructor <;> rfl

theorem OnlyLog.trans {s t u : State} (h : OnlyLog s t) (k : OnlyLog t u) : OnlyLog s u := by
  constructor <;> first
    | exact k.part.trans h.part | exact k.tb.trans h.tb | exact k.feedBytes.trans h.feedBytes | exact k.feedLost.trans h.feedLost
    | exact k.services.trans h.services | exact k.pool.trans h.pool
    | exact k.engine.trans h.engine | exact k.queue.trans h.queue | exact k.boot.trans h.boot
    | exact k.cursorSeq.trans h.cursorSeq | exact k.cursorPart.trans h.cursorPart | exact k.nextPage.trans h.nextPage
    | exact k.writeQueue.trans h.writeQueue | exact k.am.trans h.am | exact k.sp.trans h.sp
    | exact k.triggers.trans h.triggers | exact k.ee.trans h.ee | exact k.pending.trans h.pending
    | exact k.waiting.trans h.waiting | exact k.current.trans h.current
    | exact k.fault.trans h.fault | exact k.crOnly.trans h.crOnly
    | exact k.errors.trans h.errors | exact k.reply.trans h.reply | exact k.sending.trans h.sending
    | exact k.watches.trans h.watches

theorem pushReport_only (r : Text) (s : State) : OnlyLog s (pushReport r s) := by
  constructor <;> first | rfl | (simp only [pushReport, State.modLc]; split <;> rfl)

/-- Taking an entry touches the log and the report queue alone (R120). -/
theorem logTake_only (svc : Option Nat) (b : Body) (s : State) : OnlyLog s (logTake svc b s) := by
  unfold logTake
  split
  · exact .refl s
  · exact OnlyLog.trans (by constructor <;> rfl) (pushReport_only _ _)

theorem logTake_conditions (svc : Option Nat) (b : Body) (s : State) :
    (logTake svc b s).cu.conditions = s.cu.conditions := (logTake_same svc b s).conditions

theorem logReserve_only (n : Nat) (s : State) : OnlyLog s (logReserve n s) := by
  unfold logReserve
  split
  · constructor <;> rfl
  · exact .refl s

/-- Opening a condition touches the log, the condition table and the report queue alone (R109). -/
theorem openCond_only (i : Nat) (c : CondClass) (k : Option Nat) (g : Option GapCause) (s : State) :
    OnlyLog s (openCond i c k g s) := by
  unfold openCond
  split
  · exact .refl s
  · exact OnlyLog.trans (by constructor <;> rfl) (logTake_only _ _ _)

/-- Closing a condition touches the log, the condition table and the report queue alone (R109). -/
theorem closeCond_only (i : Nat) (c : CondClass) (k : Option Nat) (g : CloseCause) (s : State) :
    OnlyLog s (closeCond i c k g s) := by
  unfold closeCond
  split
  · exact .refl s
  · exact OnlyLog.trans (by constructor <;> rfl) (logTake_only _ _ _)

/-- A service condition that opens stands last in the table with the tick of its report (R109). -/
theorem openCond_conditions (i : Nat) (c : CondClass) (k : Option Nat) (g : Option GapCause) (s : State)
    (he : (s.svc i).profile.enabled = true) (ho : s.isOpen (some i) c k = false) :
    (openCond i c k g s).cu.conditions = s.cu.conditions ++ [⟨c, some i, k, g, s.now, s.nextSeq⟩] := by
  simp [openCond, he, ho, logTake_conditions]

/-- A report of an opening for a disabled service, or for a condition that is open, changes nothing (R109). -/
theorem openCond_ignored (i : Nat) (c : CondClass) (k : Option Nat) (g : Option GapCause) (s : State)
    (h : (s.svc i).profile.enabled = false ∨ s.isOpen (some i) c k = true) : openCond i c k g s = s := by
  rcases h with h | h <;> simp [openCond, h]

/-- A closed condition stands in the table no longer (R109). -/
theorem closeCond_conditions (i : Nat) (c : CondClass) (k : Option Nat) (g : CloseCause) (s : State)
    (ho : s.isOpen (some i) c k = true) :
    (closeCond i c k g s).cu.conditions = s.cu.conditions.filter fun d => !d.named (some i) c k := by
  unfold closeCond
  split
  · rename_i h; simp [State.isOpen, h] at ho
  · simp [logTake_conditions]

/-- What taking an entry does to the log (R120, R121). -/
theorem logTake_cl (svc : Option Nat) (b : Body) (s : State) (h : s.cl.exhausted = false) :
    (logTake svc b s).cl = s.cl.take s.now (s.entryFor svc b) := by
  simp only [logTake, h]
  simp [pushReport]

/-- With the exhausted mark set nothing is taken (R121). -/
theorem logTake_exhausted (svc : Option Nat) (b : Body) (s : State) (h : s.cl.exhausted = true) : logTake svc b s = s := by
  simp [logTake, h]

/-- Taking an entry keeps the ring's account (R120 to R122). -/
theorem LogState.take_ringOk (c : LogState) (tick : Nat) (e : Entry) (hc : c.ringOk) (he : e.seq = c.lastSeq + 1)
    (hx : c.exhausted = false) : (c.take tick e).ringOk := by
  obtain ⟨h1, h2, h3, h4⟩ := hc
  have hl : c.lastSeq < Config.lastSequence := by
    rcases Nat.lt_or_ge c.lastSeq Config.lastSequence with h | h
    · exact h
    · have := h4 (Nat.le_antisymm h3 h); simp [hx] at this
  have key : (ringJoin c.ring e).length = min Config.ringEntries (c.lastSeq + 1) ∧
      (ringJoin c.ring e).map Entry.seq =
        List.range' (c.lastSeq + 1 + 1 - (ringJoin c.ring e).length) (ringJoin c.ring e).length := by
    unfold ringJoin
    split
    · rename_i h
      have hlen : c.ring.length = c.lastSeq := by omega
      constructor
      · simp only [List.length_append, List.length_singleton]; omega
      · simp only [List.map_append, h2, List.map_singleton, he, List.length_append, List.length_singleton, hlen,
          List.range'_concat]
        congr 2 <;> omega
    · rename_i h
      have hlen : c.ring.length = Config.ringEntries := by omega
      have hr : Config.ringEntries = 2048 := rfl
      constructor
      · simp only [List.length_append, List.length_drop, List.length_singleton]; omega
      · have gen (a m : Nat) : List.drop 1 (List.range' a (m + 1)) ++ [a + (m + 1)] = List.range' (a + 1) (m + 1) := by
          rw [List.range'_concat (s := a + 1), List.range'_succ]
          simp only [List.drop_succ_cons, List.drop_zero]
          congr 2; omega
        have g := gen (c.lastSeq + 1 - 2048) 2047
        have e1 : (List.drop 1 c.ring ++ [e]).length = 2048 := by
          simp only [List.length_append, List.length_drop, List.length_singleton]; omega
        have e2 : c.lastSeq + 1 - 2048 + 2048 = c.lastSeq + 1 := by omega
        have e3 : c.lastSeq + 1 + 1 - 2048 = c.lastSeq + 1 - 2048 + 1 := by omega
        rw [e1, e3, List.map_append, List.map_drop, h2, hlen, hr, List.map_singleton, he]
        rw [show (2047 + 1 : Nat) = 2048 from rfl, e2] at g
        exact g
  have hlast : (c.take tick e).lastSeq = c.lastSeq + 1 := rfl
  have hring : (c.take tick e).ring = ringJoin c.ring e := rfl
  have hex : (c.take tick e).exhausted = decide (c.lastSeq + 1 = Config.lastSequence) := rfl
  unfold LogState.ringOk
  rw [hlast, hring, hex]
  exact ⟨key.1, key.2, hl, fun h => decide_eq_true h⟩

end Sys2Proof.Machine
end

