-- ==== Sys2Proof/Laws/Feed.lean ====
section
/-! SUPPORT. What the arrival of bytes at the feed port does: one whole unit, and the rest of a unit in progress (R9,
R193). -/

namespace Sys2Proof.Machine

/-- A unit that reaches no block, a header that is not whole and one whose check holds are left as they are (R193). -/
theorem checkHeader_passed (bytes : List Byte) (s : State)
    (h : s.feedLost = true ∨ bytes.length < 8 ∨ (feedHeader bytes).checkOk = true) : checkHeader bytes s = s := by
  simp [checkHeader, h]

/-- A header whose check fails marks its unit as discarded, and is counted in RUN for an enabled service (R10, R193). -/
theorem checkHeader_failed (bytes : List Byte) (s : State) (hl : s.feedLost = false) (h8 : 8 ≤ bytes.length)
    (hc : (feedHeader bytes).checkOk = false) :
    checkHeader bytes s =
      { (settle (if s.part.state = .run ∧ s.knows (feedHeader bytes) then countDiscard (feedHeader bytes).service s else s))
        with feedLost := true } := by
  simp [checkHeader, hl, Nat.not_lt.mpr h8, hc]

/-- Bytes that spell no whole unit wait, their header checked. -/
theorem takeUnits_none (fuel : Nat) (bytes : List Byte) (s : State) (h : frontUnit bytes = none) :
    takeUnits (fuel + 1) bytes s = { checkHeader bytes s with feedBytes := bytes } := by
  simp [takeUnits, h]

/-- No bytes change nothing else. -/
theorem takeUnits_nil (fuel : Nat) (s : State) : takeUnits fuel [] s = { s with feedBytes := [] } := by
  cases fuel with
  | zero => rfl
  | succ n => rw [takeUnits_none _ _ _ (by simp [frontUnit]), checkHeader_passed [] s (by simp)]

/-- The front unit of a whole unit is that unit. -/
theorem frontUnit_whole (bytes : List Byte) (h : wholeUnit bytes = true) : frontUnit bytes = some bytes := by
  simp only [wholeUnit, decide_eq_true_eq] at h
  simp only [frontUnit, ← h]
  simp
  omega

/-- One whole unit on a port that holds no part of one is checked and taken, and nothing stays (R9). -/
theorem execFeedUnit_whole (bytes : List Byte) (s : State) (h : wholeUnit bytes = true) (hs : s.feedBytes = []) :
    execFeedUnit bytes s = .next { takeUnit bytes (checkHeader bytes s) with feedBytes := [] } := by
  obtain ⟨n, hn⟩ : ∃ n, bytes.length = n + 1 :=
    ⟨bytes.length - 1, by simp only [wholeUnit, decide_eq_true_eq] at h; omega⟩
  unfold execFeedUnit
  rw [hs, List.nil_append, List.length_nil, Nat.zero_add, hn, takeUnits]
  simp only [frontUnit_whole bytes h, List.drop_length, takeUnits_nil]

/-- Bytes that do not complete the unit in progress wait with it, its header checked as its 8th byte arrives (R9, R193).
-/
theorem execFeedUnit_part (bytes : List Byte) (s : State) (h : frontUnit (s.feedBytes ++ bytes) = none) :
    execFeedUnit bytes s =
      .next { checkHeader (s.feedBytes ++ bytes) s with feedBytes := s.feedBytes ++ bytes } := by
  unfold execFeedUnit
  rw [← List.length_append]
  cases hn : (s.feedBytes ++ bytes).length with
  | zero => rw [checkHeader_passed _ s (by omega), takeUnits]
  | succ n => rw [takeUnits_none _ _ _ h]

end Sys2Proof.Machine
end

