-- ==== Sys2Proof/Laws/PerInstr.lean ====
section
/-! SUPPORT. Statements about every command, constructor by constructor. -/

namespace Sys2Proof.Laws

open Sys2Proof.Machine

/-- A command is a record of one of the catalogue's verbs (section 10.7), or no record at all. -/
def Verb.Statement (i : Instr) : Prop := verbOf i = [] ∨ verbTable.contains (verbOf i) = true

theorem Verb.wordClockEdge (a0 : _) : Verb.Statement (.wordClockEdge a0) := .inl rfl
theorem Verb.dividerTick : Verb.Statement (.dividerTick) := .inl rfl
theorem Verb.holdoverEntry : Verb.Statement (.holdoverEntry) := .inl rfl
theorem Verb.hourBoundary : Verb.Statement (.hourBoundary) := .inl rfl
theorem Verb.feedUnit (a0 : _) : Verb.Statement (.feedUnit a0) := .inl rfl
theorem Verb.waitExpiry (a0 : _) : Verb.Statement (.waitExpiry a0) := .inl rfl
theorem Verb.audioTimeoutExpiry (a0 : _) : Verb.Statement (.audioTimeoutExpiry a0) := .inl rfl
theorem Verb.acquisitionWindowExpiry (a0 : _) (a1 : _) : Verb.Statement (.acquisitionWindowExpiry a0 a1) := .inl rfl
theorem Verb.carriageTimeoutExpiry (a0 : _) (a1 : _) : Verb.Statement (.carriageTimeoutExpiry a0 a1) := .inl rfl
theorem Verb.cueShow (a0 : _) : Verb.Statement (.cueShow a0) := .inl rfl
theorem Verb.cueEnd (a0 : _) (a1 : _) : Verb.Statement (.cueEnd a0 a1) := .inl rfl
theorem Verb.subGapOpen (a0 : _) (a1 : _) : Verb.Statement (.subGapOpen a0 a1) := .inl rfl
theorem Verb.adTimeOpen (a0 : _) : Verb.Statement (.adTimeOpen a0) := .inl rfl
theorem Verb.logBufferDue : Verb.Statement (.logBufferDue) := .inl rfl
theorem Verb.verdictCompletion : Verb.Statement (.verdictCompletion) := .inl rfl
theorem Verb.spGrant : Verb.Statement (.spGrant) := .inl rfl
theorem Verb.recordedWriteSuccess : Verb.Statement (.recordedWriteSuccess) := .inl rfl
theorem Verb.recordedWriteFailure : Verb.Statement (.recordedWriteFailure) := .inl rfl
theorem Verb.logPageWriteDone (a0 : _) : Verb.Statement (.logPageWriteDone a0) := .inl rfl
theorem Verb.directoryWriteDone (a0 : _) : Verb.Statement (.directoryWriteDone a0) := .inl rfl
theorem Verb.storageOperationTimeout : Verb.Statement (.storageOperationTimeout) := .inl rfl
theorem Verb.exportReadDone (a0 : _) : Verb.Statement (.exportReadDone a0) := .inl rfl
theorem Verb.exportFrameEnd : Verb.Statement (.exportFrameEnd) := .inl rfl
theorem Verb.lowSupplyAssert : Verb.Statement (.lowSupplyAssert) := .inl rfl
theorem Verb.lowSupplyDeassert : Verb.Statement (.lowSupplyDeassert) := .inl rfl
theorem Verb.powerOnReset : Verb.Statement (.powerOnReset) := .inl rfl
theorem Verb.pinReset : Verb.Statement (.pinReset) := .inl rfl
theorem Verb.rstResetApplied : Verb.Statement (.rstResetApplied) := .inl rfl
theorem Verb.probeEnd (a0 : _) : Verb.Statement (.probeEnd a0) := .inl rfl
theorem Verb.mountEnd (a0 : _) : Verb.Statement (.mountEnd a0) := .inl rfl
theorem Verb.formatEnd (a0 : _) : Verb.Statement (.formatEnd a0) := .inl rfl
theorem Verb.lineCharacter (a0 : _) (a1 : _) : Verb.Statement (.lineCharacter a0 a1) := .inl rfl
theorem Verb.lineBreak : Verb.Statement (.lineBreak) := .inl rfl
theorem Verb.transmitEnd : Verb.Statement (.transmitEnd) := .inl rfl
theorem Verb.watchDue (a0 : _) : Verb.Statement (.watchDue a0) := .inl rfl
theorem Verb.idn : Verb.Statement (.idn) := .inr (by decide : verbTable.contains (ascii "IDN") = true)
theorem Verb.sta (a0 : _) : Verb.Statement (.sta a0) := .inr (by decide : verbTable.contains (ascii "STA") = true)
theorem Verb.svs (a0 : _) (a1 : _) (a2 : _) : Verb.Statement (.svs a0 a1 a2) := .inr (by decide : verbTable.contains (ascii "SVS") = true)
theorem Verb.sve (a0 : _) : Verb.Statement (.sve a0) := .inr (by decide : verbTable.contains (ascii "SVE") = true)
theorem Verb.svd (a0 : _) : Verb.Statement (.svd a0) := .inr (by decide : verbTable.contains (ascii "SVD") = true)
theorem Verb.prf (a0 : _) (a1 : _) : Verb.Statement (.prf a0 a1) := .inr (by decide : verbTable.contains (ascii "PRF") = true)
theorem Verb.prq (a0 : _) (a1 : _) : Verb.Statement (.prq a0 a1) := .inr (by decide : verbTable.contains (ascii "PRQ") = true)
theorem Verb.wgt (a0 : _) (a1 : _) (a2 : _) (a3 : _) (a4 : _) (a5 : _) (a6 : _) : Verb.Statement (.wgt a0 a1 a2 a3 a4 a5 a6) := .inr (by decide : verbTable.contains (ascii "WGT") = true)
theorem Verb.tim (a0 : _) : Verb.Statement (.tim a0) := .inr (by decide : verbTable.contains (ascii "TIM") = true)
theorem Verb.tiq : Verb.Statement (.tiq) := .inr (by decide : verbTable.contains (ascii "TIQ") = true)
theorem Verb.mtr (a0 : _) : Verb.Statement (.mtr a0) := .inr (by decide : verbTable.contains (ascii "MTR") = true)
theorem Verb.log (a0 : _) (a1 : _) : Verb.Statement (.log a0 a1) := .inr (by decide : verbTable.contains (ascii "LOG") = true)
theorem Verb.lgc (a0 : _) : Verb.Statement (.lgc a0) := .inr (by decide : verbTable.contains (ascii "LGC") = true)
theorem Verb.lgn : Verb.Statement (.lgn) := .inr (by decide : verbTable.contains (ascii "LGN") = true)
theorem Verb.ack (a0 : _) : Verb.Statement (.ack a0) := .inr (by decide : verbTable.contains (ascii "ACK") = true)
theorem Verb.wch (a0 : _) (a1 : _) (a2 : _) (a3 : _) : Verb.Statement (.wch a0 a1 a2 a3) := .inr (by decide : verbTable.contains (ascii "WCH") = true)
theorem Verb.wcx (a0 : _) : Verb.Statement (.wcx a0) := .inr (by decide : verbTable.contains (ascii "WCX") = true)
theorem Verb.hld (a0 : _) (a1 : _) (a2 : _) (a3 : _) : Verb.Statement (.hld a0 a1 a2 a3) := .inr (by decide : verbTable.contains (ascii "HLD") = true)
theorem Verb.hlr (a0 : _) : Verb.Statement (.hlr a0) := .inr (by decide : verbTable.contains (ascii "HLR") = true)
theorem Verb.hlq (a0 : _) : Verb.Statement (.hlq a0) := .inr (by decide : verbTable.contains (ascii "HLQ") = true)
theorem Verb.trg (a0 : _) (a1 : _) (a2 : _) (a3 : _) (a4 : _) (a5 : _) : Verb.Statement (.trg a0 a1 a2 a3 a4 a5) := .inr (by decide : verbTable.contains (ascii "TRG") = true)
theorem Verb.trx (a0 : _) : Verb.Statement (.trx a0) := .inr (by decide : verbTable.contains (ascii "TRX") = true)
theorem Verb.exp (a0 : _) : Verb.Statement (.exp a0) := .inr (by decide : verbTable.contains (ascii "EXP") = true)
theorem Verb.xab : Verb.Statement (.xab) := .inr (by decide : verbTable.contains (ascii "XAB") = true)
theorem Verb.exq : Verb.Statement (.exq) := .inr (by decide : verbTable.contains (ascii "EXQ") = true)
theorem Verb.ofl : Verb.Statement (.ofl) := .inr (by decide : verbTable.contains (ascii "OFL") = true)
theorem Verb.onl : Verb.Statement (.onl) := .inr (by decide : verbTable.contains (ascii "ONL") = true)
theorem Verb.sav : Verb.Statement (.sav) := .inr (by decide : verbTable.contains (ascii "SAV") = true)
theorem Verb.fmt (a0 : _) : Verb.Statement (.fmt a0) := .inr (by decide : verbTable.contains (ascii "FMT") = true)
theorem Verb.rst : Verb.Statement (.rst) := .inr (by decide : verbTable.contains (ascii "RST") = true)
theorem Verb.ctq (a0 : _) (a1 : _) : Verb.Statement (.ctq a0 a1) := .inr (by decide : verbTable.contains (ascii "CTQ") = true)
theorem Verb.unknownVerb (a0 : _) : Verb.Statement (.unknownVerb a0) := .inl rfl

end Sys2Proof.Laws
end

