-- ==== Sys2Proof/Laws/Records.lean ====
section
/-! SUPPORT. Numbers as text, and the execution of a record whose reply leaves everything else settled. -/

namespace Sys2Proof.Machine

/-! ### Numbers as text -/

theorem digitsOf_length (fuel n : Nat) : (digitsOf fuel n).length ≤ fuel := by
  induction fuel generalizing n with
  | zero => simp [digitsOf]
  | succ f ih =>
    unfold digitsOf
    split
    · simp
    · have := ih (n / 10)
      simp only [List.length_append, List.length_singleton]
      omega

theorem digitsOf_bound (k fuel n : Nat) (h : n < 10 ^ (k + 1)) : (digitsOf fuel n).length ≤ k + 1 := by
  induction k generalizing fuel n with
  | zero =>
    cases fuel with
    | zero => simp [digitsOf]
    | succ f => simp only [Nat.zero_add, Nat.pow_one] at h; simp [digitsOf, h]
  | succ k ih =>
    cases fuel with
    | zero => simp [digitsOf]
    | succ f =>
      unfold digitsOf
      split
      · simp
      · have hd : n / 10 < 10 ^ (k + 1) := by
          rw [Nat.div_lt_iff_lt_mul (by decide)]
          rw [Nat.pow_succ] at h
          exact h
        have := ih f (n / 10) hd
        simp only [List.length_append, List.length_singleton]
        omega

theorem digitsOf_digit (fuel n : Nat) : ∀ c ∈ digitsOf fuel n, 48 ≤ c ∧ c ≤ 57 := by
  induction fuel generalizing n with
  | zero => simp [digitsOf]
  | succ f ih =>
    unfold digitsOf
    split
    · intro c hc
      simp only [List.mem_singleton] at hc
      omega
    · intro c hc
      simp only [List.mem_append, List.mem_singleton] at hc
      rcases hc with hc | hc
      · exact ih _ c hc
      · omega

theorem natText_length (n : Nat) : (natText n).length ≤ 40 := digitsOf_length 40 n

theorem natText_bound (k n : Nat) (h : n < 10 ^ (k + 1)) : (natText n).length ≤ k + 1 := digitsOf_bound k 40 n h

theorem natText_ne_nil (n : Nat) : natText n ≠ [] := by
  unfold natText digitsOf
  split <;> simp

/-- A number of at most 12 digits is a field in its form (R171). -/
theorem natText_fieldOk (n : Nat) (h : n < 10 ^ 12) : faultyField (natText n) = false := by
  have hd : ∀ c ∈ natText n, 48 ≤ c ∧ c ≤ 57 := digitsOf_digit 40 n
  have hl := natText_bound 11 n h
  cases ht : natText n with
  | nil => exact absurd ht (natText_ne_nil n)
  | cons a l =>
    rw [ht] at hd hl
    have ha := hd a (by simp)
    have h45 : a ≠ 45 := by omega
    have hall : ∀ c ∈ l, ¬ (c ≤ 32 ∨ 127 ≤ c) := by
      intro c hc
      have := hd c (by simp [hc])
      omega
    have hany : (a :: l).any (fun c => decide (c ≤ 32) || decide (127 ≤ c)) = false := by
      rw [List.any_eq_false]
      intro c hc
      rw [← ht] at hc
      have := digitsOf_digit 40 n c hc
      simp
      omega
    unfold faultyField
    rw [hany]
    split
    · rename_i hh
      simp only [List.cons.injEq] at hh
      omega
    · simp only [List.isEmpty_cons, Bool.or_self, Bool.false_or, Bool.and_eq_false_imp, decide_eq_false_iff_not]
      intro _
      omega

/-! ### Records -/

/-- An identifier inside its range passes test 4 (R173). -/
@[simp] theorem inRange_true (v : String) (sent : List Text) (k : Nat) (s : State) (a : Answer) :
    inRange v true sent k s a = a := rfl

/-- An identifier outside its range is refused with the value as sent (R173). -/
@[simp] theorem inRange_false (v : String) (sent : List Text) (k : Nat) (s : State) (a : Answer) :
    inRange v false sent k s a = deny v "RANGE" [sent.getD k []] s := rfl

theorem ready_parts {s : State} (h : s.ready = true) : s.lc.sending = none ∧ s.lc.reply = none ∧ s.lineIdle = true ∧
    s.part.state = .run ∧ s.am.rstPending = false := by
  simp only [State.ready, State.lineIdle, Bool.and_eq_true, decide_eq_true_eq, Bool.not_eq_true',
    Option.isNone_iff_eq_none] at h
  simp [State.lineIdle, h]

/-- A reply in the slot of an IDLE transmitter begins to be sent (R176). -/
theorem startSending_reply (l : Line) (r : Text) (hs : l.sending = none) (hr : l.reply = none) :
    ({ l with reply := some r } : Line).startSending = { l with sending := some r } := by
  cases l; simp_all [Line.startSending]

/-- A reply that leaves a settled part with an IDLE transmitter begins to be sent, and nothing else follows (R176). -/
theorem settle_replying (e : State) (r : Text) (h : e.settled = true) (hs : e.lc.sending = none)
    (hr : e.lc.reply = none) : settle (putReply (e, some r)) = e.replying r := by
  have hp : (putReply (e, some r)).settled = true := h
  rw [settle_eq _ hp]
  simp [putReply, State.modLc, State.replying, startSending_reply _ r hs hr]

/-- A record that a ready part receives, whose effect leaves it settled: its effect and its reply, and nothing else
(R173). -/
theorem verbRow_exact (i : Instr) (op : State → Answer) (s e : State) (r : Text) (h : s.ready = true)
    (hi : sendable i = true) (hop : op s = (e, some r)) (hr : fits r = true) (he : e.settled = true)
    (h1 : e.lc.sending = none) (h2 : e.lc.reply = none) : verbRow i op s = e.replying r := by
  rw [verbRow_ready i op s e r h hi hop hr, settle_replying e r he h1 h2]

end Sys2Proof.Machine
end

