-- ==== Sys2Proof/Laws/Table.lean ====
section
/-! SUPPORT. The laws of the sparse tables: what a read gives after a write, and that a write keeps the canonical form. -/

namespace Sys2Proof.Machine

variable {α : Type} [DecidableEq α] (dflt : α)

/-- A read of the key written gives the value written. -/
theorem tableGet_set_same (t : List (Nat × α)) (key : Nat) (val : α) (h : (t.map Prod.fst).Pairwise (· < ·)) :
    tableGet dflt (tableSet dflt t key val) key = val := by
  have far (l : List (Nat × α)) (hl : ∀ e ∈ l, key < e.1) : tableGet dflt l key = dflt := by
    induction l with
    | nil => rfl
    | cons e l ih =>
      have h1 := hl e (by simp)
      simp only [tableGet, if_neg (by omega : ¬ e.1 = key)]
      exact ih fun x hx => hl x (by simp [hx])
  induction t with
  | nil => by_cases hv : val = dflt <;> simp [tableSet, hv, tableGet]
  | cons e t ih =>
    obtain ⟨k, v⟩ := e
    simp only [List.map_cons, List.pairwise_cons, List.mem_map, forall_exists_index, and_imp] at h
    have hk : ∀ x ∈ t, k < x.1 := fun x hx => h.1 x.1 x hx rfl
    by_cases h1 : key < k
    · by_cases hv : val = dflt
      · simp only [tableSet, if_pos h1, if_pos hv]
        rw [hv]
        exact far _ fun x hx => by
          rcases List.mem_cons.mp hx with rfl | hx
          · exact h1
          · exact h1.trans (hk x hx)
      · simp [tableSet, h1, hv, tableGet]
    · by_cases h2 : key = k
      · subst h2
        by_cases hv : val = dflt
        · simp only [tableSet, if_neg h1, if_pos hv]
          rw [hv]
          exact far _ hk
        · simp [tableSet, hv, tableGet]
      · simp only [tableSet, if_neg h1, if_neg h2, tableGet, if_neg (Ne.symm h2)]
        exact ih h.2

/-- A read of another key gives what it gave. -/
theorem tableGet_set_other (t : List (Nat × α)) {key other : Nat} (val : α) (ho : other ≠ key)
    (h : (t.map Prod.fst).Pairwise (· < ·)) : tableGet dflt (tableSet dflt t key val) other = tableGet dflt t other := by
  induction t with
  | nil => by_cases hv : val = dflt <;> simp [tableSet, hv, tableGet, Ne.symm ho]
  | cons e t ih =>
    obtain ⟨k, v⟩ := e
    simp only [List.map_cons, List.pairwise_cons] at h
    simp only [tableSet]
    split
    · split <;> simp [tableGet, Ne.symm ho]
    · split
      · rename_i h2
        split <;> simp [tableGet, ← h2, Ne.symm ho]
      · simp only [tableGet]
        split
        · rfl
        · exact ih h.2

theorem tableSet_bound (t : List (Nat × α)) (key : Nat) (val : α) (b : Nat) (hk : b < key) (ht : ∀ e ∈ t, b < e.1) :
    ∀ e ∈ tableSet dflt t key val, b < e.1 := by
  induction t with
  | nil => intro e he; by_cases hv : val = dflt <;> simp_all [tableSet]
  | cons x t ih =>
    obtain ⟨k, v⟩ := x
    intro e he
    simp only [tableSet] at he
    have h1 : b < k := ht (k, v) (by simp)
    have h2 : ∀ y ∈ t, b < y.1 := fun y hy => ht y (by simp [hy])
    split at he
    · split at he
      · exact ht e he
      · rcases List.mem_cons.mp he with rfl | he
        · exact hk
        · exact ht e he
    · split at he
      · split at he
        · exact h2 e he
        · rcases List.mem_cons.mp he with rfl | he
          · exact hk
          · exact h2 e he
      · rcases List.mem_cons.mp he with rfl | he
        · exact h1
        · exact ih h2 e he

/-- A write keeps the canonical form: keys strictly rising, no entry equal to what an unlisted key reads as. -/
theorem tableSet_wf (t : List (Nat × α)) (key : Nat) (val : α) (h : tableWf dflt t = true) :
    tableWf dflt (tableSet dflt t key val) = true := by
  simp only [tableWf, Bool.and_eq_true, decide_eq_true_eq, List.all_eq_true] at h ⊢
  induction t with
  | nil => by_cases hv : val = dflt <;> simp [tableSet, hv]
  | cons e t ih =>
    obtain ⟨k, v⟩ := e
    obtain ⟨hp, hd⟩ := h
    simp only [List.map_cons, List.pairwise_cons, List.mem_map, forall_exists_index, and_imp] at hp
    have hk : ∀ x ∈ t, k < x.1 := fun x hx => hp.1 x.1 x hx rfl
    have hdt : ∀ x ∈ t, x.2 ≠ dflt := fun x hx => hd x (by simp [hx])
    have hdv : v ≠ dflt := hd (k, v) (by simp)
    have keep : (List.map Prod.fst ((k, v) :: t)).Pairwise (· < ·) := by
      simp only [List.map_cons, List.pairwise_cons, List.mem_map, forall_exists_index, and_imp]
      exact hp
    have front (b : Nat) (w : α) (l : List (Nat × α)) (hb : ∀ x ∈ l, b < x.1)
        (hl : (l.map Prod.fst).Pairwise (· < ·)) : (List.map Prod.fst ((b, w) :: l)).Pairwise (· < ·) := by
      simp only [List.map_cons, List.pairwise_cons, List.mem_map, forall_exists_index, and_imp]
      exact ⟨fun a x hx ha => ha ▸ hb x hx, hl⟩
    by_cases h1 : key < k
    · by_cases hv : val = dflt
      · simp only [tableSet, if_pos h1, if_pos hv]
        exact ⟨keep, fun x hx => hd x hx⟩
      · simp only [tableSet, if_pos h1, if_neg hv]
        refine ⟨front key val _ (fun x hx => ?_) keep, fun x hx => ?_⟩
        · rcases List.mem_cons.mp hx with rfl | hx
          · exact h1
          · exact h1.trans (hk x hx)
        · rcases List.mem_cons.mp hx with rfl | hx
          · exact hv
          · exact hd x hx
    · by_cases h2 : key = k
      · by_cases hv : val = dflt
        · simp only [tableSet, if_neg h1, if_pos h2, if_pos hv]
          exact ⟨hp.2, fun x hx => hdt x hx⟩
        · simp only [tableSet, if_neg h1, if_pos h2, if_neg hv]
          refine ⟨front key val _ (fun x hx => h2 ▸ hk x hx) hp.2, fun x hx => ?_⟩
          rcases List.mem_cons.mp hx with rfl | hx
          · exact hv
          · exact hdt x hx
      · simp only [tableSet, if_neg h1, if_neg h2]
        have r := ih ⟨hp.2, hdt⟩
        refine ⟨front k v _ (tableSet_bound dflt t key val k (by omega) hk) r.1, fun x hx => ?_⟩
        rcases List.mem_cons.mp hx with rfl | hx
        · exact hdv
        · exact r.2 x hx

end Sys2Proof.Machine
end

