-- ==== Sys2Proof/WellFormed.lean ====
section
/-! DEFINITION. Which commands are well formed: what the pins, ports and lines can deliver (sections 12.1, 12.2, R171). -/

namespace Sys2Proof

open Machine

/-- A command record meets R171 and its verb's form. -/
def recordOk (i : Instr) : Bool := decide ((recordText i).length ≤ Config.recordChars) && (syntaxFault i).isNone

def serviceIn (svc : Nat) : Bool := decide (svc < Config.serviceCount)
def slotIn (slot : Nat) : Bool := decide (slot < 4)

/-- A page holds at most 65,536 bytes (R131). -/
def pageIn (page : List Byte) : Bool := decide (page.length ≤ Config.pageBytes)

def answerIn : PageAnswer → Bool
  | .read page => pageIn page
  | .written | .failed => true

/-- A printable text of 1 to 160 characters whose verb field is malformed or names no verb. -/
def unknownText (t : Text) : Bool :=
  printableText t && decide (t.length ≤ Config.recordChars) && !verbTable.contains ((splitAt 32 t).headD [])

/-- The command is one that the part's surroundings can send. -/
def wellFormed : Instr → Bool
  | .wordClockEdge _ | .dividerTick | .holdoverEntry | .hourBoundary | .logBufferDue | .verdictCompletion | .spGrant
  | .recordedWriteSuccess | .recordedWriteFailure | .logPageWriteDone _ | .directoryWriteDone _
  | .storageOperationTimeout | .exportFrameEnd | .lowSupplyAssert | .lowSupplyDeassert | .powerOnReset | .pinReset
  | .rstResetApplied | .formatEnd _ | .lineCharacter _ _ | .lineBreak | .transmitEnd => true
  | .feedUnit bytes => decide (8 ≤ bytes.length)
  | .waitExpiry svc | .audioTimeoutExpiry svc | .cueShow svc | .adTimeOpen svc => serviceIn svc
  | .acquisitionWindowExpiry svc slot | .carriageTimeoutExpiry svc slot | .cueEnd svc slot | .subGapOpen svc slot =>
    serviceIn svc && slotIn slot
  | .exportReadDone page => (page.map pageIn).getD true
  | .probeEnd capacity => decide (capacity.getD 0 < 2 ^ 32)
  | .mountEnd answers => answers.all answerIn
  | .watchDue slot => decide (slot < 8)
  | .unknownVerb text => unknownText text
  | i@(.idn) | i@(.sta _) | i@(.svs ..) | i@(.sve _) | i@(.svd _) | i@(.prf ..) | i@(.prq ..) | i@(.wgt ..) | i@(.tim _)
  | i@(.tiq) | i@(.mtr _) | i@(.log ..) | i@(.lgc _) | i@(.lgn) | i@(.ack _) | i@(.wch ..) | i@(.wcx _) | i@(.hld ..)
  | i@(.hlr _) | i@(.hlq _) | i@(.trg ..) | i@(.trx _) | i@(.exp _) | i@(.xab) | i@(.exq) | i@(.ofl) | i@(.onl)
  | i@(.sav) | i@(.fmt _) | i@(.rst) | i@(.ctq ..) => recordOk i

end Sys2Proof
end

