-- ==== Sys2Proof/Tests/Slice0.lean ====
section
/-! SUPPORT. Tests: ill-formed commands that WellFormed refuses, worked figures of the spec, and for every statement with
hypotheses concrete states and operands that meet them. -/

namespace Sys2Proof.Tests

set_option Elab.async false

open Sys2Proof Sys2Proof.Machine

/-! ### WellFormed refuses -/

theorem test_wellFormed_refuses_short_unit : wellFormed (.feedUnit [0, 3, 1]) = false := by decide
theorem test_wellFormed_refuses_service_16 : wellFormed (.waitExpiry 16) = false := by decide
theorem test_wellFormed_refuses_slot_4 : wellFormed (.cueEnd 0 4) = false := by decide
theorem test_wellFormed_refuses_watch_8 : wellFormed (.watchDue 8) = false := by decide
theorem test_wellFormed_refuses_wide_capacity : wellFormed (.probeEnd (some (2 ^ 32))) = false := by decide
theorem test_wellFormed_refuses_long_page : wellFormed (.exportReadDone (some (List.replicate 65537 0))) = false := by
  decide +kernel
theorem test_wellFormed_refuses_long_mount_page :
    wellFormed (.mountEnd [.failed, .read (List.replicate 65537 0)]) = false := by decide +kernel
theorem test_wellFormed_refuses_known_verb_as_unknown : wellFormed (.unknownVerb (ascii "IDN")) = false := by decide
theorem test_wellFormed_refuses_unprintable_text : wellFormed (.unknownVerb [88, 7, 90]) = false := by decide
theorem test_wellFormed_refuses_long_record : wellFormed (.prq 3 (List.replicate 60 (ascii "TGT"))) = false := by
  decide +kernel
theorem test_wellFormed_refuses_key_without_value : wellFormed (.prf 3 []) = false := by decide
theorem test_wellFormed_refuses_number_of_13_digits : wellFormed (.tim (10 ^ 12)) = false := by decide

/-! ### Formats (R193, section 12.1, R20, chapters 2 and 3) -/

theorem test_header_example_of_R193 :
    feedHeader [0x00, 0x03, 0x01, 0x00, 0x00, 0x03, 0xC3, 0x36] = ⟨3, 1, 963, true⟩ := by decide

theorem test_rounding_example_of_R20 :
    sectionOutput ⟨2 ^ 27, 0, 0, 0, 0⟩ .zero 5 = 3 ∧ sectionOutput ⟨2 ^ 27, 0, 0, 0, 0⟩ .zero (-5) = -2 := by decide

/-- The tone of section 2.11: a quarter and a half of full scale. -/
theorem test_block_loudness_of_section_2_11 :
    blockLoudness 4 (1 * (2 * 256 * 4800 * 2 ^ 44)) 0 = some (-90) ∧
    blockLoudness 4 (4 * (2 * 256 * 4800 * 2 ^ 44)) 0 = some (-30) ∧ peakValue (2 ^ 22) = -60 := by decide +kernel

/-- Case 1 of section 3.6. -/
theorem test_integration_case_1_of_section_3_6 :
    thresholdBin [(300, 200), (370, 300), (470, 600)] (-100) = 347 ∧
    integrate [(300, 200), (370, 300), (470, 600)] (-100) = some (-245) := by decide +kernel

/-- The running value after sub-block 23 of section 2.11. -/
theorem test_running_value_of_section_2_11 :
    integrate [(610, 1), (640, 1), (657, 1), (670, 7)] (-100) = some (-37) := by decide +kernel

/-! ### States to speak of -/

/-- A part in RUN with its archive ONLINE, 1024 extents, extents 300 and 301 free. -/
def running : State :=
  { State.reset with
    part := ⟨.run, .power, false⟩
    am := { Archive.reset with state := .online, capacity := some 1024, hasTable := true, free := [300, 301], mount := .idle } }

/-- The running part at a tick, with one service changed. -/
def runningWith (tick i : Nat) (f : Service → Service) : State :=
  (running.modTb fun b => { b with stationTime := tick }).modSvc i f

/-- The profile of a service enabled with two channels and slots 0 and 2. -/
def enabledProfile : Profile := { Profile.default with enabled := true, channels := some 2, slotMask := 5 }

/-- A running part whose service 3 is enabled and LIVE. -/
def live : State := runningWith 1000000 3 fun v =>
  { v with profile := enabledProfile, feed := ⟨.live, 0, some 970000, 0, none⟩ }

/-- The outcome's state, or the state before. -/
def after (i : Instr) (s : State) : State :=
  match exec i s with
  | .next t => t
  | _ => s

/-- A feed unit with a correct header check. -/
def unitOf (svc kind : Nat) (body : List Byte) : List Byte :=
  let h := bytesOf 2 svc ++ bytesOf 1 kind ++ bytesOf 4 body.length
  h ++ bytesOf 1 ((256 - (h.map BitVec.toNat).sum % 256) % 256) ++ body

/-! ### Time base (the sequence after R4, R6, R7) -/

theorem test_edge_absorbed :
    (after (.wordClockEdge true) (running.modTb fun b =>
      { b with stationTime := 2000, dividerTicks := 3, lastTickDivider := true })).tb.stationTime = 2000 := by
  decide +kernel

/-- A second edge of the same half period is absorbed too (R2). -/
theorem test_second_edge_absorbed :
    (after (.wordClockEdge true) (after (.wordClockEdge true) (running.modTb fun b =>
      { b with stationTime := 2000, dividerTicks := 3, lastTickDivider := true }))).tb.stationTime = 2000 := by
  decide +kernel

/-- The return of the clock at 2000 in the sequence after R4: holdover 1452 ticks, 1500 divider ticks. -/
theorem test_ref_back_figures :
    ((after (.wordClockEdge true) (running.modTb fun b =>
      { b with stationTime := 2000, refState := .holdover, dividerTicks := 48, holdoverStart := 548,
               ticksSinceEdge := 1500, lastTickDivider := true })).cl.ring.map Entry.body) = [.refBack 1452 1500] := by
  decide +kernel

theorem test_ref_lost_at_548 :
    ((after .holdoverEntry (running.modTb fun b =>
      { b with stationTime := 548, dividerTicks := 48, lastEdge := 500 })).cl.ring.map Entry.body) = [.refLost 500] := by
  decide +kernel

theorem test_untimed_hour_boundary :
    (after .hourBoundary (running.modTb fun b => { b with stationTime := 172800000 })).tb.hour = ⟨1, false⟩ := by
  decide +kernel

/-- Untimed station time wraps to 0 in hour 0 (R1, R7). -/
theorem test_hour_of_the_wrap :
    (after .dividerTick (running.modTb fun b => { b with stationTime := 2 ^ 48 - 1, hour := ⟨1628906, false⟩ })).tb.hour =
      ⟨0, false⟩ := by decide +kernel

/-! ### Feed port (the sequence after R15) -/

theorem test_feed_expiry_at_1064000 :
    ((after (.audioTimeoutExpiry 3) (runningWith 1064000 3 fun v =>
      { v with profile := enabledProfile, feed := ⟨.live, 0, some 1040000, 0, none⟩ })).svc 3).feed.state = .lost := by
  decide +kernel

theorem test_five_channel_audio_is_counted :
    ((after (.feedUnit (unitOf 3 1 (bytesOf 2 1 ++ bytesOf 1 5 ++ zeros 15))) live).svc 3).feed =
      ⟨.live, 0, some 970000, 1, none⟩ := by decide +kernel

/-- A corrupt length moves where the next unit begins (R193): one that announces 9 bytes takes the header that follows. -/
theorem test_corrupt_length_shifts_units :
    (after (.feedUnit ([0, 3, 4, 0, 0, 0, 9, 0, 2] ++ unitOf 3 4 [2])) live).feedBytes = [2] ∧
    ((after (.feedUnit ([0, 3, 4, 0, 0, 0, 9, 0, 2] ++ unitOf 3 4 [2])) live).svc 3).feed.errors = 1 := by decide +kernel

/-! ### Records of the line -/

theorem test_idn_reply : (after .idn running).lc.sending = some (ascii "=IDN KALTRIN MODEGRA2416 4 RUN") := by decide +kernel

/-- The exchange of section 10.8. -/
theorem test_prf_clamps :
    (after (.prf 3 [(ascii "TGT", ascii "-450"), (ascii "FTO", ascii "50"), (ascii "CH", ascii "2")]) running).lc.sending =
      some (ascii "=PRF 3 TGT -400 FTO 100 CH 2 CLAMPED") := by decide +kernel

theorem test_sve_without_channels_is_refused :
    (after (.sve 3) running).lc.sending = some (ascii "!SVE STATE CHANNELS") := by decide +kernel

theorem test_line_spells_a_record :
    (deliver (ascii "WCX 8") running).lc.sending = some (ascii "!WCX RANGE 8") := by decide +kernel

theorem test_lower_case_verb_is_no_verb :
    (deliver (ascii "idn") running).lc.sending = some (ascii "!??? SYNTAX") := by decide +kernel

/-- A bare LF that finds the buffer full is an empty record, and is ignored (R171). -/
theorem test_empty_record_on_full_buffer :
    let s := running.modLc fun l =>
      { l with waiting := [List.replicate 127 ⟨65, false⟩, List.replicate 127 ⟨65, false⟩], sending := some [65] }
    s.lc.used = 256 ∧ after (.lineCharacter 10 false) s = s := by decide +kernel

/-- ONL while ONLINE with STORAGE_FAULT latched (R144, R152). -/
theorem test_onl_with_fault_latched :
    (after .onl (running.modSp fun p => { p with faultLatched := true })).lc.sending =
      some (ascii "!ONL STATE FAULT") := by decide +kernel

/-- An RST while the flush is FLUSHED applies at once (R192). -/
theorem test_rst_in_flushed :
    (after .rst (running.modAm fun a => { a with flush := .flushed })).part.state = .start := by decide +kernel

/-! ### Verdicts (section 6.6) -/

/-- Context 31: a PROMO at −232 against its reference of −245 fails AD_LOUD alone. -/
theorem test_verdict_of_context_31 :
    failedChecks
      { Context.reset with kind := .promo, blockCount := 420, reference := some (-245), maxShortTerm := some (-201), peak := -31 }
      ⟨31, 0, Profile.default, some (-232), false, []⟩ = [(.adLoud, none)] := by decide +kernel

/-- Context 30: SHORT, so that of its checks PEAK alone fails. -/
theorem test_verdict_of_context_30 :
    failedChecks
      { Context.reset with
        kind := .advert, blockCount := 24, reference := some (-245), peak := -8
        flags := { ContextFlags.clear with short := true, truncated := true } }
      ⟨30, 0, Profile.default, some (-251), false, []⟩ = [(.peak, none)] := by decide +kernel

/-! ### Capture triggers (section 9.4) -/

/-- The range and the keep-until of the hold that slot 0 asks for at wall second 7,200,300. -/
theorem test_trigger_hold_of_section_9_4 :
    rangeLow 7200300 120 = 7200180 ∧ rangeHigh 7200300 600 = 7200900 ∧ keepUntil 7200300 365 = some 38736300 := by
  decide

/-- A number outside its range is given back as sent, its leading zeros too (R173, test 4). -/
theorem test_range_gives_the_value_as_sent :
    (deliver (ascii "SVE 016") running).lc.sending = some (ascii "!SVE RANGE 016") ∧
    (deliver (ascii "LOG 1 009") running).lc.sending = some (ascii "!LOG RANGE 009") ∧
    (deliver (ascii "EXP L 4 00") running).lc.sending = some (ascii "!EXP RANGE 00") := by decide +kernel

/-- Check 1 is applied and counted at the 8th header byte, and the body is discarded with the unit (R193). -/
theorem test_check_1_at_the_eighth_byte :
    let s := after (.feedUnit [0, 3, 4, 0, 0, 0, 2, 0]) live
    ((s.svc 3).feed.errors = 1 ∧ s.feedLost = true) ∧
    (after (.feedUnit [9, 9]) s).feedLost = false ∧ ((after (.feedUnit [9, 9]) s).svc 3).feed.errors = 1 := by
  decide +kernel

/-- With one number left, the two entries of a TIM and those of an SVD are refused whole and set the mark (R6, R111,
R121). -/
theorem test_groups_are_refused_whole :
    let s := live.modCl fun c => { c with lastSeq := Config.lastSequence - 1 }
    (∀ i ∈ [Instr.tim 7200, .svd 3],
      (after i s).cl.lastSeq = Config.lastSequence - 1 ∧ (after i s).cl.exhausted = true) ∧
    (after (.svd 3) s).svc 3 = (after (.svd 3) live).svc 3 := by decide +kernel

/-- A hold's range is the request's own while its ends are in order (R106). -/
theorem test_hold_range : holdRange 7200180 7200900 = (7200180, 7200900) := by decide

/-- Missing time counts up to 2^48 - 1 (R34), and completion sequences up to 4,294,967,295 (section 8.2). -/
theorem test_counts_reach_their_last_values :
    nextMissing (2 ^ 48 - 2) = 2 ^ 48 - 1 ∧ completionAfter 4294967294 = 4294967295 := by decide +kernel

/-- A clear trigger slot is 16 bytes of 0; another event, service or window in one is outside its values (R186 step 4). -/
theorem test_clear_trigger_slot_is_tested :
    decodeTrigger (zeros 16) = some none ∧
    [[0, 9], [0, 0, 1], [0, 0, 0, 16], [0, 0, 0, 0, 4], [0, 0, 0, 0, 0, 0x27, 0x0F], [0, 0, 0, 0, 0, 0, 0, 2, 0x59]].map
      decodeTrigger = List.replicate 6 none := by decide +kernel

/-! ### Witnesses: states and operands that meet the hypotheses of the statements -/

/-- StepRunsFrontCommand, second clause. -/
theorem witness_StepRunsFrontCommand : running.pending = [] := by decide +kernel

/-- EdgeAdvancesOrIsAbsorbed: an edge near a divider tick, and one that is not. -/
theorem witness_EdgeAdvancesOrIsAbsorbed :
    let s := running.modTb fun b => { b with lastTickDivider := true }
    s.tb.refState = .locked ∧ (true = true ∧ s.tb.lastTickDivider = true) ∧
      ¬ (false = true ∧ s.tb.lastTickDivider = true) := by decide +kernel

/-- The probe has ended in START: the part is in MOUNT. -/
def mounting : State := after (.probeEnd (some 1024)) State.reset

/-- HoldoverBeginsAndEnds: 48 divider ticks and 47, and HOLDOVER in RUN and in MOUNT. -/
theorem witness_HoldoverBeginsAndEnds :
    let s := fun n => running.modTb fun b => { b with dividerTicks := n }
    let h := fun (u : State) => u.modTb fun b => { b with refState := .holdover, dividerTicks := 48 }
    ((s 48).tb.refState = .locked ∧ (s 48).tb.dividerTicks = 48) ∧
    ¬ ((s 47).tb.refState = .locked ∧ (s 47).tb.dividerTicks = 48) ∧
    ((h running).tb.refState = .holdover ∧ (h running).settled = true ∧ (h running).cl.exhausted = false ∧
      (h running).part.state = .run) ∧
    ((h mounting).tb.refState = .holdover ∧ (h mounting).settled = true ∧ (h mounting).cl.exhausted = false ∧
      (h mounting).part.state ≠ .run) := by decide +kernel

theorem witness_DividerTickAdvancesTime : running.services.length = 16 ∧ running.target 0 = none := by decide +kernel

/-- TickAccruesToTarget: service 15 with context 63 innermost, LOST; a divider tick, and an edge that is taken; a service
that is LIVE. -/
theorem witness_TickAccruesToTarget :
    let s := runningWith 5 15 fun v =>
      { v with feed := ⟨.lost, 0, none, 0, none⟩, st := ⟨[⟨7, .programme, .exempt, 0, none, some 63⟩], 0⟩ }
    15 < 16 ∧ s.services.length = 16 ∧ s.target 15 = some 63 ∧ 63 < s.pool.contexts.length ∧
      (∀ j, j < 16 → j ≠ 15 → s.target j ≠ some 63) ∧ ¬ (true = true ∧ s.tb.lastTickDivider = true) ∧
      (s.svc 15).feed.state = .lost ∧ (s.ctx 63).missing + 1 < 2 ^ 48 ∧ (live.svc 3).feed.state ≠ .lost := by decide +kernel

/-- HourBoundaryTurnsTallies: the tick of the first untimed boundary, and the tick after it; an enabled and a disabled
service; and the same tick in MOUNT. -/
theorem witness_HourBoundaryTurnsTallies :
    let s := runningWith 172800000 0 fun v => { v with profile := enabledProfile }
    let m := mounting.modTb fun b => { b with stationTime := 172800000 }
    s.services.length = 16 ∧ s.boundaryDue = true ∧ s.part.state = .run ∧ (s.svc 0).profile.enabled = true ∧
      (s.svc 15).profile.enabled = false ∧ (runningWith 172800001 0 id).boundaryDue = false ∧
      m.services.length = 16 ∧ m.boundaryDue = true ∧ m.part.state ≠ .run ∧ m.am.state ≠ .online ∧ m.settled = true := by
  decide +kernel

/-- A whole unit passes its header check and names its service. -/
def sound (bytes : List Byte) (svc : Nat) : Bool :=
  wholeUnit bytes && (feedHeader bytes).checkOk && decide ((feedHeader bytes).service = svc)

/-- FeedUnitIsDiscarded: a unit that is not whole; the rest of one that was arriving at a reset; a wrong header check; a
service above 15; a disabled service; kind codes 0 and 7; a CLEAR unit of 2 bytes; and fields outside their ranges (an
AUDIO unit of no frame, and one of another channel count), with a slot outside the mask. -/
theorem witness_FeedUnitIsDiscarded :
    ((live.feedBytes ++ [0, 3, 6]).length < 8 + (feedHeader (live.feedBytes ++ [0, 3, 6])).length ∧
      (live.feedBytes ++ [0, 3, 6]).length < 8) ∧
    (∀ b ∈ [live.feedBytes ++ [0, 3, 6, 0, 0, 0, 1, 0]],
      8 ≤ b.length ∧ b.length < 8 + (feedHeader b).length ∧ (feedHeader b).checkOk = false) ∧
    ((after .pinReset (after (.feedUnit [0, 3, 6]) live)).feedLost = true ∧
      wholeUnit ((after .pinReset (after (.feedUnit [0, 3, 6]) live)).feedBytes ++ [0, 0, 0, 1, 0, 9]) = true) ∧
    live.feedBytes = [] ∧ live.feedLost = false ∧ live.part.state = .run ∧ live.still = true ∧ (live.svc 3).profile.enabled = true ∧
    (wholeUnit [0, 3, 6, 0, 0, 0, 1, 0, 9] = true ∧ (feedHeader [0, 3, 6, 0, 0, 0, 1, 0, 9]).checkOk = false) ∧
    sound (unitOf 16 6 [9]) 16 = true ∧ sound (unitOf 2 6 [9]) 2 = true ∧ (live.svc 2).profile.enabled = false ∧
    (sound (unitOf 3 0 [9]) 3 = true ∧ (feedHeader (unitOf 3 0 [9])).kind < 1) ∧
    (sound (unitOf 3 7 [9]) 3 = true ∧ 6 < (feedHeader (unitOf 3 7 [9])).kind) ∧
    (sound (unitOf 3 3 [0, 0]) 3 = true ∧ ((unitOf 3 3 [0, 0]).drop 8).length ≠ 3) ∧
    (lengthFits 1 [0, 0, 2] = true ∧ fieldAt [0, 0, 2] 0 2 < 1) ∧
    (lengthFits 1 [0, 1, 1, 0, 0, 0] = true ∧ (live.svc 3).profile.channels ≠ some (fieldAt [0, 1, 1, 0, 0, 0] 2 1)) ∧
    (lengthFits 2 [0, 0, 9, 1, 0xF5, 0, 1, 1] = true ∧ 500 < fieldAt [0, 0, 9, 1, 0xF5, 0, 1, 1] 3 2) ∧
    (lengthFits 3 [4, 0, 9] = true ∧ 3 < fieldAt [4, 0, 9] 0 1) ∧
    (lengthFits 4 [1] = true ∧ (live.svc 3).profile.slotMask.testBit (fieldAt [1] 0 1) = false) ∧
    (lengthFits 5 [1, 7, 0, 0, 0, 1, 1] = true ∧ 6 < fieldAt [1, 7, 0, 0, 0, 1, 1] 1 1) := by decide +kernel

/-- An AUDIO unit of two frames on two channels for service 3. -/
def audio : List Byte := unitOf 3 1 [0, 2, 2, 0, 0, 5, 0xFF, 0xFF, 0xFE, 0x20, 0, 0, 0, 0, 1]

def audioFrames : List (List Int) := [[5, -2], [2097152, 1]]

/-- AudioMakesFeedLive: of a LOST service. -/
theorem witness_AudioMakesFeedLive :
    let s := live.modFeed 3 fun f => { f with state := .lost }
    s.takes audio 3 (.audio 2 audioFrames) = true ∧ (s.svc 3).feed.state = .lost := by decide +kernel

/-- Service 3 one frame short of a sub-block, with the powers of a ring, and context 63 as its credit target. -/
def filling (ring : List Nat) (weights : Nat) : State :=
  (live.modLe 3 fun l => { l with frameCount := 4799, ring := ring, silenceRun := 1199 }).modSvc 3 fun v =>
    { v with
      profile := { v.profile with weights := List.replicate 6 weights }
      st := ⟨[⟨7, .programme, .exempt, 0, none, some 63⟩], 0⟩ }

/-- AudioFillsSubBlocks: a filter that holds 6 channels; a unit within a sub-block; one that completes it with 29 powers
in the ring, loud and silent. -/
theorem witness_AudioFillsSubBlocks :
    (Loudness.reset.filters.length = 6 ∧ Loudness.reset.sums.length = 6 ∧ [5, -2].length ≤ 6) ∧
    (live.takes audio 3 (.audio 2 audioFrames) = true ∧ (live.svc 3).le.frameCount + audioFrames.length < 4800) ∧
    (∀ w ∈ [0, 256],
      (filling (List.replicate 29 0) w).takes audio 3 (.audio 2 audioFrames) = true ∧
        audioFrames = [[5, -2]] ++ [[2097152, 1]] ∧
        ((filling (List.replicate 29 0) w).svc 3).le.frameCount + [[(5 : Int), -2]].length = 4800) := by decide +kernel

/-- BlocksAndPeaksAreCredited: context 63, in use; a block with 3 powers before it and one with 29. -/
theorem witness_BlocksAndPeaksAreCredited :
    ∀ n ∈ [3, 29],
      let s := (filling (List.replicate n (2 ^ 60)) 256).modPool fun p => { p with free := List.range 63 }
      s.takes audio 3 (.audio 2 audioFrames) = true ∧ s.target 3 = some 63 ∧ 63 < s.pool.contexts.length ∧
        63 ∉ s.pool.free ∧ tableWf 0 (s.ctx 63).bins = true ∧ (s.svc 3).le.frameCount + [[(5 : Int), -2]].length = 4800 ∧
        3 ≤ (s.svc 3).le.ring.length ∧ s.settled = true ∧ s.noTriggers = true ∧ s.cl.exhausted = false := by decide +kernel

/-- FeedExpiryLosesFeed: each expiry at its due tick and one tick before it. -/
theorem witness_FeedExpiryLosesFeed :
    let w := fun tick => runningWith tick 15 fun v =>
      { v with profile := enabledProfile, feed := ⟨.waiting, 1000, none, 0, none⟩ }
    let a := fun tick => runningWith tick 15 fun v =>
      { v with profile := enabledProfile, feed := ⟨.live, 0, some 1000, 0, none⟩ }
    ((w 241000).svc 15).feed.waitDue 241000 = true ∧ ((w 240999).svc 15).feed.waitDue 240999 = false ∧
    ((a 25000).svc 15).feed.timeoutDue 25000 ((a 25000).svc 15).profile.feedTimeout = true ∧
    ((a 24999).svc 15).feed.timeoutDue 24999 ((a 24999).svc 15).profile.feedTimeout = false ∧
    (w 241000).services.length = 16 ∧ ((w 241000).svc 15).profile.enabled = true := by decide +kernel

/-- FilterSectionArithmetic: the quotients at both ends of saturation, and both ends of a sample. -/
theorem witness_FilterSectionArithmetic :
    (2 ^ 28 * (8388608 : Int) ≤ 2 ^ 28 * 8388608 + 2 ^ 27 ∧ 2 ^ 28 * (8388608 : Int) + 2 ^ 27 < 2 ^ 28 * (8388608 + 1)) ∧
    (2 ^ 28 * (-8388609 : Int) ≤ 2 ^ 28 * (-8388609) + 2 ^ 27 ∧
      2 ^ 28 * (-8388609 : Int) + 2 ^ 27 < 2 ^ 28 * (-8388609 + 1)) ∧
    (-8388608 : Int) ≤ -8388608 ∧ (8388607 : Int) ≤ 8388607 := by decide +kernel

/-- A stack of service 3: ADVERT 9 in context 2, BREAK 8 without one, PROGRAMME 7 in context 1. -/
def stacked : State :=
  ((live.modSt 3 fun _ =>
    ⟨[⟨9, .advert, .exempt, 500, none, some 2⟩, ⟨8, .brk, .exempt, 400, none, none⟩,
      ⟨7, .programme, .required, 0, none, some 1⟩], 0⟩).modPool fun p => { p with free := [0] }).modCu fun u =>
    { u with engine := some ⟨63, 1000000, Profile.default, none, true, []⟩ }

/-- StartMarkersOpenEntries: an id that stands, a fifth entry, an empty pool, and a free context. -/
theorem witness_StartMarkersOpenEntries :
    let full := stacked.modSt 3 fun t => { t with stack := ⟨6, .other, .exempt, 0, none, none⟩ :: t.stack }
    let none := stacked.modPool fun p => { p with free := [] }
    (∀ s ∈ [stacked, full, none], s.settled = true) ∧
    stacked.takes (unitOf 3 5 [1, 3, 0, 0, 0, 9, 3]) 3 (.markStart .advert 9 .none) = true ∧
    (∃ e ∈ (stacked.svc 3).st.stack, e.id = 9) ∧
    (full.takes (unitOf 3 5 [1, 3, 0, 0, 0, 5, 1]) 3 (.markStart .advert 5 (some .required)) = true ∧
      (∀ e ∈ (full.svc 3).st.stack, e.id ≠ 5) ∧ 4 ≤ (full.svc 3).st.stack.length) ∧
    (none.takes (unitOf 3 5 [1, 3, 0, 0, 0, 5, 1]) 3 (.markStart .advert 5 (some .required)) = true ∧
      none.pool.free = []) ∧
    (stacked.takes (unitOf 3 5 [1, 3, 0, 0, 0, 5, 1]) 3 (.markStart .advert 5 (some .required)) = true ∧
      (∀ e ∈ (stacked.svc 3).st.stack, e.id ≠ 5) ∧ (stacked.svc 3).st.stack.length < 4 ∧
      stacked.pool.free = 0 :: [] ∧ 0 < stacked.pool.contexts.length) := by decide +kernel

/-- EndMarkersCloseEntries: END of the outermost of three entries; of an id that does not stand, with and without an
overflow count. -/
theorem witness_EndMarkersCloseEntries :
    let nested := stacked.modSt 3 fun t => { t with overflow := 1 }
    stacked.takes (unitOf 3 5 [2, 1, 0, 0, 0, 7, 3]) 3 (.markEnd 7) = true ∧
    (stacked.svc 3).st.stack.findIdx? (fun e => decide (e.id = 7)) = some 2 ∧ stacked.cu.engine.isSome = true ∧
    (((stacked.svc 3).st.stack.take 3).filterMap StackEntry.context).Nodup ∧
    (∀ c ∈ ((stacked.svc 3).st.stack.take 3).filterMap StackEntry.context, c < stacked.pool.contexts.length) ∧
    (nested.takes (unitOf 3 5 [2, 1, 0, 0, 0, 5, 3]) 3 (.markEnd 5) = true ∧ (∀ e ∈ (nested.svc 3).st.stack, e.id ≠ 5) ∧
      0 < (nested.svc 3).st.overflow) ∧
    (stacked.takes (unitOf 3 5 [2, 1, 0, 0, 0, 5, 3]) 3 (.markEnd 5) = true ∧
      (∀ e ∈ (stacked.svc 3).st.stack, e.id ≠ 5) ∧ (stacked.svc 3).st.overflow = 0 ∧ stacked.settled = true ∧
      stacked.cl.exhausted = false) := by decide +kernel

/-- CarryUnitsMoveCarriage: slot 2 in each state of carriage. -/
theorem witness_CarryUnitsMoveCarriage :
    ∀ c ∈ [Carriage.absent, .acquiring, .carried, .lapsed],
      let s := live.modSlot 3 2 fun x => { x with carriage := c, windowCount := 2, lapsedOpen := decide (c = .lapsed) }
      s.takes (unitOf 3 4 [2]) 3 (.carry 2) = true ∧ (s.slot 3 2).carriage = c ∧
        (s.slot 3 2).lapsedOpen = decide (c = .lapsed) ∧ 2 < (s.svc 3).sc.slots.length := by decide +kernel

/-- CueAndClearUnitsAct: slot 2, id 9, at both ends of the offset; a queue of 16, with the cue and without it. -/
theorem witness_CueAndClearUnitsAct :
    let full := fun first => live.modSc 3 fun x =>
      { x with queue := (List.range 16).map fun k => ⟨2, first + k, 1000000 + k, 480, false⟩ }
    let cue := unitOf 3 2 [2, 0, 9, 0, 0, 0, 1, 0]
    (live.takes cue 3 (.cue 2 9 0 1 0) = true ∧ (live.svc 3).sc.queue = []) ∧
    live.takes (unitOf 3 2 [2, 0, 9, 1, 0xF4, 0x0B, 0xB8, 240]) 3 (.cue 2 9 500 3000 240) = true ∧
    ((full 0).takes cue 3 (.cue 2 9 0 1 0) = true ∧
      ((full 0).svc 3).sc.queue.any (fun d => decide (d.slot = 2 ∧ d.id = 9)) = true) ∧
    ((full 10).takes cue 3 (.cue 2 9 0 1 0) = true ∧
      ((full 10).svc 3).sc.queue.any (fun d => decide (d.slot = 2 ∧ d.id = 9)) = false ∧
      16 ≤ ((full 10).svc 3).sc.queue.length ∧ (full 10).settled = true ∧ (full 10).cl.exhausted = false) ∧
    live.takes (unitOf 3 3 [2, 0, 9]) 3 (.clear 2 9) = true := by decide +kernel

/-- CuesShowAndEnd: a cue at its show tick, with characters and blank, on a slot that shows nothing and on one that
shows; and another slot's cue at its end tick. -/
theorem witness_CuesShowAndEnd :
    ∀ blank ∈ [false, true], ∀ showing ∈ [none, some (⟨5, 2000000⟩ : Showing)],
      let c : Cue := ⟨0, 9, 1000000, 48000, blank⟩
      let s := ((live.modSc 3 fun x => { x with queue := [c] }).modSlot 3 2
        fun x => { x with showing := some ⟨8, 1000000⟩ }).modSlot 3 0 fun x => { x with showing := showing }
      s.services.length = 16 ∧ (s.svc 3).sc.slots.length = 4 ∧ c.slot < 4 ∧ (s.svc 3).sc.queue = c :: [] ∧
        c.blank = blank ∧ reached s.tb.stationTime c.showTick = true ∧ (s.slot 3 c.slot).showing = showing ∧
        (s.slot 3 2).showing = some ⟨8, 1000000⟩ ∧ reached s.tb.stationTime 1000000 = true := by decide +kernel

/-- DueTimersAndConditionsAct: a window of exactly 1 s, a carriage timeout at its tick, a gap of 60 s and one tick, and
advert ticks one above the limit. -/
theorem witness_DueTimersAndConditionsAct :
    let s := (live.modSlot 3 0 fun x => { x with carriage := .acquiring, windowStart := 952000 }).modSlot 3 2
      fun x => { x with carriage := .carried, lastCarry := some 904000 }
    let g := runningWith 2880001 3 fun v =>
      { v with
        profile := enabledProfile
        st := ⟨[⟨7, .programme, .required, 0, none, none⟩], 0⟩
        sc := { v.sc with requirement := some .required }
        tally := { v.tally with advertTicks := 720 * 48000 + 1 } }
    let u := g.modSlot 3 2 fun x => { x with carriage := .carried }
    ((s.slot 3 0).carriage = .acquiring ∧ 48000 ≤ elapsed s.tb.stationTime (s.slot 3 0).windowStart) ∧
    ((s.slot 3 2).carriage = .carried ∧ (s.slot 3 2).lastCarry = some 904000 ∧
      (s.svc 3).profile.carriageTimeout * 48000 ≤ elapsed s.tb.stationTime 904000 ∧
      (s.svc 3).sc.timeoutSet ≠ some s.tb.stationTime ∧ (s.svc 3).profile.enabled = true) ∧
    ((u.svc 3).profile.enabled = true ∧ u.gapDue 3 2 = true ∧
      (u.svc 3).profile.advertLimit * 48000 < (u.svc 3).tally.advertTicks ∧
      u.isOpen (some 3) .adTime none = false) := by decide +kernel

/-- An evaluation of context 63, with context 5 waiting. -/
def evaluating : State :=
  ((runningWith 101 3 id).modCtx 63 fun x => { x with state := .closed, service := 3, peak := 0 }).modCu fun u =>
    { u with queue := [5], engine := some ⟨63, 100, Profile.default, none, true, []⟩ }

/-- VerdictReleasesContext: the completion; a SHORT context and an UNMEASURED evaluation whose peak check fails; and an
integrated value. -/
theorem witness_VerdictReleasesContext :
    let x := { Context.reset with kind := .advert, peak := 0, flags := { ContextFlags.clear with short := true } }
    let e : Evaluation := ⟨0, 0, Profile.default, none, true, []⟩
    (evaluating.cu.engine = some ⟨63, 100, Profile.default, none, true, []⟩ ∧
      1 ≤ elapsed evaluating.tb.stationTime 100 ∧ 63 < evaluating.pool.contexts.length ∧
      (∀ c ∈ evaluating.cu.queue, c ≠ 63) ∧ evaluating.services.length = 16 ∧
      (evaluating.ctx 63).service < 16 ∧ evaluating.settled = true) ∧
    (x.flags.short = true ∧ e.unmeasured = true ∧ (Check.peak, none) ∈ failedChecks x e) ∧
    integrate [(470, 1)] (-100) = some (-230) := by decide +kernel

/-- The running part with one trigger, in slot 7. -/
def triggered (g : Trigger) : State := live.modTriggers fun l => l.modify 7 fun _ => some g

/-- TriggersMatchAndHoldsExpire: an entry of service 3, timed and untimed, before a slot that names it; AD_TIME over its
limit at a timed tick; a timed boundary with one hold due. -/
theorem witness_TriggersMatchAndHoldsExpire :
    let body : Body := .condOpen .deadAir none none
    let timed := fun (s : State) => s.modTb fun b => { b with anchor := some ⟨1000000, 7200⟩ }
    let reading := fun wall a => (triggered ⟨.condOpen .deadAir, none, a, 120, 600⟩).modCl fun c =>
      { c with handed := [⟨0, 1, 1000000, wall, some 3, body⟩] }
    let a := timed ((triggered ⟨.condOpen .adTime, some 3, .both, 0, 0⟩).modTally 3 fun t =>
      { t with advertTicks := 720 * 48000 + 1 })
    let h := timed (running.modAm fun x =>
      { x with holds := [⟨1, 3, 0, 9, .host, none, some 7200⟩, ⟨2, 3, 0, 9, .host, none, none⟩] })
    let b := h.modTb fun x => { x with stationTime := 1000000 }
    7 < 8 ∧ (reading none .hold).triggers =
      (List.replicate 8 none).modify 7 (fun _ => some ⟨.condOpen .deadAir, none, .hold, 120, 600⟩) ∧
    (reading none .hold).cl.handed = [⟨0, 1, 1000000, none, some 3, body⟩] ∧
    (timed (reading (some ⟨7200, 0⟩) .both)).holdTests
      ⟨3, 7200 - 120, min (7200 + 600) 4294967295, .trigger, some 1, 365, false⟩ = none ∧
    (reading none .report).lc.reports.length < 32 ∧
    (a.settled = true ∧ a.cl.exhausted = false ∧ (a.svc 3).profile.enabled = true ∧
      (a.svc 3).profile.advertLimit * 48000 < (a.svc 3).tally.advertTicks ∧ a.isOpen (some 3) .adTime none = false ∧
      a.wallNow = some ⟨7200, 0⟩ ∧ a.holdTests ⟨3, 7200, 7200, .trigger, some 1, 365, false⟩ = none) ∧
    (b.boundaryDue = true ∧ b.noTriggers = true ∧ (b.am.holds.map Hold.id).Nodup ∧ b.wallNow = some ⟨7200, 0⟩ ∧
      b.am.state = .online ∧ b.am.oflPending = false ∧ b.sp.faultLatched = false) := by decide +kernel

/-- Service 3 with a filling buffer that has room for 2 bytes. -/
def almostFull : State :=
  live.modRc 3 fun r => { r with filling := some ⟨3, 0, 0, none, none, none, List.replicate 65470 0, false, false⟩ }

/-- PayloadIsStagedOrLost: each case of R135, and a unit of 1, 2 and 3 bytes on a buffer with room for 2. -/
theorem witness_PayloadIsStagedOrLost :
    let unit := fun n => unitOf 3 6 (zeros n)
    let off := live.modProfile 3 fun p => { p with recording := false }
    let fault := live.modSp fun p => { p with faultLatched := true }
    let bare := live.modAm fun a => { a with state := .unavailable }
    let none := live.modQueue fun _ => List.replicate 64 ⟨3, 0, 0, none, none, none, [], false, false⟩
    (off.takes (unit 1) 3 (.payload (zeros 1)) = true ∧ (off.svc 3).profile.recording = false) ∧
    (fault.takes (unit 1) 3 (.payload (zeros 1)) = true ∧ (fault.svc 3).profile.recording = true ∧
      fault.am.rstPending = false ∧ fault.sp.faultLatched = true) ∧
    (bare.takes (unit 1) 3 (.payload (zeros 1)) = true ∧ bare.am.state = .unavailable) ∧
    (none.takes (unit 1) 3 (.payload (zeros 1)) = true ∧ (none.svc 3).rc.filling = .none ∧ none.freeBuffers = 0) ∧
    (∀ n ∈ [1, 2, 3], almostFull.takes (unit n) 3 (.payload (zeros n)) = true) ∧
    almostFull.sp.faultLatched = false ∧ almostFull.part.lowSupply = false ∧ almostFull.am.state = .online ∧
    1 < almostFull.freeBuffers ∧ (almostFull.svc 3).rc.filling.isSome = true := by decide +kernel

/-- SpGrantsByPriority: each of the four kinds of request. -/
theorem witness_SpGrantsByPriority :
    let b : Buffer := ⟨3, 1, 0, none, none, none, [1], false, false⟩
    let d := running.modAm fun a => { a with dirty := [1, 257] }
    let l := running.modCl fun c => { c with buffer := { c.buffer with state := .due } }
    let q := (running.modQueue fun _ => [b]).modAm fun a => { a with extents := [(400, ⟨.filling, 3, 0, none, 2, false⟩)] }
    let x : Export := ⟨1, .log, none, [⟨0, 1⟩], 0, 0, 0, 0, false, .waiting, none, none⟩
    let e := running.modEe fun g => { g with current := some x }
    (d.mayGrant = true ∧ d.cl.handed = [] ∧ d.am.dirty = 1 :: [257]) ∧
    (l.mayGrant = true ∧ l.cl.handed = [] ∧ l.am.dirty = [] ∧ l.logRequest = true) ∧
    (q.mayGrant = true ∧ q.cl.handed = [] ∧ q.am.dirty = [] ∧ q.logRequest = false ∧ q.writeQueue = b :: [] ∧
      q.fillingExtent b.service = some 400) ∧
    (e.mayGrant = true ∧ e.cl.handed = [] ∧ e.am.dirty = [] ∧ e.logRequest = false ∧ e.writeQueue = [] ∧
      e.ee.current = some x ∧ x.state = .waiting) := by decide +kernel

/-- PlacementReclaimsOnlyUnheldExtents: a free list of two, and an archive with no room and one held extent. -/
theorem witness_PlacementReclaimsOnlyUnheldExtents :
    let b : Buffer := ⟨3, 1, 0, none, none, none, [1], false, false⟩
    let q := running.modQueue fun _ => [b]
    let full := q.modAm fun a => { a with free := [] }
    let held := (full.modAm fun a =>
      { a with
        extents := [(400, ⟨.complete, 3, 1, some (5, 9), 2, false⟩)], order := [400]
        holds := [⟨1, 3, 9, 20, .host, none, none⟩] })
    (∀ s ∈ [q, full, held], s.mayGrant = true ∧ s.cl.handed = [] ∧ s.am.dirty = [] ∧ s.logRequest = false ∧
      s.writeQueue = b :: [] ∧ tableWf .free s.am.extents = true ∧
      (∀ x ∈ s.am.order, (s.extent x).state = .complete ∨ (s.extent x).state = .damaged) ∧
      s.fillingExtent b.service = none) ∧
    (q.am.free = 300 :: [301] ∧ 300 ∉ [301] ∧ 300 ∉ q.am.order) ∧
    (full.am.free = [] ∧ full.am.order = [] ∧ full.ee.current = none ∧ b.service < full.services.length) ∧
    (400 ∉ held.am.free ∧ 0 < held.holdCount 400) := by decide +kernel

/-- A page of service 3 in flight to page 15 of extent 400. -/
def writing : State :=
  (running.modAm fun a => { a with extents := [(400, ⟨.filling, 3, 0, none, 15, false⟩)] }).modSp fun p =>
    { p with operation := some (.recorded 400 15 ⟨3, 1, 0, none, none, none, [1], false, false⟩) }

theorem witness_RecordedWritesEnd :
    writing.sp.operation = some (.recorded 400 15 ⟨3, 1, 0, none, none, none, [1], false, false⟩) ∧
      tableWf .free writing.am.extents = true ∧ writing.sp.failures = 0 ∧
      (Buffer.mk 3 1 0 none none none [1] false false).retryMark = false ∧
      (writing.extent 400).pages + 1 = 16 ∧ writing.am.nextCompletion < 4294967295 := by decide +kernel

/-- LogAndDirectoryWritesEnd: log page 4095 in flight, directory page 258, and a FILLING log page buffer at 10 s. -/
theorem witness_LogAndDirectoryWritesEnd :
    let s := (runningWith 480100 0 id).modCl fun c =>
      { c with buffer := { c.buffer with state := .filling, firstTick := 100 } }
    (running.modSp fun p => { p with operation := some (.log 4095 1 [] false) }).sp.operation =
      some (.log 4095 1 [] false) ∧
    (running.modSp fun p => { p with operation := some (.directory 258 (.holds 1 [])) }).sp =
      ⟨some (.directory 258 (.holds 1 [])), 0, 0, false⟩ ∧
    s.cl.buffer.state = .filling ∧ 480000 ≤ elapsed s.tb.stationTime s.cl.buffer.firstTick := by decide +kernel

/-- FailuresLatchAndTimeOut: the second failure in a row, and an operation exactly 250 ms after its grant. -/
theorem witness_FailuresLatchAndTimeOut :
    let s := running.modSp fun p => { p with operation := some (.directory 0 (.holds 1 [])), failures := 1 }
    let u := (runningWith 12500 0 id).modSp fun p => { p with operation := some (.exportRead 32 0), grantTick := 500 }
    (s.sp.operation = some (.directory 0 (.holds 1 [])) ∧ s.sp.failures = 1 ∧ s.sp.faultLatched = false) ∧
    (∀ op ∈ [Operation.exportRead 32 0, .mountRead 0, .formatWrite 0 (.holds 1 [])],
      let v := u.modSp fun p => { p with operation := some op }
      v.sp.operation = some op ∧ 12000 ≤ elapsed v.tb.stationTime v.sp.grantTick) := by decide +kernel

/-- An export of two log pages, reading its first. -/
def exporting : State :=
  let x : Export := ⟨1, .log, none, [⟨0, 1⟩, ⟨1, 1⟩], 0, 0, 0, 0, false, .reading, none, none⟩
  (running.modEe fun g => { g with current := some x }).modSp fun p => { p with operation := some (.exportRead 32 0) }

/-- ExportFramesBeginAndEnd: a read that ends, the end of the first frame, and the end of the last. -/
theorem witness_ExportFramesBeginAndEnd :
    let s := after (.exportReadDone (some [1])) exporting
    let u := after (.exportReadDone none) (after .spGrant (after .exportFrameEnd s))
    (exporting.sp.operation = some (.exportRead 32 0) ∧ exporting.ee.current.isSome = true ∧
      exporting.ee.current.map Export.stop = some false ∧ exporting.am.oflPending = false) ∧
    (s.ee.current.map Export.state = some .sending ∧ s.ee.current.map Export.stop = some false ∧
      s.ee.current.map Export.abort = some none ∧ (s.ee.current.bind Export.frame).map Frame.last = some false ∧
      (s.ee.current.bind fun x => nextPage x.items x.position x.page) = some (1, 0) ∧ s.am.oflPending = false) ∧
    (u.ee.current.map Export.state = some .sending ∧ (u.ee.current.bind Export.frame).map Frame.last = some true ∧
      u.am.oflPending = false) := by decide +kernel

/-- FormatsOfTheLines: the first and last bit of the last byte. -/
theorem witness_FormatsOfTheLines : 1 < [(0x81 : Byte), 0x01].length ∧ 0 < 8 ∧ 7 < 8 := by decide

/-- SupplyStartsAndEndsFlush: ONLINE and OFFLINE at the assertion; at the deassertion FLUSHED, with and without an RST
pending, a supply flush, and a flush that an RST runs. -/
theorem witness_SupplyStartsAndEndsFlush :
    let o := running.modAm fun a => { a with state := .offline }
    let f := fun rst flush supply => (running.modPart fun p => { p with lowSupply := true }).modAm fun a =>
      { a with flush := flush, flushForSupply := supply, rstPending := rst }
    (∀ s ∈ [running, o], s.part.state = .run ∧ s.part.lowSupply = false ∧ s.am.flush = .idle ∧
      s.am.oflPending = false ∧ s.services.length = 16) ∧
    (∀ rst ∈ [false, true], ∀ supply ∈ [false, true], ∀ flush ∈ [FlushState.flushing, .flushed],
      (f rst flush supply).part.state = .run ∧ (f rst flush supply).part.lowSupply = true ∧
        (f rst flush supply).am.flush = flush ∧ (f rst flush supply).am.flushForSupply = supply ∧
        (f rst flush supply).am.rstPending = rst) := by decide +kernel

theorem witness_ResetsRestartThePart :
    let s := running.modAm fun a =>
      { a with rstPending := true, flush := .flushed, rstFlushed := true, rstReplyEnded := true }
    s.am.rstPending = true ∧ s.am.rstFlushed = true ∧ s.am.rstReplyEnded = true := by decide +kernel

/-- ProbeEndEntersMount: right after reset; capacities at both ends of the range and one extent outside each. -/
theorem witness_ProbeEndEntersMount :
    State.reset.part.state = .start ∧ State.reset.am.mount = .probing ∧ State.reset.still = true ∧
      State.reset.part.lowSupply = false ∧ State.reset.tb.refState = .locked ∧ State.reset.cl.exhausted = false ∧
      (1024 ≤ 1024 ∧ 1048576 ≤ 1048576) ∧ (1023 < 1024 ∨ 1048576 < 1023) ∧ (1048577 < 1024 ∨ 1048576 < 1048577) := by
  decide +kernel

/-- The directory of a device of 1024 extents: valid, with `x` as the record of extent 288. -/
def directoryWith (x : Extent) : DevicePages :=
  [(0, encodeHeader ⟨65535, true, 1024, 32, 7⟩), (1, zeros 4608 ++ encodeExtent x), (257, encodeHolds 1 []),
    (258, encodeSettings (List.replicate 16 Profile.default) (List.replicate 8 none))]

def devicePages : DevicePages := directoryWith .free

/-- Every page but the last has been read, or every one, and `op` is in flight. -/
def mountingAt (pages : DevicePages) (op : Operation) : State :=
  (mounting.modAm fun a => { a with mount := .reading pages }).modSp fun p => { p with operation := some op }

/-- Step 3 of R186 over a FILLING extent whose pages 0 and 1 are valid: page 2 is read too, then pages 257 and 258, then page
0 is written, and the extent becomes COMPLETE with 2 pages. -/
theorem test_mount_reads_filling_extents :
    let header := fun e page => PageAnswer.read ((recordedPage e page ⟨1, 0, page, none, none, none, [1], false, false⟩).take 64)
    let table := (directoryWith ⟨.filling, 1, 0, none, 0, false⟩).map fun p => PageAnswer.read p.2
    let s := after (.mountEnd (table.take 2 ++ [header 288 0, header 288 1, header 300 2])) mounting
    let t := after (.mountEnd (table.drop 2)) s
    s.sp.operation = some (.mountRead 257) ∧
    t.sp.operation = some (.mountWrite (.header 1 false 1024 32 7)) ∧
    ((after (.mountEnd [.written]) t).am.state = .online ∧ ((after (.mountEnd [.written]) t).extent 288).state = .complete ∧
      ((after (.mountEnd [.written]) t).extent 288).pages = 2) := by decide +kernel

/-- A clear trigger slot with pre-window 9999 ends the mount UNFORMATTED (R186 step 4). -/
theorem test_mount_tests_clear_slots :
    let page := fun pre => PageAnswer.read (encodeSettings (List.replicate 16 Profile.default) [] ++ zeros 5 ++ pre)
    let pages := ((directoryWith .free).take 3).map fun p => PageAnswer.read p.2
    (after (.mountEnd (pages ++ [page [0x27, 0x0F]])) mounting).am.state = .unformatted ∧
    (after (.mountEnd (pages ++ [page [2, 0x58]])) mounting).am.state = .mounting := by decide +kernel

/-- MountEndEntersRun: a read that another follows, the last read, an invalid header, a failure, and the write's success. -/
theorem witness_MountEndEntersRun :
    let s := mountingAt (devicePages.take 3) (.mountRead 258)
    let w := mountingAt devicePages (.mountWrite (.header 1 false 1024 32 7))
    (mounting.sp.operation = some (.mountRead 0) ∧ mounting.am.mount = .reading []) ∧
    (∀ u ∈ [mounting, s, w], u.part.state = .mount ∧ u.part.lowSupply = false ∧ u.am.capacity = some 1024 ∧
      u.am.oflPending = false ∧ u.am.flush = .idle ∧ u.still = true ∧ u.tb.refState = .locked ∧ u.cl.exhausted = false ∧
      u.cl.handed = []) := by decide +kernel

theorem witness_MountEndEntersRun_pages :
    (match mountNext 1024 (devicePages.take 1), mountNext 1024 devicePages, mountNext 1024 [(0, [])] with
      | .read 1, .write m, .unformatted => m.profiles[15]? == some Profile.default
      | _, _, _ => false) = true ∧ (mountTables 1024 devicePages).isSome = true := by decide +kernel

/-- MountEndEntersRun, a mount started by ONL: the last read and the write of page 0, up to the last two sequences. -/
theorem witness_MountEndEntersRun_onl :
    let s := fun pages op => ((running.modAm fun a => { a with state := .mounting, mount := .reading pages }).modSp fun p =>
      { p with operation := some op }).modCl fun c => { c with lastSeq := 4294967293 }
    ∀ u ∈ [s (devicePages.take 3) (.mountRead 258), s devicePages (.mountWrite (.header 65535 false 1024 32 7))],
      u.part.state = .run ∧ u.am.capacity = some 1024 ∧ u.am.oflPending = false ∧ u.am.flush = .idle ∧ u.cl.handed = [] ∧
      u.cl.exhausted = false ∧ u.cl.lastSeq + 2 ≤ 4294967295 := by decide +kernel

/-- A mount started by ONL leaves the boot counter and writes MOUNT_DONE and STORAGE_ONLINE (R186). -/
theorem test_onl_mount_ends_online :
    let s := (running.modAm fun a => { a with state := .mounting, mount := .reading devicePages }).modSp fun p =>
      { p with operation := some (.mountWrite (.header 65535 false 1024 32 7)) }
    let t := after (.mountEnd [.written]) s
    t.am.state = .online ∧ t.am.bootCounter = 65535 ∧ t.cl.boot = 0 ∧ t.cl.lastSeq = 2 := by decide +kernel

/-- FormatBuildsEmptyArchive: page 0 in flight, and page 258. -/
theorem witness_FormatBuildsEmptyArchive :
    let s := fun page => (running.modAm fun a => { a with state := .mounting, mount := .formatting }).modSp fun p =>
      { p with operation := some (.formatWrite page (.holds 1 [])) }
    (∀ page ∈ [0, 258], (s page).sp.operation = some (.formatWrite page (.holds 1 [])) ∧ (s page).am.capacity = some 1024 ∧
      (s page).am.oflPending = false ∧ (s page).am.flush = .idle ∧ (s page).cl.handed = [] ∧ (s page).still = true) ∧
    (List.map (formatPageAfter 1024) [0, 1, 257, 258] = [some 1, some 257, some 258, none]) := by decide +kernel

/-- CharacterJoinsRecord: a first character, a 161st one (a letter, a CR, an LF with a framing error), a 161st one that finds
all 256 positions in use, one that finds all 256 positions in use, a bare LF there, and a
character and an LF of a faulted record. -/
theorem witness_CharacterJoinsRecord :
    let s := running.modLc fun l => { l with current := List.replicate 160 ⟨65, false⟩ }
    let full := running.modLc fun l =>
      { l with waiting := [List.replicate 127 ⟨65, false⟩, List.replicate 127 ⟨65, false⟩], sending := some [65] }
    let bad := full.modLc fun l => { l with fault := some .overrun }
    let both := full.modLc fun l => { l with
      waiting := [List.replicate 95 ⟨65, false⟩], current := List.replicate 160 ⟨65, false⟩ }
    (∀ u ∈ [running, s, full, bad], u.still = true) ∧
    ((∀ u ∈ [running, s], u.lc.fault = none ∧ u.lc.used < 256) ∧ tooLong s.lc.current ⟨65, false⟩ = true ∧
      tooLong s.lc.current ⟨13, false⟩ = false ∧ tooLong s.lc.current ⟨10, true⟩ = true) ∧
    (¬ ((13 : Byte).toNat = 10 ∧ false = false) ∧ ¬ ((10 : Byte).toNat = 10 ∧ true = false)) ∧
    (both.still = true ∧ both.lc.fault = none ∧ both.lc.used = 256 ∧ tooLong both.lc.current ⟨65, false⟩ = true) ∧
    (full.lc.fault = none ∧ 256 ≤ full.lc.used ∧ full.lc.current = []) ∧
    (bad.lc.fault = some .overrun ∧ bad.lc.crOnly = false ∧ bad.lc.sending.isSome = true) ∧
    ¬ ((65 : Byte).toNat = 10 ∧ false = false) ∧ (10 : Byte).toNat = 10 := by decide +kernel

/-- LineBreakAndTransmitterOrder: no =RST reply stands; and the transmitter at the end of a record. -/
theorem witness_LineBreakAndTransmitterOrder :
    let s := running.modLc fun l => { l with sending := some (ascii "^T 0 5"), reports := [ascii "^T 0 6"], errors := [.long] }
    ¬ (running.lc.reply = some (ascii "=RST") ∧ running.am.rstPending = true) ∧
    s.lc.sending = some (ascii "^T 0 5") ∧ s.lc.waiting = [] ∧ s.settled = true ∧ s.am.rstPending = false := by
  decide +kernel

theorem witness_WatchReportsWhenDue :
    let s := (runningWith 48000 0 id).modLc fun l =>
      { l with watches := l.watches.modify 7 fun _ => some ⟨3, .mom, 10, 48000⟩, sending := some (ascii "^T 0 5") }
    s.lc.watches.getD 7 none = some ⟨3, .mom, 10, 48000⟩ ∧ reached s.tb.stationTime 48000 = true ∧ s.settled = true ∧
      s.lc.sending.isSome = true := by decide +kernel

/-- The statements about records of a ready part share these hypotheses. -/
theorem witness_ready_and_settled : running.ready = true ∧ running.settled = true ∧ running.lineIdle = true := by
  decide +kernel

/-- RefusedRecordsChangeNothing: the first service out of range, a verb that none is, and TIQ before RUN. -/
theorem witness_RefusedRecordsChangeNothing :
    (16 ≤ 16 ∧ 16 < 10 ^ 12 ∧ wellFormedVerb (ascii "XYZ") = true ∧ verbTable.contains (ascii "XYZ") = false) ∧
    (State.reset.lineIdle = true ∧ State.reset.settled = true ∧ State.reset.part.state ≠ .run ∧ verbOf .tiq ≠ [] ∧
      (recordText .tiq).length ≤ 160 ∧ verbOf .tiq ≠ ascii "IDN" ∧ verbOf .tiq ≠ ascii "STA" ∧
      verbOf .tiq ≠ ascii "RST") := by decide +kernel

theorem witness_TiqReturnsTimeBase : fits (accepted (ascii "TIQ") running.timeTexts) = true := by decide +kernel

/-- ReadoutsChangeNothing: each record on a running part with a hold, and with an entry in the log. -/
theorem witness_ReadoutsChangeNothing :
    let s := after (.tim 7200000) (running.modAm fun a => { a with holds := [⟨3, 2, 10, 20, .host, none, none⟩] })
    let u := s.modLc fun _ => Line.reset
    u.ready = true ∧ u.settled = true ∧
      (sendable (.mtr 15) = true ∧ fits (accepted (ascii "MTR") (u.meterTexts 15)) = true) ∧
      (sendable (.svs 0 none none) = true ∧ fits (accepted (ascii "SVS") (u.serviceTexts 0)) = true) ∧
      (sendable (.prq 0 [ascii "TGT"]) = true ∧ (keyOf (ascii "TGT")).isSome = true ∧
        fits (accepted (ascii "PRQ") [natText 0, ascii "TGT", ascii "-240"]) = true) ∧
      (sendable (.ctq 0 .stack) = true ∧ fits (accepted (ascii "CTQ") (u.stackTexts 0)) = true) ∧
      (sendable (.ctq 0 (.context 5 none)) = true ∧ (u.svc 0).st.stack.length < 5 ∧
        fits (words [ascii "!CTQ", ascii "NONE", natText 0]) = true) ∧
      (sendable (.hlq none) = true ∧
        u.am.holds.filter (fun g => decide (1 ≤ g.id)) = ⟨3, 2, 10, 20, .host, none, none⟩ :: [] ∧
        fits (accepted (ascii "HLQ") (u.holdTexts ⟨3, 2, 10, 20, .host, none, none⟩ [])) = true) ∧
      (sendable .exq = true ∧ fits (accepted (ascii "EXQ") u.exportTexts) = true) ∧
      (sendable (.log 1 none) = true ∧ 1 ≤ u.cl.lastSeq ∧ u.oldestHeld = some 1 ∧
        ((u.heldEntry 1).map fun e => (decide (1 ≤ e.parts.length), fits (e.partReply 1))) = some (true, true)) ∧
      fits (accepted (ascii "STA") (u.deviceTexts ++ [ascii "DROPPED"])) = true := by
  decide +kernel

theorem witness_SveEnablesService :
    let s := running.modProfile 15 fun p => { p with channels := some 6 }
    s.ready = true ∧ s.services.length = 16 ∧ (s.svc 15).profile.enabled = false ∧
      (s.svc 15).profile.channels.isSome = true := by decide +kernel

theorem witness_SvdDisablesService :
    live.ready = true ∧ live.services.length = 16 ∧ (live.svc 3).profile.enabled = true := by decide +kernel

/-- ProfileRecordsSetFields: the record of section 10.8; a value at, below and above the range of its field; a disabled
service and an enabled one with coefficients at both ends. -/
theorem witness_ProfileRecordsSetFields :
    let i : Instr := .prf 3 [(ascii "TGT", ascii "-450"), (ascii "CH", ascii "2")]
    (running.ready = true ∧ running.services.length = 16 ∧ sendable i = true ∧
      assignmentsOf [(ascii "TGT", ascii "-450"), (ascii "CH", ascii "2")] =
        .ok [⟨.tgt, ascii "TGT", .number (-450)⟩, ⟨.ch, ascii "CH", .number 2⟩] ∧
      (running.svc 3).profile.enabled = false ∧ Key.range .tgt = some (-400, -100) ∧
      fits (ascii "=PRF 3 TGT -400 CH 2 CLAMPED") = true) ∧
    ((-400 : Int) ≤ -400 ∧ (-100 : Int) ≤ -100 ∧ Profile.default.weights.length = 6 ∧
      Profile.default.kindDefaults.length = 6 ∧ Key.tgt ≠ Key.ch) ∧
    (live.ready = true ∧ live.settled = true ∧ (live.svc 3).profile.enabled = true ∧
      (∀ x ∈ [(-2147483648 : Int), 2147483647, 0, 1, -1], -2147483648 ≤ x ∧ x ≤ 2147483647)) := by decide +kernel

/-- PrfOfEnabledServiceActs: one record that changes the channel count, and one that takes slot 2 out, puts slot 1 in and
changes both timeouts, count-promos and the advert limit. -/
theorem witness_PrfOfEnabledServiceActs :
    let ch := [(ascii "CH", ascii "1")]
    let pairs := [(ascii "SLOTS", ascii "3"), (ascii "FTO", ascii "100"), (ascii "CTO", ascii "30"),
      (ascii "PRC", ascii "1"), (ascii "ADL", ascii "0")]
    let s := live.modSlot 3 2 fun x => { x with carriage := .lapsed, showing := some ⟨1, 2⟩ }
    (s.ready = true ∧ s.settled = true ∧ s.services.length = 16 ∧ (s.svc 3).sc.slots.length = 4 ∧
      (s.svc 3).profile.enabled = true) ∧
    (sendable (.prf 3 ch) = true ∧ assignmentsOf ch = .ok [⟨.ch, ascii "CH", .number 1⟩] ∧
      (assign [⟨.ch, ascii "CH", .number 1⟩] (s.svc 3).profile).channels ≠ (s.svc 3).profile.channels) ∧
    (sendable (.prf 3 pairs) = true ∧
      (match assignmentsOf pairs with
        | .error _ => false
        | .ok as =>
          let p := assign as (s.svc 3).profile
          decide (p.channels = some 2 ∧ p.slotMask = 3 ∧ p.feedTimeout = 100 ∧ p.carriageTimeout = 30 ∧
            p.countPromos = true ∧ p.advertLimit = 0)) = true ∧
      fits (ascii "=PRF 3 SLOTS 3 FTO 100 CTO 30 PRC 1 ADL 0") = true) := by decide +kernel

/-- TimSetsWallTime: the largest second, with an enabled and a disabled service. -/
theorem witness_TimSetsWallTime :
    live.ready = true ∧ 4294967295 ≤ 4294967295 ∧ live.services.length = 16 ∧ (live.svc 3).profile.enabled = true ∧
      (live.svc 0).profile.enabled = false := by decide +kernel

/-- LogCursorMoves: the cursor on the one held entry, behind the oldest and ahead of the last. -/
theorem witness_LogCursorMoves :
    let s := (after (.tim 7200000) running).modLc fun _ => Line.reset
    let e := s.modCl fun c => { c with cursorSeq := 0 }
    let n := s.modCl fun c => { c with cursorSeq := 2 }
    s.ready = true ∧ s.settled = true ∧ s.cl.cursorSeq ≤ s.cl.lastSeq ∧ s.oldestHeld = some 1 ∧
      ((s.heldEntry s.cl.cursorSeq).map fun x => fits (x.partReply s.cl.cursorPart)) = some true ∧
      e.cl.cursorSeq ≤ e.cl.lastSeq ∧ e.heldEntry e.cl.cursorSeq = none ∧ n.cl.lastSeq < n.cl.cursorSeq ∧
      (0 < 1 ∨ 4294967295 < 0) ∧ (4294967296 < 1 ∨ 4294967295 < 4294967296) := by decide +kernel

theorem witness_SlotTablesAndFlagsAreSet :
    7 < 8 ∧ 15 < 16 ∧ 1 ≤ 600 ∧ 600 ≤ 600 ∧ TriggerEvent.condOpen .deadAir ∈ triggerEvents := by decide

/-- HostHoldsAreKept: wall time set, a table with room; and a hold to release. -/
theorem witness_HostHoldsAreKept :
    let s := (after (.tim 7200000) (running.modAm fun a => { a with holds := [⟨3, 2, 10, 20, .host, none, none⟩] })).modLc
      fun _ => Line.reset
    s.ready = true ∧ s.settled = true ∧ s.holdTests ⟨15, 5, 5, .host, none, 3650, false⟩ = none ∧
      s.holdsBarred = none ∧
      s.am.holds.find? (fun g => decide (g.id = 3)) = some ⟨3, 2, 10, 20, .host, none, none⟩ := by decide +kernel

/-- ExportStartsAndStops: no export; and one that waits. -/
theorem witness_ExportStartsAndStops :
    let x : Export := ⟨1, .log, none, [⟨0, 1⟩], 0, 0, 0, 0, false, .waiting, none, none⟩
    let e := running.modEe fun g => { g with current := some x }
    4095 ≤ 4095 ∧ 1 ≤ 4096 ∧ running.ee.current = none ∧ running.sp.faultLatched = false ∧
      running.am.state = .online ∧ running.am.oflPending = false ∧ e.ready = true ∧ e.settled = true ∧
      e.ee.current = some x ∧ x.state = .waiting := by decide +kernel

/-- ArchiveCommandsAct: ONLINE with and without an operation in flight, OFFLINE, UNFORMATTED and UNAVAILABLE, and a latched
fault. -/
theorem witness_ArchiveCommandsAct :
    let w := running.modSp fun p => { p with operation := some (.directory 258 (.holds 1 [])) }
    let f := running.modSp fun p => { p with faultLatched := true }
    (∀ s ∈ [running, w], s.ready = true ∧ s.settled = true ∧ s.sp.faultLatched = false ∧ s.part.lowSupply = false ∧
      s.am.state = .online ∧ s.am.oflPending = false) ∧
    running.sp.operation = none ∧ w.sp.operation = some (.directory 258 (.holds 1 [])) ∧
    (∀ a ∈ [ArchiveState.offline, .unformatted, .unavailable],
      let o := running.modAm fun x => { x with state := a }
      o.ready = true ∧ o.settled = true ∧ o.sp.faultLatched = false ∧ o.part.lowSupply = false ∧ o.am.state = a) ∧
    f.ready = true ∧ f.settled = true ∧ f.sp.faultLatched = true := by decide +kernel

/-- RstFlushesOrResets: in RUN with the flush IDLE and FLUSHED, and in MOUNT. -/
theorem witness_RstFlushesOrResets :
    let f := running.modAm fun a => { a with flush := .flushed }
    (running.ready = true ∧ running.services.length = 16 ∧ running.am.flush ≠ .flushed) ∧
    (f.ready = true ∧ f.am.flush = .flushed) ∧
    (mounting.part.state ≠ .run ∧ mounting.am.rstPending = false ∧ mounting.lineIdle = true) := by decide +kernel

/-- AlarmFollowsItsInputs: both sides hold of a service whose failure nobody has acknowledged. -/
theorem witness_AlarmFollowsItsInputs :
    (runningWith 1 15 fun v => { v with unacknowledged := true }).alarm = true ∧ running.alarm = false ∧
      (running.modAm fun a => { a with rstPending := true, rstFlushed := true, rstReplyEnded := true }).rstDue = true := by
  decide +kernel

/-- The StepKeeps statements: a step with a command in front, of a state that meets the invariants. -/
theorem witness_StepKeepsInvariants :
    (step { running with pending := [.dividerTick] } matches .next _) = true ∧ running.cl.ringOk ∧ running.lc.bounded ∧
      running.tableOk ∧ running.dirtyOk ∧ running.poolOk := by
  refine ⟨by decide +kernel, ⟨by decide +kernel, by decide +kernel, by decide +kernel, by decide +kernel⟩,
    ⟨by decide +kernel, by decide +kernel, by decide +kernel⟩,
    (by decide +kernel : tableWf .free running.am.extents = true), .nil, by decide +kernel, ?_⟩
  have h : running.pool.free ++ running.contextsInUse = List.range 64 := by decide +kernel
  exact h ▸ .refl _

theorem witness_StepKeepsTableSizes : running.sizesOk := by constructor <;> decide +kernel

/-- ArchiveRecordsRoundTrip: a profile, a trigger and a hold at ends of their ranges. -/
theorem witness_ArchiveRecordsRoundTrip :
    enabledProfile.inRange = true ∧
      (∀ x ∈ [enabledProfile.section1.b0, enabledProfile.section1.b1], -2147483648 ≤ x ∧ x ≤ 2147483647) ∧
      TriggerEvent.peakOver ∈ triggerEvents ∧ 15 ≤ 15 ∧ 600 ≤ 600 ∧
      (15 < fieldAt [0, 0, 0, 16] 3 1 ∧ fieldAt [0, 0, 0, 16] 3 1 ≠ 255) ∧ 600 < fieldAt [0, 0, 0, 0, 0, 2, 0x59] 5 2 ∧
      600 < fieldAt [0, 0, 0, 0, 0, 0, 0, 2, 0x59] 7 2 ∧
      (1 ≤ 65535 ∧ 65535 ≤ 65535 ∧ 0 ≤ 4294967295 ∧ 4294967295 ≤ 4294967295) := by decide +kernel

end Sys2Proof.Tests
end

section
/-! SUPPORT. Updates of one service that follow one another, what accrues over a tick, and the end of an event that has
taken entries of no service. -/

namespace Sys2Proof.Machine

/-! ### Updates of one service -/

/-- Two changes that agree on a service are the same change of it. -/
theorem State.modSvc_congr {s : State} {i : Nat} {f g : Service → Service} (h : f (s.svc i) = g (s.svc i)) :
    s.modSvc i f = s.modSvc i g := by
  have hm : s.services.modify i f = s.services.modify i g := by
    refine List.ext_getElem? fun j => ?_
    rw [List.getElem?_modify, List.getElem?_modify]
    rcases eq_or_ne i j with rfl | hij
    · cases hv : s.services[i]? with
      | none => rfl
      | some v =>
        have hs : s.svc i = v := by simp [State.svc, List.getD_eq_getElem?_getD, hv]
        simp [← hs, h]
    · simp [hij]
  simp [State.modSvc, hm]

theorem State.modSvc_id (s : State) (i : Nat) : s.modSvc i id = s := by
  simp [State.modSvc]

/-- A change that leaves a service as it is leaves the state. -/
theorem State.modSvc_eq_self {s : State} {i : Nat} {f : Service → Service} (h : f (s.svc i) = s.svc i) :
    s.modSvc i f = s := (State.modSvc_congr (g := id) h).trans (s.modSvc_id i)

/-- Two changes of one service are one change. -/
theorem State.modSvc_modSvc (s : State) (i : Nat) (f g : Service → Service) :
    (s.modSvc i f).modSvc i g = s.modSvc i (g ∘ f) := by
  simp [State.modSvc, List.modify_modify_eq]

/-- What a change of a service keeps of every service it keeps of the one that reads back, the missing one too. -/
theorem State.modSvc_svc_keeps {α : Type} (g : Service → α) (s : State) (i j : Nat) {f : Service → Service}
    (h : ∀ v, g (f v) = g v) : g ((s.modSvc i f).svc j) = g (s.svc j) := by
  rcases eq_or_ne i j with rfl | hij
  · rcases Nat.lt_or_ge i s.services.length with hi | hi
    · rw [State.modSvc_svc_same _ _ _ hi, h]
    · rw [State.modSvc_absent _ _ _ hi]
  · rw [State.modSvc_svc_other _ _ hij]

/-- A change of each of some elements, none of them twice. -/
theorem foldl_modify_getElem? {α : Type} (f : α → α) (l : List Nat) (hl : l.Nodup) (vs : List α) (j : Nat) :
    (l.foldl (fun ws i => ws.modify i f) vs)[j]? = if j ∈ l then vs[j]?.map f else vs[j]? := by
  induction l generalizing vs with
  | nil => simp
  | cons i l ih =>
    obtain ⟨hi, hn⟩ := List.nodup_cons.mp hl
    rw [List.foldl_cons, ih hn, List.getElem?_modify]
    rcases eq_or_ne i j with rfl | hij
    · simp [hi]
    · simp [hij, Ne.symm hij]

theorem allServices_nodup : allServices.Nodup := List.nodup_range

theorem mem_allServices {i : Nat} : i ∈ allServices ↔ i < 16 := List.mem_range

/-! ### What accrues over a tick (R34, R86 to R88, R114) -/

/-- A service's tally after one tick more (R114). -/
def Service.tallyTick (v : Service) : Service :=
  { v with tally := { v.tally with
      advertTicks := v.tally.advertTicks + if v.profile.enabled = true ∧ v.tally.active = true then 1 else 0 } }

/-- One tick of a service: its tally, and of the pool its credit target alone. -/
theorem accrueService_eq (s : State) (i : Nat) : ∃ cs,
    accrueService s i =
      { s with services := s.services.modify i Service.tallyTick, pool := { s.pool with contexts := cs } } ∧
    ∀ c, s.target i ≠ some c → cs.getD c .reset = s.ctx c := by
  have tick (u : State) (hu : u.svc i = s.svc i) :
      (if (s.svc i).profile.enabled ∧ (s.svc i).tally.active then
        u.modTally i fun t => { t with advertTicks := t.advertTicks + 1 } else u) = u.modSvc i Service.tallyTick := by
    split
    · next h => exact State.modSvc_congr (by simp [Service.tallyTick, hu, h])
    · next h => exact (State.modSvc_eq_self (by simp [Service.tallyTick, hu, h])).symm
  unfold accrueService
  cases ht : s.target i with
  | none => exact ⟨s.pool.contexts, tick s rfl, fun c _ => rfl⟩
  | some d =>
    refine ⟨_, tick _ rfl, fun c hc => ?_⟩
    have hdc : d ≠ c := fun h => hc (h ▸ rfl)
    simp [State.ctx, List.getD_eq_getElem?_getD, hdc]

/-- The tick of some services, taken in turn. -/
theorem foldl_accrueService_eq (l : List Nat) (s : State) : ∃ cs,
    l.foldl accrueService s =
      { s with services := l.foldl (fun vs i => vs.modify i Service.tallyTick) s.services
               pool := { s.pool with contexts := cs } } ∧
    ∀ c, (∀ i ∈ l, s.target i ≠ some c) → cs.getD c .reset = s.ctx c := by
  induction l generalizing s with
  | nil => exact ⟨s.pool.contexts, rfl, fun c _ => rfl⟩
  | cons i l ih =>
    obtain ⟨cs, h, hc⟩ := accrueService_eq s i
    obtain ⟨ds, k, kc⟩ := ih (accrueService s i)
    have target (j : Nat) : (accrueService s i).target j = s.target j := by
      rw [h]
      exact congrArg targetOf (State.modSvc_svc_keeps (fun v => v.st.stack) s i j fun _ => rfl)
    refine ⟨ds, by rw [List.foldl_cons, k, h]; rfl, fun c hl => ?_⟩
    rw [kc c fun j hj => by rw [target]; exact hl j (by simp [hj])]
    rw [State.ctx, h]
    exact hc c (hl i (by simp))

/-- One tick of every service changes their tallies and the contexts that are credit targets. -/
theorem accrueTick_eq (s : State) : ∃ cs,
    accrueTick s =
      { s with services := allServices.foldl (fun vs i => vs.modify i Service.tallyTick) s.services
               pool := { s.pool with contexts := cs } } ∧
    ∀ c, (∀ i, i < 16 → s.target i ≠ some c) → cs.getD c .reset = s.ctx c := by
  obtain ⟨cs, h, hc⟩ := foldl_accrueService_eq allServices s
  exact ⟨cs, h, fun c ht => hc c fun i hi => ht i (mem_allServices.mp hi)⟩

/-- Of 16 services every one's tally takes the tick. -/
theorem tallyTicks_eq_map {s : State} (h : s.services.length = 16) :
    allServices.foldl (fun vs i => vs.modify i Service.tallyTick) s.services = s.services.map Service.tallyTick := by
  refine List.ext_getElem? fun j => ?_
  rw [foldl_modify_getElem? _ _ allServices_nodup, List.getElem?_map]
  split
  · rfl
  · next hj =>
    have hn : s.services.length ≤ j := h ▸ Nat.not_lt.mp fun k => hj (mem_allServices.mpr k)
    simp [List.getElem?_eq_none hn]

/-! ### The end of an event whose entries are of no service -/

/-- With entries of no service to match and nothing else left, the end of an event is the transmitter's choice. -/
theorem settle_device {s : State} (h : ∀ e ∈ s.cl.handed, e.service = none)
    (hs : (s.modCl fun c => { c with handed := [] }).settled = true) :
    settle s = (s.modCl fun c => { c with handed := [] }).modLc Line.startSending := by
  have once : fanOut s = s.modCl fun c => { c with handed := [] } := fanOut_device h
  have twice : fanOut (s.modCl fun c => { c with handed := [] }) = s.modCl fun c => { c with handed := [] } :=
    fanOut_device (by simp)
  have e : settle s = settle (s.modCl fun c => { c with handed := [] }) := by
    simp only [settle, once, twice]
  rw [e, settle_eq _ hs]

/-- A settled part has no entry that waits for TU. -/
theorem handed_of_settled {s : State} (h : s.settled = true) : s.cl.handed = [] := by
  simp only [State.settled, Bool.and_eq_true, List.isEmpty_iff] at h
  exact h.1.1.1

end Sys2Proof.Machine
end

section
/-! SUPPORT. The time base's obligations. -/

namespace Sys2Proof.Machine

theorem exec_wordClockEdge (near : Bool) (s : State) : exec (.wordClockEdge near) s =
    .next (settle (if near = true ∧ s.tb.lastTickDivider = true then absorbEdge s else takeEdge s)) := rfl

theorem exec_dividerTick (s : State) : exec .dividerTick s = .next (dividerTick s) := rfl

theorem exec_holdoverEntry (s : State) : exec .holdoverEntry s =
    .next (if s.tb.refState = .locked ∧ s.tb.dividerTicks = 48 then settle (enterHoldover s) else s) := rfl

theorem exec_hourBoundary (s : State) :
    exec .hourBoundary s = .next (if s.boundaryDue then settle (hourBoundary s) else s) := rfl

/-! ### Edges and divider ticks (R1, R2) -/

/-- The part with the tick of an edge taken, before TB leaves HOLDOVER and the divider restarts (R2). -/
def edgeTick (s : State) : State :=
  (advanceTick s).modTb fun b => { b with lastEdge := b.stationTime, lastTickDivider := false }

/-- TB in LOCKED, as an edge leaves it (R4). -/
def TimeBase.lock (b : TimeBase) : TimeBase := { b with refState := .locked }

theorem takeEdge_eq (s : State) : takeEdge s = restartDivider (leaveHoldover (edgeTick s)) := rfl

/-- The tick of an edge touches TB, the tallies and the contexts that are credit targets. -/
theorem edgeTick_eq (s : State) : ∃ cs,
    edgeTick s =
      { s with
        tb := { s.tb.advance with lastEdge := s.tb.advance.stationTime, lastTickDivider := false }
        services := allServices.foldl (fun vs i => vs.modify i Service.tallyTick) s.services
        pool := { s.pool with contexts := cs } } := by
  obtain ⟨cs, acc, -⟩ := accrueTick_eq s
  exact ⟨cs, by simp only [edgeTick, advanceTick, acc, State.modTb]⟩

/-- In LOCKED there is no holdover to leave. -/
theorem leaveHoldover_locked {s : State} (h : s.tb.refState = .locked) : leaveHoldover s = s := by
  simp [leaveHoldover, h]

/-- Before RUN the return to LOCKED writes nothing (R4). -/
theorem leaveHoldover_beforeRun {s : State} (h : s.tb.refState = .holdover) (hr : s.part.state ≠ .run) :
    leaveHoldover s = s.modTb TimeBase.lock := by
  unfold leaveHoldover
  rw [if_pos h]
  exact if_neg hr

/-- REF_BACK with the length of the holdover and the divider ticks since the last edge (R4). -/
def refBack (s : State) : Body := .refBack (elapsed s.tb.stationTime s.tb.holdoverStart) s.tb.ticksSinceEdge

/-- The part back in LOCKED with REF_BACK taken, before REF_LOST closes (R4). -/
def refBackTaken (s : State) : State := logTake none (refBack s) (s.modTb TimeBase.lock)

/-- In RUN the return to LOCKED writes REF_BACK and closes REF_LOST (R4). -/
theorem leaveHoldover_run {s : State} (h : s.tb.refState = .holdover) (hr : s.part.state = .run) :
    leaveHoldover s = closeDevice .refLost (refBackTaken s) := by
  unfold leaveHoldover
  rw [if_pos h]
  exact if_pos hr

theorem refBackTaken_only (s : State) : OnlyLog (s.modTb TimeBase.lock) (refBackTaken s) := logTake_only _ _ _

/-- The return to LOCKED touches TB's state, the log, the condition table and the report queue alone (R4). -/
theorem leaveHoldover_only (s : State) : OnlyLog (s.modTb TimeBase.lock) (leaveHoldover s) := by
  cases h : s.tb.refState with
  | locked =>
    have e : s.modTb TimeBase.lock = s := by simp [State.modTb, TimeBase.lock, ← h]
    rw [leaveHoldover_locked h, e]
    exact .refl s
  | holdover =>
    by_cases hr : s.part.state = .run
    · rw [leaveHoldover_run h hr]
      exact (refBackTaken_only s).trans (by constructor <;> rfl)
    · rw [leaveHoldover_beforeRun h hr]
      exact .refl _

theorem OnlyLog.modTb {s t : State} (h : OnlyLog s t) (f : TimeBase → TimeBase) : OnlyLog (s.modTb f) (t.modTb f) :=
  { h with tb := congrArg f h.tb }

/-- What an absorbed edge changes besides the log and the conditions (R2, R4). -/
theorem absorbEdge_only (s : State) : OnlyLog (restartDivider (s.modTb TimeBase.lock)) (absorbEdge s) :=
  (leaveHoldover_only s).modTb _

/-- What an edge taken changes besides the log and the conditions (R1, R2, R4). -/
theorem takeEdge_only (s : State) : OnlyLog (restartDivider ((edgeTick s).modTb TimeBase.lock)) (takeEdge s) :=
  (leaveHoldover_only (edgeTick s)).modTb _

/-- In LOCKED an edge taken leaves the conditions. -/
theorem takeEdge_conditions_locked {s : State} (h : s.tb.refState = .locked) :
    (takeEdge s).cu.conditions = s.cu.conditions := by
  obtain ⟨cs, tick⟩ := edgeTick_eq s
  rw [takeEdge_eq, leaveHoldover_locked (by rw [tick]; exact h), tick]
  rfl

/-- Settles O2: an absorbed edge restarts the divider, an edge taken is a tick more. -/
theorem edgeAdvancesOrIsAbsorbed : Obligations.EdgeAdvancesOrIsAbsorbed := by
  unfold Obligations.EdgeAdvancesOrIsAbsorbed
  intro near s
  refine ⟨fun absorbed => ⟨settle (absorbEdge s), by rw [exec_wordClockEdge, if_pos absorbed], ?_⟩,
    fun far => ⟨settle (takeEdge s), by rw [exec_wordClockEdge, if_neg far], ?_⟩⟩
  · have edge := absorbEdge_only s
    have stands := settle_same (absorbEdge s)
    refine ⟨stands.tb.trans edge.tb, stands.services.trans edge.services,
      stands.free.trans (congrArg Pool.free edge.pool), stands.sp.trans edge.sp,
      stands.writeQueue.trans edge.writeQueue, stands.extents.trans (congrArg Archive.extents edge.am), fun locked => ?_⟩
    have same : absorbEdge s = { s with tb := { s.tb with dividerTicks := 0, ticksSinceEdge := 0 } } := by
      rw [absorbEdge, leaveHoldover_locked locked]; rfl
    exact same ▸ stands
  · obtain ⟨cs, tick⟩ := edgeTick_eq s
    have edge := takeEdge_only s
    rw [tick] at edge
    have stands := settle_same (takeEdge s)
    exact ⟨stands.tb.trans edge.tb, stands.part.trans edge.part, stands.sp.trans edge.sp,
      stands.writeQueue.trans edge.writeQueue, stands.triggers.trans edge.triggers,
      stands.extents.trans (congrArg Archive.extents edge.am), stands.free.trans (congrArg Pool.free edge.pool :),
      stands.pending.trans edge.pending, fun locked => stands.conditions.trans (takeEdge_conditions_locked locked)⟩

/-- Settles O4: a divider tick is what accrues over it and TB's count of it. -/
theorem dividerTickAdvancesTime : Obligations.DividerTickAdvancesTime := by
  unfold Obligations.DividerTickAdvancesTime
  intro s sixteen
  obtain ⟨cs, acc, others⟩ := accrueTick_eq s
  rw [tallyTicks_eq_map sixteen] at acc
  refine ⟨dividerTick s, exec_dividerTick s, ?_⟩
  simp only [dividerTick, advanceTick, acc]
  exact ⟨rfl, rfl, others, rfl, rfl, rfl, rfl, rfl, rfl, rfl, rfl, rfl, rfl, rfl, rfl, rfl⟩

/-! ### HOLDOVER (R3, R4) -/

/-- TB in HOLDOVER from this tick (R3). -/
def holdoverTick (s : State) : State := s.modTb fun b => { b with refState := .holdover, holdoverStart := s.now }

/-- In RUN the entry to HOLDOVER opens the device-wide condition and writes REF_LOST (R3). -/
theorem enterHoldover_run {s : State} (h : s.part.state = .run) :
    enterHoldover s = logTake none (.refLost s.tb.lastEdge) (openDevice .refLost (holdoverTick s)) := if_pos h

/-- Before RUN the entry to HOLDOVER is TB's alone (R3). -/
theorem enterHoldover_beforeRun {s : State} (h : s.part.state ≠ .run) : enterHoldover s = holdoverTick s := if_neg h

/-- A settled part that has taken one entry of no service: at the end of the event nothing but the transmitter's choice
is left. -/
theorem settle_deviceEntry (s t : State) (b : Body) (hs : s.settled = true) (hx : s.cl.exhausted = false)
    (hl : t.cl = (logTake none b s).cl) (hu : t.cu.engine = s.cu.engine) (hq : t.cu.queue = s.cu.queue)
    (ha : t.am = s.am) (hp : t.sp = s.sp) :
    settle t = (t.modCl fun c => { c with handed := [] }).modLc Line.startSending := by
  have handed : t.cl.handed = [s.entryFor none b] := by
    rw [hl, logTake_cl _ _ _ hx, LogState.take, handed_of_settled hs, List.nil_append]
  refine settle_device (by simp [handed, State.entryFor]) ?_
  simp only [State.settled, Bool.and_eq_true] at hs ⊢
  obtain ⟨⟨⟨-, verdict⟩, offline⟩, flush⟩ := hs
  simp only [State.modCl_cl, State.modCl_cu, State.modCl_am, State.modCl_sp, hu, hq, ha, hp]
  exact ⟨⟨⟨rfl, verdict⟩, offline⟩, flush⟩

/-- The entry to HOLDOVER stands beside the log (R3). -/
theorem enterHoldover_same (s : State) :
    SameCore { s with
      tb := { s.tb with refState := .holdover, holdoverStart := s.tb.stationTime },
      cu := { s.cu with conditions := s.cu.conditions ++
        (if s.part.state = .run then [⟨.refLost, none, none, none, s.tb.stationTime, s.nextSeq⟩] else []) } }
      (enterHoldover s) := by
  by_cases hr : s.part.state = .run
  · rw [if_pos hr, enterHoldover_run hr]
    exact logTake_same _ _ _
  · rw [if_neg hr, enterHoldover_beforeRun hr, List.append_nil]
    exact .refl _

/-- In RUN REF_LOST joins the log's ring, and before RUN nothing does (R3). -/
theorem settle_enterHoldover_ring {s : State} (hs : s.settled = true) (hx : s.cl.exhausted = false) :
    (settle (enterHoldover s)).cl.ring =
      if s.part.state = .run then ringJoin s.cl.ring (s.entryFor none (.refLost s.tb.lastEdge)) else s.cl.ring := by
  by_cases hr : s.part.state = .run
  · have only := logTake_only none (.refLost s.tb.lastEdge) (openDevice .refLost (holdoverTick s))
    have log := logTake_cl none (.refLost s.tb.lastEdge) (openDevice .refLost (holdoverTick s)) hx
    rw [if_pos hr, enterHoldover_run hr, settle_deviceEntry s _ (.refLost s.tb.lastEdge) hs hx
      (log.trans (logTake_cl _ _ s hx).symm) only.engine only.queue only.am only.sp, State.modLc_cl, State.modCl_cl, log]
    rfl
  · rw [if_neg hr, enterHoldover_beforeRun hr, settle_eq (holdoverTick s) hs]
    rfl

/-- An edge is the return to LOCKED and the divider's restart, at the tick that it absorbs or takes (R2, R4). -/
theorem exec_wordClockEdge_restart (near : Bool) (s : State) : exec (.wordClockEdge near) s =
    .next (settle (restartDivider (leaveHoldover (if near = true ∧ s.tb.lastTickDivider = true then s else edgeTick s)))) := by
  rw [exec_wordClockEdge]
  split <;> rfl

/-- The first edge in HOLDOVER, absorbed at the tick of `u` or taken there (R4). -/
theorem settle_leaveHoldover {u : State} (hold : u.tb.refState = .holdover) (hs : u.settled = true)
    (hx : u.cl.exhausted = false) :
    let t := settle (restartDivider (leaveHoldover u))
    t.tb.refState = .locked ∧ t.tb.dividerTicks = 0 ∧ t.tb.stationTime = u.tb.stationTime ∧ t.am = u.am ∧ t.sp = u.sp ∧
      (u.part.state = .run →
        t.cl.ring = ringJoin u.cl.ring (u.entryFor none (refBack u)) ∧
        t.cu.conditions =
          u.cu.conditions.filter fun c => !decide (c.cls = .refLost ∧ c.service = none ∧ c.slot = none)) ∧
      (u.part.state ≠ .run → t.cl = u.cl ∧ t.cu.conditions = u.cu.conditions) := by
  by_cases hr : u.part.state = .run
  · have only := refBackTaken_only u
    have log : (refBackTaken u).cl = _ := logTake_cl none (refBack u) (u.modTb TimeBase.lock) hx
    have conditions : (refBackTaken u).cu.conditions = u.cu.conditions := logTake_conditions _ _ _
    have named : (fun c : Condition => !c.named none .refLost none) =
        fun c => !decide (c.cls = .refLost ∧ c.service = none ∧ c.slot = none) := by
      funext c
      simp only [Condition.named, ← Bool.decide_and]
      exact congrArg _ (decide_eq_decide.mpr (by tauto))
    rw [leaveHoldover_run hold hr, settle_deviceEntry (u.modTb TimeBase.lock)
      (restartDivider (closeDevice .refLost (refBackTaken u))) (refBack u) hs hx rfl only.engine only.queue only.am only.sp]
    refine ⟨congrArg TimeBase.refState only.tb, rfl, (congrArg TimeBase.stationTime only.tb :), only.am, only.sp,
      fun _ => ⟨congrArg LogState.ring log, ?_⟩, fun h => absurd hr h⟩
    rw [← named, ← conditions]
    rfl
  · rw [leaveHoldover_beforeRun hold hr, settle_eq (restartDivider (u.modTb TimeBase.lock)) hs]
    exact ⟨rfl, rfl, rfl, rfl, rfl, fun h => absurd h hr, fun _ => ⟨rfl, rfl⟩⟩

/-- Settles O3: the entry to HOLDOVER, and the first edge, absorbed at this tick or taken at the next. -/
theorem holdoverBeginsAndEnds : Obligations.HoldoverBeginsAndEnds := by
  unfold Obligations.HoldoverBeginsAndEnds
  intro s
  refine ⟨fun due => ⟨settle (enterHoldover s), by rw [exec_holdoverEntry, if_pos due],
      (enterHoldover_same s).trans (settle_same _), settle_enterHoldover_ring⟩,
    fun notDue => by rw [exec_holdoverEntry, if_neg notDue], fun near hold settled taken => ?_⟩
  refine ⟨_, exec_wordClockEdge_restart near s, ?_⟩
  by_cases absorbed : near = true ∧ s.tb.lastTickDivider = true
  · simp only [if_pos absorbed]
    exact settle_leaveHoldover hold settled taken
  · simp only [if_neg absorbed]
    obtain ⟨cs, tick⟩ := edgeTick_eq s
    have ends := settle_leaveHoldover (u := edgeTick s) (by rw [tick]; exact hold) (by rw [tick]; exact settled)
      (by rw [tick]; exact taken)
    rw [tick] at ends ⊢
    exact ends

end Sys2Proof.Machine
end

section
/-! SUPPORT. The turning of the advertising tallies (R116, R117), and the obligations of an hour boundary and of TIM. -/

namespace Sys2Proof.Machine

/-! ### Frames -/

theorem OnlyLog.modSvc {s t : State} (h : OnlyLog s t) (i : Nat) (f : Service → Service) :
    OnlyLog (s.modSvc i f) (t.modSvc i f) :=
  { h with services := by simp [h.services] }

/-- What follows on an operation that leaves the services, seen from before it, the services being given on their own. -/
theorem OnlyLog.withServices_trans {s t u : State} {vs ws : List Service} (h : OnlyLog s t) (e : ws = vs)
    (k : OnlyLog { t with services := ws } u) : OnlyLog { s with services := vs } u :=
  (show OnlyLog { s with services := vs } { t with services := ws } from { h with services := e }).trans k

/-- The expiry of holds is AM's and the log's alone (R161). -/
theorem expireHolds_same (second : Nat) (s : State) : SameCore s (expireHolds second s) := by
  unfold expireHolds
  split
  · exact (logReserve_same _ _).trans (foldl_same _ (fun t h => dropHold_same h true t) _ _)
  · exact .refl s

/-! ### Tallies (R116, R117) -/

/-- A service whose new tally starts under a time base (R116, R117). -/
def Service.startTally (b : TimeBase) (part : Bool) (v : Service) : Service :=
  { v with tally := { v.tally with hour := b.hour, start := b.stationTime, part := part, advertTicks := 0 } }

/-- The turning of one tally starts the new one, and else writes to the log alone. -/
theorem turnTally_only (timeSet : Bool) (s : State) (i : Nat) :
    OnlyLog (s.modSvc i (Service.startTally s.tb timeSet)) (turnTally timeSet s i) := by
  have ended : OnlyLog s (closeCond i .adTime none (if timeSet then .timeSet else .hour) (writeTally i timeSet false s)) :=
    (logTake_only _ _ _).trans (closeCond_only _ _ _ _ _)
  have start (t : State) : startTally i timeSet t = t.modSvc i (Service.startTally t.tb timeSet) := rfl
  rw [turnTally, start, ended.tb]
  exact ended.modSvc _ _

theorem foldl_turnTally_only (timeSet : Bool) (l : List Nat) (s : State) :
    OnlyLog { s with services := l.foldl (fun vs i => vs.modify i (Service.startTally s.tb timeSet)) s.services }
      (l.foldl (turnTally timeSet) s) := by
  induction l generalizing s with
  | nil => exact .refl s
  | cons i l ih =>
    have one := turnTally_only timeSet s i
    exact one.withServices_trans (by rw [one.tb, one.services]; rfl) (ih _)

/-- The turning of the tallies starts those of the enabled services, and else writes to the log alone. -/
theorem turnTallies_only (timeSet : Bool) (s : State) :
    OnlyLog
      { s with services :=
          s.enabledServices.foldl (fun vs i => vs.modify i (Service.startTally s.tb timeSet)) s.services }
      (turnTallies timeSet s) := by
  have reserved := logReserve_only s.turnEntries s
  exact reserved.withServices_trans (by rw [reserved.tb, reserved.services]) (foldl_turnTally_only timeSet _ _)

theorem mem_enabledServices {s : State} {i : Nat} :
    i ∈ s.enabledServices ↔ i < 16 ∧ (s.svc i).profile.enabled = true := by
  simp [State.enabledServices, mem_allServices]

/-- Each enabled service starts a new tally, and the others stand. -/
theorem turnTallies_svc (timeSet : Bool) {s : State} (sixteen : s.services.length = 16) {i : Nat} (hi : i < 16) :
    (turnTallies timeSet s).svc i =
      if (s.svc i).profile.enabled then Service.startTally s.tb timeSet (s.svc i) else s.svc i := by
  have turned := (turnTallies_only timeSet s).services
  have at_i := foldl_modify_getElem? (Service.startTally s.tb timeSet) s.enabledServices
    (allServices_nodup.filter _) s.services i
  simp only [mem_enabledServices, hi, true_and] at at_i
  have there : s.services[i]? = some (s.svc i) := by simp [State.svc, sixteen, hi]
  rw [State.svc, turned, List.getD_eq_getElem?_getD, at_i, there]
  split <;> rfl

/-! ### The hour boundary (R7, R116) -/

/-- TB at a boundary: the hour number advances (R7). -/
def boundaryTick (s : State) : State := s.modTb fun b => { b with hour := hourOf b.anchor b.stationTime }

/-- TB's and CU's part of a boundary; before RUN no tally is turned (R7, R116). -/
def boundaryTallies (s : State) : State :=
  if s.part.state = .run then turnTallies false (boundaryTick s) else boundaryTick s

/-- After TB's and CU's part of a boundary AM expires holds, at a timed one (R161). -/
theorem hourBoundary_eq (s : State) :
    hourBoundary s = s.wallNow.elim (boundaryTallies s) fun w => expireHolds w.second (boundaryTallies s) := by
  unfold hourBoundary
  cases s.wallNow <;> rfl

theorem hourBoundary_same (s : State) : SameCore (boundaryTallies s) (hourBoundary s) := by
  rw [hourBoundary_eq]
  cases s.wallNow with
  | none => exact .refl _
  | some w => exact expireHolds_same _ _

/-- Before RUN with the archive not ONLINE a boundary is TB's alone. -/
theorem hourBoundary_idle {s : State} (hr : s.part.state ≠ .run) (ha : s.am.state ≠ .online) :
    hourBoundary s = boundaryTick s := by
  rw [hourBoundary_eq, boundaryTallies, if_neg hr]
  cases s.wallNow with
  | none => rfl
  | some w => exact if_neg fun h => ha h.1

/-- Settles O6: the tallies are turned in RUN, at a boundary that has not been reported. -/
theorem hourBoundaryTurnsTallies : Obligations.HourBoundaryTurnsTallies := by
  unfold Obligations.HourBoundaryTurnsTallies
  intro s sixteen
  refine ⟨fun due => ⟨settle (hourBoundary s), by rw [exec_hourBoundary, if_pos due], ?_⟩,
    fun notDue => by rw [exec_hourBoundary, notDue]; rfl⟩
  have same := (hourBoundary_same s).trans (settle_same _)
  by_cases hr : s.part.state = .run
  · rw [boundaryTallies, if_pos hr] at same
    have turned := turnTallies_only false (boundaryTick s)
    have svc (i : Nat) (hi : i < 16) : (settle (hourBoundary s)).svc i =
        if (s.svc i).profile.enabled then Service.startTally (boundaryTick s).tb false (s.svc i) else s.svc i := by
      rw [State.svc, same.services]
      exact turnTallies_svc false (s := boundaryTick s) sixteen hi
    exact ⟨same.tb.trans turned.tb, fun h => absurd hr h, fun h => absurd hr h,
      fun i hi off => by rw [svc i hi, off]; rfl, fun _ i hi on => by rw [svc i hi, on]; rfl,
      same.sp.trans turned.sp, same.writeQueue.trans turned.writeQueue,
      same.extents.trans (congrArg Archive.extents turned.am)⟩
  · rw [boundaryTallies, if_neg hr] at same
    refine ⟨same.tb, fun _ => same.services, fun _ archive settled => ?_,
      fun i _ _ => by rw [State.svc, same.services]; rfl, fun h => absurd h hr, same.sp, same.writeQueue, same.extents⟩
    rw [hourBoundary_idle hr archive, settle_eq (boundaryTick s) settled]
    rfl

/-! ### Records (R173, R176) -/

/-- A record that a ready part receives leaves beside its reply what its operation does, but for the end of the event. -/
theorem verbRow_same {i : Instr} {op : State → Answer} {s e : State} {r : Text} (h : s.ready = true)
    (hi : sendable i = true) (hop : op s = (e, some r)) (hr : fits r = true) : SameCore e (verbRow i op s) := by
  rw [verbRow_ready i op s e r h hi hop hr]
  exact (show SameCore e (putReply (e, some r)) by constructor <;> rfl).trans (settle_same _)

/-- A record of one number meets R171. -/
theorem sendable_ofNumber {i : Instr} {v : Text} {n : Nat} (hn : n < 10 ^ 12) (hv : v.length = 3)
    (hr : recordText i = words [v, natText n]) (hf : fieldsOf i = [natText n]) (hx : formFault i = none) :
    sendable i = true := by
  have length : (recordText i).length ≤ Config.recordChars := by
    have := natText_length n
    simp only [hr, words, List.length_append, List.length_cons, hv, Config.recordChars]
    omega
  have form : syntaxFault i = none := by
    simp [syntaxFault, hf, hx, firstPosition, natText_fieldOk n hn, earlierFault]
  simp [sendable, length, form]

/-- A reply of one number meets R174. -/
theorem fits_ofNumber {v : Text} (hv : v.length = 4) (n : Nat) : fits (words [v, natText n]) = true := by
  have := natText_length n
  simp only [fits, words, List.length_append, List.length_cons, hv, Config.recordChars, decide_eq_true_eq]
  omega

/-! ### TIM (R6, R117) -/

theorem exec_tim (n : Nat) (s : State) : exec (.tim n) s = .next (verbRow (.tim n) (opTim n) s) := rfl

/-- TB after TIM at its tick (R6). -/
def TimeBase.setTime (n : Nat) (b : TimeBase) : TimeBase :=
  { b with anchor := some ⟨b.stationTime, n⟩, lastTim := some b.stationTime, hour := ⟨n / 3600, true⟩ }

/-- TIM is TB's setting with its entry, and the turning of the tallies after it (R6, R117). -/
theorem applyTime_eq (n : Nat) (s : State) :
    ∃ u, OnlyLog (s.modTb (TimeBase.setTime n)) u ∧ applyTime n s = turnTallies true u :=
  ⟨_, (logTake_only none (.timeSet s.wallNow n s.tb.hour (n / 3600))
    (s.modTb fun b => { b with anchor := some ⟨s.now, n⟩, lastTim := some s.now })).modTb
      fun b => { b with hour := ⟨n / 3600, true⟩ }, rfl⟩

theorem setTime_eq (n : Nat) (s : State) :
    ∃ u, OnlyLog (s.modTb (TimeBase.setTime n)) u ∧ setTime n s = turnTallies true u := by
  obtain ⟨u, set, turns⟩ := applyTime_eq n (logReserve (entriesOf (applyTime n) s) s)
  exact ⟨u, ((logReserve_only _ s).modTb _).trans set, turns⟩

/-- A second in its range is stored as sent, and the reply shows it (R6). -/
theorem opTim_eq {n : Nat} (h : n ≤ 4294967295) (s : State) :
    opTim n s = (setTime n s, some (words [ascii "=TIM", natText n])) := by
  have clamp : clampNat 0 lastSecond n = n := by
    have : lastSecond = 4294967295 := rfl
    simp only [clampNat, this]
    rw [if_neg (by omega), if_neg (by omega)]
  simp only [opTim, clamp]
  simp [say, accepted, clampedMark, ascii]

theorem elapsed_self (t : Nat) : elapsed t t = 0 := by simp [elapsed]

/-- Wall time at the tick of its own anchor is the anchor's second (R5). -/
theorem wallOf_anchor {t n : Nat} (h : n ≤ 4294967295) : wallOf (some ⟨t, n⟩) t = some ⟨n, 0⟩ := by
  have : n % Config.wallModulus = n := Nat.mod_eq_of_lt (by unfold Config.wallModulus; omega)
  simp [wallOf, elapsed_self, this]

/-- Settles O46: TIM is TB's setting, and the turning of the tallies under it. -/
theorem timSetsWallTime : Obligations.TimSetsWallTime := by
  unfold Obligations.TimSetsWallTime
  intro s n ready range sixteen
  have sendable : sendable (.tim n) = true := sendable_ofNumber (by omega) rfl rfl rfl rfl
  have fits : fits (words [ascii "=TIM", natText n]) = true := fits_ofNumber rfl n
  obtain ⟨u, set, turns⟩ := setTime_eq n s
  have turned := turnTallies_only true u
  rw [← turns] at turned
  have same := verbRow_same ready sendable (opTim_eq range s) fits
  have tb := same.tb.trans (turned.tb.trans set.tb)
  have svc (i : Nat) (hi : i < 16) : (verbRow (.tim n) (opTim n) s).svc i =
      if (s.svc i).profile.enabled then Service.startTally u.tb true (s.svc i) else s.svc i := by
    rw [State.svc, same.services, turns]
    refine (turnTallies_svc true (by rw [set.services]; exact sixteen) hi).trans ?_
    rw [show u.svc i = s.svc i by rw [State.svc, set.services]; rfl]
  rw [set.tb] at svc
  have idle : (setTime n s).lc.sending = none :=
    (turned.sending.trans set.sending).trans (ready_parts ready).1
  refine ⟨_, ⟨exec_tim n s, verbRow_answered _ _ _ _ _ ready sendable (opTim_eq range s) fits idle⟩, tb, ?_,
    fun i hi off => by rw [svc i hi, off]; rfl, fun i hi on => by rw [svc i hi, on]; rfl,
    same.extents.trans (congrArg Archive.extents (turned.am.trans set.am)), same.sp.trans (turned.sp.trans set.sp)⟩
  rw [State.wallNow, State.now, tb]
  exact wallOf_anchor range

end Sys2Proof.Machine
end

section
/-! SUPPORT. The obligations of the resets, of TIQ, and of SVE. -/

namespace Sys2Proof.Machine

/-! ### Resets (R185, R192) -/

theorem exec_rstResetApplied (s : State) :
    exec .rstResetApplied s = .next (if s.rstDue then resetTo .command s else s) := rfl

/-- Settles O30: each reset, once its events have happened, is the restart with its own cause. -/
theorem resetsRestartThePart : Obligations.ResetsRestartThePart := by
  unfold Obligations.ResetsRestartThePart
  intro s
  refine ⟨rfl, rfl, fun pending flushed ended => ?_, fun _ => rfl⟩
  have due : s.rstDue = true := by simp [State.rstDue, pending, flushed, ended]
  rw [exec_rstResetApplied, if_pos due]
  rfl

/-- Settles O31: each block's reset value is read off. -/
theorem resetValuesHold : Obligations.ResetValuesHold := by
  unfold Obligations.ResetValuesHold
  refine ⟨rfl, rfl, rfl, rfl, fun v hv => ?_, rfl, rfl, rfl, rfl, rfl, by decide, rfl, rfl, rfl, rfl, rfl⟩
  rw [List.eq_of_mem_replicate hv]
  exact ⟨rfl, rfl, rfl⟩

/-! ### TIQ (R8) -/

theorem exec_tiq (s : State) : exec .tiq s = .next (verbRow .tiq opTiq s) := rfl

/-- Settles O40: TIQ's operation is its reply alone. -/
theorem tiqReturnsTimeBase : Obligations.TiqReturnsTimeBase := by
  unfold Obligations.TiqReturnsTimeBase
  intro s r ready settled reply fit
  obtain ⟨sending, empty, -⟩ := ready_parts ready
  have op : opTiq s = (s, some r) := by
    rw [reply, opTiq, say, State.timeTexts]
    cases s.wallNow <;> rfl
  rw [exec_tiq, verbRow_exact _ _ _ _ _ ready (by decide) op fit settled sending empty]

/-! ### SVE (R16) -/

theorem exec_sve (i : Nat) (s : State) :
    exec (.sve i) s = .next (verbRow (.sve i) (opSve i (fieldsOf (.sve i))) s) := rfl

/-- A change of one service stands beside what an operation leaves. -/
theorem SameCore.modSvc {s t : State} (h : SameCore s t) (i : Nat) (f : Service → Service) :
    SameCore (s.modSvc i f) (t.modSvc i f) :=
  { h with services := by simp [h.services] }

/-- SVE's operation on a disabled service with its channel count set (R16). -/
theorem opSve_eq {i : Nat} {sent : List Text} {s : State} (hi : i < 16) (off : (s.svc i).profile.enabled = false)
    (channels : (s.svc i).profile.channels.isSome = true) :
    opSve i sent s = (clearMarks i (enableService i s), some (words [ascii "=SVE", natText i])) := by
  have some_count : (s.svc i).profile.channels.isNone = false := by simpa using channels
  simp only [opSve, serviceOk, Config.serviceCount, hi, decide_true, inRange_true, off, some_count]
  rfl

/-- Settles O42: the service's blocks are set in one change of it, and SERVICE_ENABLED is taken. -/
theorem sveEnablesService : Obligations.SveEnablesService := by
  unfold Obligations.SveEnablesService
  intro s i ready hi _ off channels
  have sendable : sendable (.sve i) = true := sendable_ofNumber (by omega) rfl rfl rfl rfl
  have fits : fits (words [ascii "=SVE", natText i]) = true := fits_ofNumber rfl i
  have op := opSve_eq (sent := fieldsOf (.sve i)) hi off channels
  have idle : (clearMarks i (enableService i s)).lc.sending = none :=
    (logTake_only _ _ _).sending.trans (ready_parts ready).1
  refine ⟨_, ⟨exec_sve i s, verbRow_answered _ _ _ _ _ ready sendable op fits idle⟩,
    SameCore.trans ?_ (verbRow_same ready sendable op fits)⟩
  have entered := (logTake_same (some i) .serviceEnabled (s.modSvc i fun v =>
    { v with
      profile := { v.profile with enabled := true }
      feed := Feed.enabledAt s.now
      le := .reset
      sc := Subtitles.enabledAt s.now
      tally := ⟨s.tb.hour, s.now, true, 0, 0, 0, false⟩ })).modSvc i fun v =>
        { v with rc := { v.rc with intakeMark := none, issueMark := none, gapRecord := .closed } }
  rw [State.modSvc_modSvc] at entered
  exact entered

end Sys2Proof.Machine
end

section
/-! SUPPORT. Which conditions are open after one opens or closes, and the obligation of a loss of feed. -/

namespace Sys2Proof.Machine

/-! ### Open conditions (R109) -/

/-- A condition is open when the table names it. -/
theorem isOpen_eq_any (s : State) (svc : Option Nat) (c : CondClass) (k : Option Nat) :
    s.isOpen svc c k = s.cu.conditions.any fun d => d.named svc c k := by
  rw [State.isOpen, State.findCond, List.isSome_find?]

/-- The table alone says what is open. -/
theorem isOpen_congr {s t : State} (h : t.cu.conditions = s.cu.conditions) (svc : Option Nat) (c : CondClass)
    (k : Option Nat) : t.isOpen svc c k = s.isOpen svc c k := by
  rw [isOpen_eq_any, isOpen_eq_any, h]

theorem Condition.named_iff (d : Condition) (svc : Option Nat) (c : CondClass) (k : Option Nat) :
    d.named svc c k = true ↔ d.service = svc ∧ d.cls = c ∧ d.slot = k := by
  simp [Condition.named, and_assoc]

/-- A closed condition is not open. -/
theorem closeCond_isOpen_same (i : Nat) (c : CondClass) (k : Option Nat) (g : CloseCause) (s : State) :
    (closeCond i c k g s).isOpen (some i) c k = false := by
  cases ho : s.isOpen (some i) c k with
  | true => simp [isOpen_eq_any, closeCond_conditions i c k g s ho]
  | false =>
    have unfound : s.findCond (some i) c k = none := by simpa [State.isOpen] using ho
    simp [closeCond, unfound, ho]

/-- The closing of a condition leaves every other one as it is. -/
theorem closeCond_isOpen_other {i : Nat} {c : CondClass} {k : Option Nat} (g : CloseCause) (s : State) {svc : Option Nat}
    {c' : CondClass} {k' : Option Nat} (h : ¬ (svc = some i ∧ c' = c ∧ k' = k)) :
    (closeCond i c k g s).isOpen svc c' k' = s.isOpen svc c' k' := by
  cases ho : s.isOpen (some i) c k with
  | true =>
    rw [isOpen_eq_any, isOpen_eq_any, closeCond_conditions i c k g s ho, List.any_filter]
    refine congrArg _ (funext fun d => ?_)
    cases hd : d.named svc c' k' with
    | false => simp
    | true =>
      rw [Condition.named_iff] at hd
      have : d.named (some i) c k = false := by
        rw [← Bool.not_eq_true, Condition.named_iff, hd.1, hd.2.1, hd.2.2]
        exact h
      simp [this]
  | false =>
    have unfound : s.findCond (some i) c k = none := by simpa [State.isOpen] using ho
    simp [closeCond, unfound]

/-- A condition that an enabled service reports is open. -/
theorem openCond_isOpen_same (i : Nat) (c : CondClass) (k : Option Nat) (g : Option GapCause) (s : State)
    (he : (s.svc i).profile.enabled = true) : (openCond i c k g s).isOpen (some i) c k = true := by
  cases ho : s.isOpen (some i) c k with
  | true => rw [openCond_ignored _ _ _ _ _ (.inr ho), ho]
  | false => simp [isOpen_eq_any, openCond_conditions i c k g s he ho, Condition.named]

/-- The opening of a condition leaves every other one as it is. -/
theorem openCond_isOpen_other {i : Nat} {c : CondClass} {k : Option Nat} (g : Option GapCause) (s : State)
    {svc : Option Nat} {c' : CondClass} {k' : Option Nat} (h : ¬ (svc = some i ∧ c' = c ∧ k' = k)) :
    (openCond i c k g s).isOpen svc c' k' = s.isOpen svc c' k' := by
  by_cases ignored : (s.svc i).profile.enabled = false ∨ s.isOpen (some i) c k = true
  · rw [openCond_ignored _ _ _ _ _ ignored]
  · simp only [not_or, Bool.not_eq_false, Bool.not_eq_true] at ignored
    have new : (⟨c, some i, k, g, s.now, s.nextSeq⟩ : Condition).named svc c' k' = false := by
      rw [← Bool.not_eq_true, Condition.named_iff]
      exact fun ⟨h1, h2, h3⟩ => h ⟨h1.symm, h2.symm, h3.symm⟩
    simp [isOpen_eq_any, openCond_conditions i c k g s ignored.1 ignored.2, new]

/-! ### The loss of a feed (R14, R15, R37) -/

theorem exec_waitExpiry (i : Nat) (s : State) :
    exec (.waitExpiry i) s = .next (if (s.svc i).feed.waitDue s.tb.stationTime then settle (goLost i s) else s) := rfl

theorem exec_audioTimeoutExpiry (i : Nat) (s : State) : exec (.audioTimeoutExpiry i) s =
    .next (if (s.svc i).feed.timeoutDue s.tb.stationTime (s.svc i).profile.feedTimeout then settle (goLost i s)
      else s) := rfl

/-- A service whose feed is lost at a tick: FI's state, and LE's cleared with the loss's start (R15, R37). -/
def Service.loseFeed (now : Nat) (v : Service) : Service :=
  { v with feed := { v.feed with state := .lost }, le := { Loudness.reset with lossStart := some now } }

/-- The feed lost and FEED_LOST reported, before LE takes the loss. -/
def lostReported (i : Nat) (s : State) : State :=
  openCond i .feedLost none none (s.modFeed i fun f => { f with state := .lost })

theorem lostReported_only (i : Nat) (s : State) :
    OnlyLog (s.modFeed i fun f => { f with state := .lost }) (lostReported i s) := openCond_only _ _ _ _ _

/-- LE takes the loss at the tick at which it is reported (R37). -/
theorem goLost_eq (i : Nat) (s : State) : goLost i s = closeCond i .deadAir none .feedLost
    ((lostReported i s).modLe i fun l => { l.cleared with lossStart := some s.tb.stationTime }) := by
  have now : (lostReported i s).now = s.tb.stationTime := congrArg TimeBase.stationTime (lostReported_only i s).tb
  rw [← now]
  rfl

/-- A loss of feed is the service's change, and else the log's and the condition table's (R15, R37). -/
theorem goLost_only (i : Nat) (s : State) : OnlyLog (s.modSvc i (Service.loseFeed s.tb.stationTime)) (goLost i s) := by
  have change := (lostReported_only i s).modSvc i fun v =>
    { v with le := { v.le.cleared with lossStart := some s.tb.stationTime } }
  rw [State.modFeed, State.modSvc_modSvc] at change
  rw [goLost_eq]
  exact change.trans (closeCond_only _ _ _ _ _)

/-- At a loss DEAD_AIR closes, and FEED_LOST is open for an enabled service (R37). -/
theorem goLost_conditions (i : Nat) (s : State) (hi : i < s.services.length) :
    (goLost i s).isOpen (some i) .deadAir none = false ∧
      ((s.svc i).profile.enabled = true → (goLost i s).isOpen (some i) .feedLost none = true) := by
  refine ⟨closeCond_isOpen_same _ _ _ _ _, fun enabled => ?_⟩
  have lost : ((s.modFeed i fun f => { f with state := .lost }).svc i).profile.enabled = true := by
    rw [State.modFeed, State.modSvc_svc_same _ _ _ hi]
    exact enabled
  exact (closeCond_isOpen_other _ _ (by simp)).trans (openCond_isOpen_same i .feedLost none none _ lost)

/-- Settles O11: either expiry, once due, is the loss of the feed. -/
theorem feedExpiryLosesFeed : Obligations.FeedExpiryLosesFeed := by
  unfold Obligations.FeedExpiryLosesFeed
  intro s i hi sixteen
  refine ⟨fun e due => ⟨settle (goLost i s), ?_, ?_⟩, fun notDue => by rw [exec_waitExpiry, notDue]; rfl,
    fun notDue => by rw [exec_audioTimeoutExpiry, notDue]; rfl⟩
  · rcases due with ⟨rfl, due⟩ | ⟨rfl, due⟩
    · rw [exec_waitExpiry, due]; rfl
    · rw [exec_audioTimeoutExpiry, due]; rfl
  · have lost := goLost_only i s
    have stands := settle_same (goLost i s)
    have conditions := goLost_conditions i s (sixteen ▸ hi)
    simp only [isOpen_congr stands.conditions]
    exact ⟨stands.services.trans lost.services, stands.tb.trans lost.tb,
      stands.free.trans (congrArg Pool.free lost.pool :), stands.sp.trans lost.sp,
      stands.extents.trans (congrArg Archive.extents lost.am), stands.writeQueue.trans lost.writeQueue, conditions⟩

end Sys2Proof.Machine
end

section
/-! SUPPORT. What the operations of one service's blocks leave unchanged: everything of the other services, of TB, of the
port, and of AM and SP, and the parts of the service itself that an operation does not name. -/

namespace Sys2Proof.Machine

/-! ### The frame of an operation on one service -/

/-- An operation of service `i` that keeps `keep` of it, and whether its FEED_LOST is open. -/
structure WithinService {α : Type} (keep : Service → α) (i : Nat) (s t : State) : Prop where
  part : t.part = s.part
  tb : t.tb = s.tb
  feedBytes : t.feedBytes = s.feedBytes
  feedLost : t.feedLost = s.feedLost
  am : t.am = s.am
  sp : t.sp = s.sp
  triggers : t.triggers = s.triggers
  pending : t.pending = s.pending
  reply : t.lc.reply = s.lc.reply
  sending : t.lc.sending = s.lc.sending
  length : t.services.length = s.services.length
  others : ∀ j, j ≠ i → t.svc j = s.svc j
  kept : keep (t.svc i) = keep (s.svc i)
  lostOpen : t.isOpen (some i) .feedLost none = s.isOpen (some i) .feedLost none

namespace WithinService

variable {α β : Type} {keep : Service → α} {i : Nat} {s t u : State}

theorem refl (keep : Service → α) (i : Nat) (s : State) : WithinService keep i s s := by
  constructor <;> intros <;> rfl

theorem trans (h : WithinService keep i s t) (k : WithinService keep i t u) : WithinService keep i s u where
  part := k.part.trans h.part
  tb := k.tb.trans h.tb
  feedBytes := k.feedBytes.trans h.feedBytes
  feedLost := k.feedLost.trans h.feedLost
  am := k.am.trans h.am
  sp := k.sp.trans h.sp
  triggers := k.triggers.trans h.triggers
  pending := k.pending.trans h.pending
  reply := k.reply.trans h.reply
  sending := k.sending.trans h.sending
  length := k.length.trans h.length
  others j hj := (k.others j hj).trans (h.others j hj)
  kept := k.kept.trans h.kept
  lostOpen := k.lostOpen.trans h.lostOpen

/-- Less is kept where more is. -/
theorem mono {keep' : Service → β} (h : WithinService keep i s t) (less : ∀ v w, keep v = keep w → keep' v = keep' w) :
    WithinService keep' i s t :=
  { h with kept := less _ _ h.kept }

/-- What keeps the whole service keeps every part of it. -/
theorem ofWhole (h : WithinService id i s t) : WithinService keep i s t := h.mono fun _ _ => congrArg keep

/-- An operation of the log and the condition table that leaves FEED_LOST keeps the service. -/
theorem ofLog (h : OnlyLog s t) (lost : t.isOpen (some i) .feedLost none = s.isOpen (some i) .feedLost none) :
    WithinService keep i s t :=
  ofWhole
    { h with
      length := congrArg List.length h.services
      others := fun j _ => by rw [State.svc, State.svc, h.services]
      kept := by rw [State.svc, State.svc, h.services]
      lostOpen := lost }

theorem logTake (svc : Option Nat) (b : Body) (s : State) : WithinService keep i s (logTake svc b s) :=
  ofLog (logTake_only svc b s) (isOpen_congr (logTake_conditions svc b s) _ _ _)

theorem logReserve (n : Nat) (s : State) : WithinService keep i s (logReserve n s) :=
  ofLog (logReserve_only n s) (isOpen_congr (logReserve_same n s).conditions _ _ _)

theorem openCond {c : CondClass} (hc : c ≠ .feedLost) (k : Option Nat) (g : Option GapCause) (s : State) :
    WithinService keep i s (openCond i c k g s) :=
  ofLog (openCond_only _ _ _ _ _) (openCond_isOpen_other _ _ fun h => hc h.2.1.symm)

theorem closeCond {c : CondClass} (hc : c ≠ .feedLost) (k : Option Nat) (g : CloseCause) (s : State) :
    WithinService keep i s (closeCond i c k g s) :=
  ofLog (closeCond_only _ _ _ _ _) (closeCond_isOpen_other _ _ fun h => hc h.2.1.symm)

theorem modSvc {f : Service → Service} (hf : ∀ v, keep (f v) = keep v) (s : State) :
    WithinService keep i s (s.modSvc i f) where
  part := rfl
  tb := rfl
  feedBytes := rfl
  feedLost := rfl
  am := rfl
  sp := rfl
  triggers := rfl
  pending := rfl
  reply := rfl
  sending := rfl
  length := List.length_modify ..
  others _ hj := State.modSvc_svc_other _ _ (Ne.symm hj)
  kept := State.modSvc_svc_keeps keep s i i hf
  lostOpen := rfl

theorem modPool (f : Pool → Pool) (s : State) : WithinService keep i s (s.modPool f) := by
  constructor <;> intros <;> rfl

theorem modCtx (c : Nat) (f : Context → Context) (s : State) : WithinService keep i s (s.modCtx c f) := modPool _ s

theorem modQueue (f : List Buffer → List Buffer) (s : State) : WithinService keep i s (s.modQueue f) := by
  constructor <;> intros <;> rfl

/-- A context joins the verdict queue. -/
theorem queueVerdict (c : Nat) (s : State) :
    WithinService keep i s (s.modCu fun u => { u with queue := u.queue ++ [c] }) := by
  constructor <;> intros <;> rfl

theorem foldl {γ : Type} {f : State → γ → State} (h : ∀ s a, WithinService keep i s (f s a)) (l : List γ) (s : State) :
    WithinService keep i s (l.foldl f s) := by
  induction l generalizing s with
  | nil => exact refl keep i s
  | cons a l ih => exact (h s a).trans (ih _)

theorem grouped {f : State → State} (h : ∀ s, WithinService keep i s (f s)) (s : State) :
    WithinService keep i s (grouped f s) := (logReserve _ s).trans (h _)

theorem ite {c : Prop} [Decidable c] (h : WithinService keep i s t) (k : WithinService keep i s u) :
    WithinService keep i s (if c then t else u) := by
  split
  · exact h
  · exact k

end WithinService

/-! ### What the blocks of a service keep of it -/

/-- What ST's hand-offs keep of a service: SC's slots and requirement and CU's tally may change. -/
def Service.besideHandOff (v : Service) : Profile × Feed × Loudness × Segments × List Cue × Recorder :=
  (v.profile, v.feed, v.le, v.st, v.sc.queue, v.rc)

/-- What the Segment Tracker keeps of a service. -/
def Service.besideSegments (v : Service) : Profile × Feed × Loudness × List Cue × Recorder :=
  (v.profile, v.feed, v.le, v.sc.queue, v.rc)

/-- What every unit keeps of a service once FI has taken it: FI's state, and where its loss started. -/
def Service.besideUnits (v : Service) : Profile × Feed × Option Nat := (v.profile, v.feed, v.le.lossStart)

theorem WithinService.ofHandOff {i : Nat} {s t : State} (h : WithinService Service.besideHandOff i s t) :
    WithinService Service.besideSegments i s t :=
  h.mono fun v w e => by
    simp only [Service.besideHandOff, Prod.mk.injEq] at e
    obtain ⟨profile, feed, le, -, queue, rc⟩ := e
    simp only [Service.besideSegments, profile, feed, le, queue, rc]

theorem WithinService.ofSegments {i : Nat} {s t : State} (h : WithinService Service.besideSegments i s t) :
    WithinService Service.besideUnits i s t :=
  h.mono fun v w e => by
    simp only [Service.besideSegments, Prod.mk.injEq] at e
    obtain ⟨profile, feed, le, -⟩ := e
    simp only [Service.besideUnits, profile, feed, le]

/-! ### Updates of one block of the service -/

section Blocks

variable (i : Nat) (s : State)

theorem modTally_within (f : Tally → Tally) : WithinService Service.besideHandOff i s (s.modTally i f) :=
  .modSvc (f := fun v => { v with tally := f v.tally }) (fun _ => rfl) s

theorem modSlot_within (k : Nat) (f : Slot → Slot) : WithinService Service.besideHandOff i s (s.modSlot i k f) :=
  .modSvc (f := fun v => { v with sc := { v.sc with slots := v.sc.slots.modify k f } }) (fun _ => rfl) s

theorem setRequirement_within (r : Option Requirement) :
    WithinService Service.besideHandOff i s (s.modSc i fun c => { c with requirement := r }) :=
  .modSvc (f := fun v => { v with sc := { v.sc with requirement := r } }) (fun _ => rfl) s

theorem modSt_within (f : Segments → Segments) : WithinService Service.besideSegments i s (s.modSt i f) :=
  .modSvc (f := fun v => { v with st := f v.st }) (fun _ => rfl) s

theorem modSc_within (f : Subtitles → Subtitles) : WithinService Service.besideUnits i s (s.modSc i f) :=
  .modSvc (f := fun v => { v with sc := f v.sc }) (fun _ => rfl) s

theorem modRc_within (f : Recorder → Recorder) : WithinService Service.besideUnits i s (s.modRc i f) :=
  .modSvc (f := fun v => { v with rc := f v.rc }) (fun _ => rfl) s

theorem modLe_within (f : Loudness → Loudness) (hf : ∀ l, (f l).lossStart = l.lossStart) :
    WithinService Service.besideUnits i s (s.modLe i f) :=
  .modSvc (f := fun v => { v with le := f v.le }) (fun v => by simp only [Service.besideUnits, hf]) s

end Blocks

/-! ### Segments (chapter 4) -/

theorem closeGap_within (i k : Nat) (cause : CloseCause) (s : State) :
    WithinService Service.besideHandOff i s (closeGap i k cause s) :=
  .ite ((modSlot_within i s k _).trans (.closeCond (by decide) _ _ _)) (.refl _ i s)

theorem closeLapsed_within (i k : Nat) (cause : CloseCause) (s : State) :
    WithinService Service.besideHandOff i s (closeLapsed i k cause s) :=
  .ite ((modSlot_within i s k _).trans (.closeCond (by decide) _ _ _)) (.refl _ i s)

theorem closeGaps_within (i : Nat) (s : State) : WithinService Service.besideHandOff i s (closeGaps i s) :=
  .grouped (fun _ => .foldl (fun _ _ => closeGap_within _ _ _ _) _ _) s

theorem handRequirement_within (i : Nat) (s : State) : WithinService Service.besideHandOff i s (handRequirement i s) :=
  .ite (setRequirement_within i s _) ((setRequirement_within i s _).trans (closeGaps_within i _))

theorem handCounts_within (i : Nat) (s : State) : WithinService Service.besideHandOff i s (handCounts i s) :=
  .trans (modTally_within i s _) (show WithinService _ i _ (deriveActive i _) from modTally_within i _ _)

theorem handOff_within (i : Nat) (s : State) : WithinService Service.besideHandOff i s (handOff i s) :=
  (handRequirement_within i s).trans (handCounts_within i _)

theorem openContext_within (i depth : Nat) (e : StackEntry) (continued : Bool) (s : State) :
    WithinService id i s (openContext i depth e continued s).1 := by
  unfold openContext
  split
  · exact .logTake _ _ s
  · exact (WithinService.modPool _ s).trans (.modCtx _ _ _)

theorem settleContext_within (i c : Nat) (s : State) : WithinService id i s (settleContext i c s) :=
  .foldl (fun t _ => .ite (.modCtx _ _ t) (.refl _ i t)) _ s

/-- The closing of an entry is the pool's, the verdict queue's and the log's. -/
theorem closeEntry_within (i : Nat) (e : StackEntry) (depth : Nat) (outward : List StackEntry) (cause : SegmentCause)
    (s : State) : WithinService id i s (closeEntry i e depth outward cause s) := by
  unfold closeEntry
  split
  · exact .logTake _ _ s
  · exact (((WithinService.modCtx _ _ s).trans (settleContext_within i _ _)).trans (.modCtx _ _ _)).trans
      (.queueVerdict _ _)

theorem closeInnermost_within (i : Nat) (cause : SegmentCause) (s : State) :
    WithinService Service.besideSegments i s (closeInnermost i cause s) := by
  unfold closeInnermost
  split
  · exact .refl _ i s
  · exact (closeEntry_within i _ _ _ _ s).ofWhole.trans (modSt_within i _ _)

theorem closeInner_within (i : Nat) (cause : SegmentCause) (n : Nat) (s : State) :
    WithinService Service.besideSegments i s (closeInner i cause n s) := by
  induction n generalizing s with
  | zero => exact .refl _ i s
  | succ n ih => exact (closeInnermost_within i cause s).trans (ih _)

theorem startMarker_within (i : Nat) (kind : SegmentKind) (id : Nat) (req : Option Requirement) (s : State) :
    WithinService Service.besideSegments i s (startMarker i kind id req s) := by
  have pushed (e : StackEntry) (depth : Nat) (f : Segments → Segments) :=
    ((openContext_within i depth e false s).ofWhole.trans (modSt_within i _ f)).trans (handOff_within i _).ofHandOff
  exact .ite (.logTake _ _ s) (.ite ((modSt_within i s _).trans (.logTake _ _ _)) (pushed _ _ _))

theorem endMarker_within (i id : Nat) (s : State) : WithinService Service.besideSegments i s (endMarker i id s) := by
  unfold endMarker
  simp only
  split
  · exact (((WithinService.logReserve _ s).trans (closeInner_within i _ _ _)).trans (closeInnermost_within i _ _)).trans
      (handOff_within i _).ofHandOff
  · exact .ite (modSt_within i s _) (.logTake _ _ s)

theorem continueEntry_within (i k : Nat) (s : State) :
    WithinService Service.besideSegments i s (continueEntry i k s) := by
  have reopened (e : StackEntry) (depth : Nat) (t : State) (f : Segments → Segments) :=
    ((openContext_within i depth e true t).ofWhole.trans (modSt_within i _ f)).trans (handOff_within i _).ofHandOff
  unfold continueEntry
  simp only
  split
  · exact .refl _ i s
  · exact (closeEntry_within i _ _ _ _ s).ofWhole.trans (reopened _ _ _ _)

theorem limitContext_within (i c : Nat) (s : State) :
    WithinService Service.besideSegments i s (limitContext i c s) := by
  unfold limitContext
  split
  · exact .refl _ i s
  · exact continueEntry_within i _ s

/-! ### Loudness (chapter 2) -/

theorem creditBlock_within (i : Nat) (l : Option Int) (mom : Int) (st : Option Int) (s : State) :
    WithinService Service.besideSegments i s (creditBlock i l mom st s) := by
  unfold creditBlock
  split
  · exact .refl _ i s
  · exact .ite ((WithinService.modCtx _ _ s).trans (limitContext_within i _ _)) (.modCtx _ _ s)

theorem countDeadAir_within (i : Nat) (mom : Int) (s : State) :
    WithinService Service.besideUnits i s (countDeadAir i mom s) := by
  have counted (run : Nat) := modLe_within i s (fun l => { l with silenceRun := run }) fun _ => rfl
  exact .ite (.ite ((counted _).trans (.openCond (by decide) _ _ _)) (counted _))
    ((counted _).trans (.closeCond (by decide) _ _ _))

theorem completeSubBlock_within (i : Nat) (s : State) : WithinService Service.besideUnits i s (completeSubBlock i s) := by
  have completed := modLe_within i s (fun l => l.completeSubBlock (s.svc i).profile) fun _ => rfl
  exact .ite ((completed.trans (creditBlock_within i _ _ _ _).ofSegments).trans (countDeadAir_within i _ _)) completed

theorem creditPeak_within (i : Nat) (peak : Int) (s : State) : WithinService id i s (creditPeak i peak s) := by
  unfold creditPeak
  split
  · exact .refl _ i s
  · exact .ite (((WithinService.modCtx _ _ s).trans (.modCtx _ _ _)).trans (.logTake _ _ _)) (.modCtx _ _ s)

theorem takeFrame_within (i : Nat) (s : State) (xs : List Int) :
    WithinService Service.besideUnits i s (takeFrame i s xs) := by
  have framed := modLe_within i s (fun l => l.frame (s.svc i).profile xs) fun _ => rfl
  exact .ite (framed.trans (completeSubBlock_within i _)) framed

/-- The measuring of an AUDIO unit keeps FI's state of the service and where its loss started. -/
theorem audioUnit_within (i : Nat) (frames : List (List Int)) (s : State) :
    WithinService Service.besideUnits i s (audioUnit i frames s) :=
  (creditPeak_within i _ s).ofWhole.trans (.foldl (takeFrame_within i) _ _)

/-! ### Subtitles (chapter 5) -/

theorem carryUnit_within (i k : Nat) (s : State) : WithinService Service.besideHandOff i s (carryUnit i k s) :=
  (modSlot_within i s k _).trans (closeLapsed_within i k _ _)

theorem cueUnit_within (i : Nat) (c : Cue) (s : State) : WithinService Service.besideUnits i s (cueUnit i c s) := by
  have refused : WithinService Service.besideUnits i s (refuseCue i c s) :=
    .ite (.refl _ i s) ((modSc_within i s _).trans (.logTake _ _ _))
  exact .ite (modSc_within i s _) (.ite (modSc_within i s _) refused)

theorem uncover_within (i k : Nat) (s : State) : WithinService Service.besideHandOff i s (uncover i k s) :=
  modSlot_within i s k _

theorem clearUnit_within (i k id : Nat) (s : State) : WithinService Service.besideUnits i s (clearUnit i k id s) := by
  unfold clearUnit
  refine .trans ?_ (modSc_within i _ _)
  split
  · exact .refl _ i s
  · exact .ite (uncover_within i k s).ofHandOff.ofSegments (.refl _ i s)

/-! ### Recording (chapter 8) -/

theorem queueFilling_within (i : Nat) (close : Bool) (s : State) :
    WithinService Service.besideUnits i s (queueFilling i close s) := by
  unfold queueFilling
  split
  · exact .refl _ i s
  · exact (WithinService.modQueue _ s).trans (modRc_within i _ _)

theorem recordLoss_within (i : Nat) (cause : GapCause) (opened : GapRecord) (s : State) :
    WithinService Service.besideUnits i s (recordLoss i cause opened s) :=
  .ite ((WithinService.openCond (by decide) _ _ s).trans (modRc_within i _ _)) (.refl _ i s)

theorem intakeLoss_within (i : Nat) (cause : GapCause) (s : State) :
    WithinService Service.besideUnits i s (intakeLoss i cause s) :=
  (modRc_within i s _).trans (recordLoss_within i _ _ _)

theorem resumeRecording_within (i : Nat) (which : GapRecord) (s : State) :
    WithinService Service.besideUnits i s (resumeRecording i which s) :=
  .ite ((WithinService.closeCond (by decide) _ _ s).trans (modRc_within i _ _)) (.refl _ i s)

theorem beginBuffer_within {i : Nat} {s t : State} (h : beginBuffer i s = some t) :
    WithinService Service.besideUnits i s t := by
  unfold beginBuffer at h
  split at h
  · exact absurd h (by simp)
  · obtain rfl := Option.some.inj h
    exact modRc_within i s _

theorem appendBytes_within (i : Nat) (bytes : List Byte) (s : State) :
    WithinService Service.besideUnits i s (appendBytes i bytes s) := by
  unfold appendBytes
  split
  · exact .refl _ i s
  · exact .ite ((modRc_within i s _).trans (queueFilling_within i _ _)) (modRc_within i s _)

theorem takeRest_within (i : Nat) (rest : List Byte) (shortage : GapCause) (s : State) :
    WithinService Service.besideUnits i s (takeRest i rest shortage s) := by
  unfold takeRest
  split
  · exact .refl _ i s
  · split
    · exact intakeLoss_within i _ s
    · next begun => exact (beginBuffer_within begun).trans (appendBytes_within i _ _)

theorem stageBytes_within (i : Nat) (bytes : List Byte) (shortage : GapCause) (s : State) :
    WithinService Service.besideUnits i s (stageBytes i bytes shortage s) := by
  unfold stageBytes
  split
  · exact intakeLoss_within i _ s
  · next t begun =>
    have filling : WithinService Service.besideUnits i s t := by
      split at begun
      · exact Option.some.inj begun ▸ .refl _ i s
      · exact beginBuffer_within begun
    exact ((filling.trans (appendBytes_within i _ _)).trans (resumeRecording_within i _ _)).trans (takeRest_within i _ _ _)

theorem takePayload_within (i : Nat) (bytes : List Byte) (shortage : GapCause) (s : State) :
    WithinService Service.besideUnits i s (takePayload i bytes shortage s) :=
  .grouped (stageBytes_within i bytes shortage) s

theorem payloadUnit_within (i : Nat) (bytes : List Byte) (s : State) :
    WithinService Service.besideUnits i s (payloadUnit i bytes s) := by
  have queued := queueFilling_within i false s
  have lost (cause : GapCause) := queued.trans (intakeLoss_within i cause (queueFilling i false s))
  exact .ite queued (.ite (lost _) (.ite (lost _) (.ite (lost _) (takePayload_within i _ _ s))))

end Sys2Proof.Machine
end

section
/-! SUPPORT. The feed port: a unit that every check passes, the obligation of AUDIO, and those units that are discarded. -/

namespace Sys2Proof.Machine

theorem exec_feedUnit (bytes : List Byte) (s : State) : exec (.feedUnit bytes) s = execFeedUnit bytes s := rfl

/-! ### A unit that every check passes (R10, R12) -/

/-- What R10 asks of a whole unit of service `i` in RUN, name by name. -/
structure UnitTaken (s : State) (bytes : List Byte) (i : Nat) (b : FeedBody) : Prop where
  portEmpty : s.feedBytes = []
  notLost : s.feedLost = false
  whole : wholeUnit bytes = true
  check : (feedHeader bytes).checkOk = true
  service : (feedHeader bytes).service = i
  inRange : i < 16
  sixteen : s.services.length = 16
  run : s.part.state = .run
  enabled : (s.svc i).profile.enabled = true
  length : lengthFits (feedHeader bytes).kind (bytes.drop 8) = true
  body : bodyOf (feedHeader bytes).kind (bytes.drop 8) = some b
  allowed : bodyAllowed (s.svc i).profile b = true

theorem unitTaken_of_takes {s : State} {bytes : List Byte} {i : Nat} {b : FeedBody} (h : s.takes bytes i b = true) :
    UnitTaken s bytes i b := by
  simp only [State.takes, Bool.and_eq_true, Bool.not_eq_true', decide_eq_true_eq, List.isEmpty_iff, and_assoc] at h
  obtain ⟨portEmpty, notLost, whole, check, service, inRange, sixteen, run, enabled, length, body, allowed⟩ := h
  exact ⟨portEmpty, notLost, whole, check, service, inRange, sixteen, run, enabled, length, body, allowed⟩

/-- Only a kind code 1..6 has a length that fits (R11). -/
theorem kindNamed_of_lengthFits {kind : Nat} {body : List Byte} (h : lengthFits kind body = true) :
    kindNamed kind = true := by
  unfold lengthFits at h
  split at h <;> simp_all [kindNamed]

/-- A whole unit in RUN whose header check holds goes on to checks 2 to 6 (R10). -/
theorem exec_feedUnit_checked {s : State} {bytes : List Byte} (portEmpty : s.feedBytes = []) (notLost : s.feedLost = false)
    (whole : wholeUnit bytes = true) (run : s.part.state = .run) (check : (feedHeader bytes).checkOk = true) :
    exec (.feedUnit bytes) s =
      .next { settle (feedInRun (feedHeader bytes) (bytes.drop 8) s) with feedBytes := [] } := by
  rw [exec_feedUnit, execFeedUnit_whole bytes s whole portEmpty, checkHeader_passed bytes s (.inr (.inr check)),
    takeUnit, if_neg (by simp [notLost]), if_pos run]

/-- A header names a service that is known when the service is 0..15 and enabled (checks 2 and 3 of R10). -/
theorem knows_iff (s : State) (h : FeedHeader) :
    s.knows h = true ↔ h.service < 16 ∧ (s.svc h.service).profile.enabled = true := by
  rw [State.knows, Bool.and_eq_true, decide_eq_true_eq]
  rfl

/-- A unit that every check passes is routed, and the event ends (R12). -/
theorem exec_feedUnit_takes {s : State} {bytes : List Byte} {i : Nat} {b : FeedBody} (h : s.takes bytes i b = true) :
    exec (.feedUnit bytes) s = .next { settle (routeUnit i b s) with feedBytes := [] } := by
  have u := unitTaken_of_takes h
  have known : s.knows (feedHeader bytes) = true := by
    rw [knows_iff, u.service]
    exact ⟨u.inRange, u.enabled⟩
  have routed : feedInRun (feedHeader bytes) (bytes.drop 8) s = routeUnit i b s := by
    simp [feedInRun, known, kindNamed_of_lengthFits u.length, u.length, u.body, u.service, u.allowed]
  rw [exec_feedUnit_checked u.portEmpty u.notLost u.whole u.run u.check, routed]

/-! ### AUDIO (R13, R15, R38) -/

/-- FI's part of an AUDIO unit: the feed LIVE, and returned from a loss (R13, R15, R38). -/
def audioLive (i : Nat) (s : State) : State :=
  let s1 := s.modFeed i fun f => { f with state := .live, lastAudio := some s.now }
  if (s.svc i).feed.state = .lost then feedReturns i s1 else s1

theorem routeUnit_audio (i c : Nat) (frames : List (List Int)) (s : State) :
    routeUnit i (.audio c frames) s = audioUnit i frames (audioLive i s) := rfl

/-- A taken AUDIO unit is FI's part of it, the measuring, and the end of the event (R12, R13). -/
theorem exec_feedUnit_audio {s : State} {bytes : List Byte} {i c : Nat} {frames : List (List Int)}
    (h : s.takes bytes i (.audio c frames) = true) : exec (.feedUnit bytes) s =
      .next { settle (audioUnit i frames (audioLive i s)) with feedBytes := [] } := by
  rw [exec_feedUnit_takes h, routeUnit_audio]

/-- The return of a feed ends LE's loss, and else is the log's and the condition table's (R38). -/
theorem feedReturns_only (i : Nat) (s : State) :
    OnlyLog (s.modLe i fun l => { l with lossStart := none }) (feedReturns i s) :=
  (closeCond_only _ _ _ _ _).modSvc _ _

/-- A service whose feed is LIVE with its last audio at a tick, back from a loss if it was LOST (R13, R38). -/
def Service.live (now : Nat) (v : Service) : Service :=
  { v with
    feed := { v.feed with state := .live, lastAudio := some now }
    le := if v.feed.state = .lost then { v.le with lossStart := none } else v.le }

theorem audioLive_only (i : Nat) (s : State) : OnlyLog (s.modSvc i (Service.live s.tb.stationTime)) (audioLive i s) := by
  unfold audioLive
  by_cases lost : (s.svc i).feed.state = .lost
  · have change : s.modSvc i (Service.live s.tb.stationTime) =
        (s.modFeed i fun f => { f with state := .live, lastAudio := some s.now }).modLe i fun l =>
          { l with lossStart := none } := by
      rw [State.modFeed, State.modLe, State.modSvc_modSvc]
      exact State.modSvc_congr (by simp [Service.live, lost, State.now])
    rw [if_pos lost, change]
    exact feedReturns_only i _
  · have change : s.modSvc i (Service.live s.tb.stationTime) =
        s.modFeed i fun f => { f with state := .live, lastAudio := some s.now } :=
      State.modSvc_congr (by simp [Service.live, lost, State.now])
    rw [if_neg lost, change]
    exact .refl _

/-- A feed that returns from a loss has its FEED_LOST closed (R38). -/
theorem audioLive_lostOpen {i : Nat} {s : State} (lost : (s.svc i).feed.state = .lost) :
    (audioLive i s).isOpen (some i) .feedLost none = false := by
  rw [audioLive, if_pos lost]
  exact closeCond_isOpen_same _ _ _ _ _

/-- Settles O8: FI makes the feed LIVE, and the measuring after it keeps FI's state, the loss start and FEED_LOST. -/
theorem audioMakesFeedLive : Obligations.AudioMakesFeedLive := by
  unfold Obligations.AudioMakesFeedLive
  intro bytes s i c frames takes
  have taken := unitTaken_of_takes takes
  have live := audioLive_only i s
  have measured := audioUnit_within i frames (audioLive i s)
  have stands := settle_same (audioUnit i frames (audioLive i s))
  have svc := settle_svc (audioUnit i frames (audioLive i s))
  have before (j : Nat) : (audioLive i s).svc j = (s.modSvc i (Service.live s.tb.stationTime)).svc j := by
    rw [State.svc, live.services]; rfl
  have there : i < s.services.length := by rw [taken.sixteen]; exact taken.inRange
  have kept := measured.kept
  rw [before, State.modSvc_svc_same _ _ _ there] at kept
  simp only [Service.besideUnits, Prod.mk.injEq] at kept
  obtain ⟨-, feed, lossStart⟩ := kept
  rw [exec_feedUnit_audio takes]
  generalize settle (audioUnit i frames (audioLive i s)) = u at stands svc ⊢
  refine ⟨_, rfl, ?_, fun lost => ⟨?_, ?_⟩, fun j hj => ?_,
    stands.tb.trans (measured.tb.trans live.tb), stands.sp.trans (measured.sp.trans live.sp),
    stands.extents.trans (congrArg Archive.extents (measured.am.trans live.am))⟩
  · exact (congrArg Service.feed (svc i)).trans feed
  · exact (isOpen_congr stands.conditions _ _ _).trans (measured.lostOpen.trans (audioLive_lostOpen lost))
  · refine (congrArg (fun v => v.le.lossStart) (svc i)).trans (lossStart.trans ?_)
    simp [Service.live, lost]
  · exact (svc j).trans ((measured.others j hj).trans ((before j).trans (State.modSvc_svc_other _ _ (Ne.symm hj))))

end Sys2Proof.Machine
end

section
/-! SUPPORT. The disabling of a service (R17, R40, R73, R95, R118, R149), and the obligation of SVD. -/

namespace Sys2Proof.Machine

theorem exec_svd (i : Nat) (s : State) :
    exec (.svd i) s = .next (verbRow (.svd i) (opSvd i (fieldsOf (.svd i))) s) := rfl

/-! ### FI's and CU's part (R17, R111, R118) -/

/-- A service after FI's step of SVD: disabled, its feed OFF (R17). -/
def Service.disableFeed (v : Service) : Service :=
  { v with profile := { v.profile with enabled := false }, feed := { v.feed with state := .off } }

/-- A service whose tally has ended at SVD (R118). -/
def Service.endTally (v : Service) : Service := { v with tally := { v.tally with part := false, advertTicks := 0 } }

theorem disableFeed_only (i : Nat) (s : State) : OnlyLog (s.modSvc i Service.disableFeed) (disableFeed i s) := by
  have off := (closeCond_only i .feedLost none .disable (s.modFeed i fun f => { f with state := .off })).modSvc i
    fun v => { v with profile := { v.profile with enabled := false } }
  rw [State.modFeed, State.modSvc_modSvc] at off
  exact off.trans (logTake_only _ _ _)

theorem endTally_only (i : Nat) (s : State) : OnlyLog (s.modSvc i Service.endTally) (endTally i s) :=
  (show OnlyLog s (writeTally i false true s) from logTake_only _ _ _).modSvc i _

theorem closeAllConditions_only (i : Nat) (s : State) : OnlyLog s (closeAllConditions i s) := by
  unfold closeAllConditions
  generalize sortByKey (fun c : Condition => c.cls.rank * 8 + c.slot.getD 0) _ = open_conditions
  induction open_conditions generalizing s with
  | nil => exact .refl s
  | cons c rest ih => exact (closeCond_only i c.cls c.slot .disable s).trans (ih _)

/-- The entries of FI and CU at SVD: the service's change, and else the log's and the condition table's (R111). -/
theorem disableEntries_only (i : Nat) (s : State) :
    OnlyLog (s.modSvc i (Service.endTally ∘ Service.disableFeed)) (disableEntries i s) := by
  have ended := ((disableFeed_only i s).modSvc i Service.endTally).trans (endTally_only i _)
  rw [State.modSvc_modSvc] at ended
  exact ended.trans (closeAllConditions_only i _)

theorem grouped_disableEntries_only (i : Nat) (s : State) :
    OnlyLog (s.modSvc i (Service.endTally ∘ Service.disableFeed)) (grouped (disableEntries i) s) :=
  ((logReserve_only _ s).modSvc i _).trans (disableEntries_only i _)

/-! ### ST's part (R73) -/

/-- The closing of the innermost entry takes it from the stack (R73). -/
theorem closeInnermost_st (i : Nat) (cause : SegmentCause) (s : State) (hi : i < s.services.length) :
    ((closeInnermost i cause s).svc i).st = { (s.svc i).st with stack := (s.svc i).st.stack.tail } := by
  unfold closeInnermost
  split
  · next empty => rw [empty, List.tail_nil, ← empty]
  · next e outward stack =>
    have closed := closeEntry_within i e (outward.length + 1) outward cause s
    rw [State.modSt, State.modSvc_svc_same _ _ _ (closed.length ▸ hi), show (closeEntry i e _ outward cause s).svc i = s.svc i from
      closed.kept, stack]
    rfl

/-- The closing of as many entries as the stack holds leaves it empty (R73). -/
theorem closeInner_stack (i : Nat) (cause : SegmentCause) (n : Nat) (s : State) (hi : i < s.services.length)
    (hn : (s.svc i).st.stack.length ≤ n) : ((closeInner i cause n s).svc i).st.stack = [] := by
  induction n generalizing s with
  | zero => exact List.length_eq_zero_iff.mp (Nat.le_zero.mp hn)
  | succ n ih =>
    have one := closeInnermost_st i cause s hi
    refine ih _ ((closeInnermost_within i cause s).length ▸ hi) ?_
    rw [one, List.length_tail]
    omega

theorem disableSegments_within (i : Nat) (s : State) :
    WithinService Service.besideSegments i s (disableSegments i s) :=
  (((WithinService.logReserve _ s).trans (closeInner_within i _ _ _)).trans (modSt_within i _ _)).trans
    (handOff_within i _).ofHandOff

/-- ST's part of SVD leaves an empty stack and no overflow count (R73). -/
theorem disableSegments_st (i : Nat) (s : State) (hi : i < s.services.length) :
    ((disableSegments i s).svc i).st = ⟨[], 0⟩ := by
  have reserved (n : Nat) : (logReserve n s).services = s.services := (logReserve_only n s).services
  have closed (n : Nat) := closeInner_within i .disable (s.svc i).st.stack.length (logReserve n s)
  have empty (n : Nat) : ((closeInner i .disable (s.svc i).st.stack.length (logReserve n s)).svc i).st.stack = [] :=
    closeInner_stack i .disable _ _ (by rw [reserved]; exact hi) (by rw [State.svc, reserved]; exact Nat.le_refl _)
  unfold disableSegments
  simp only
  refine (congrArg (fun k => k.2.2.2.1) (handOff_within i _).kept).trans ?_
  simp only [Service.besideHandOff]
  rw [State.modSt, State.modSvc_svc_same _ _ _ (by rw [(closed _).length, reserved]; exact hi), empty]

/-! ### RC's part (R149) -/

/-- A service with no filling buffer and its marks at their reset values (R149). -/
def Service.closeRecording (v : Service) : Service := { v with rc := { v.rc with filling := none } }

/-- RC's part of SVD takes the service's filling buffer from it; TB and the line stand (R149). -/
theorem closeRecording_frame (i : Nat) (s : State) :
    (closeRecording i s).tb = s.tb ∧ (closeRecording i s).lc = s.lc ∧
      (closeRecording i s).services = (s.modSvc i Service.closeRecording).services := by
  have idle (t : State) : (completeIdle i t).tb = t.tb ∧ (completeIdle i t).lc = t.lc ∧
      (completeIdle i t).services = t.services := by
    unfold completeIdle
    split
    · split <;> exact ⟨rfl, rfl, rfl⟩
    · exact ⟨rfl, rfl, rfl⟩
  unfold closeRecording queueFilling
  cases filling : (s.svc i).rc.filling with
  | some b => exact ⟨rfl, rfl, rfl⟩
  | none =>
    rw [State.modSvc_eq_self (f := Service.closeRecording) (by simp [Service.closeRecording, ← filling])]
    simp only [Option.isSome_none, Bool.false_eq_true, if_false]
    split
    · exact ⟨rfl, rfl, rfl⟩
    · split
      · split
        · exact ⟨rfl, rfl, rfl⟩
        · exact idle s
      · exact idle s

/-! ### SVD as a whole (R17) -/

/-- A service whose meters and cues are cleared at SVD (R40, R95). -/
def Service.disableMeters (now : Nat) (v : Service) : Service :=
  { v with le := v.le.disabled, sc := v.sc.disabledAt now }

/-- The part at SVD with the service disabled and its meters and cues cleared, before ST's and RC's part. -/
def metersDisabled (i : Nat) (s : State) : State :=
  (grouped (disableEntries i) s).modSvc i (Service.disableMeters s.now)

theorem disableService_eq (i : Nat) (s : State) :
    disableService i s = clearMarks i (closeRecording i (disableSegments i (metersDisabled i s))) := rfl

/-- A service before ST's and RC's part of SVD. -/
def Service.disabledAt (now : Nat) (v : Service) : Service := v.disableFeed.endTally.disableMeters now

theorem metersDisabled_only (i : Nat) (s : State) : OnlyLog (s.modSvc i (Service.disabledAt s.now)) (metersDisabled i s) := by
  have cleared := (grouped_disableEntries_only i s).modSvc i (Service.disableMeters s.now)
  rw [State.modSvc_modSvc] at cleared
  exact cleared

/-- RC's part of SVD leaves the service without a filling buffer and its marks clear; the other services, TB and the line
stand (R149). -/
theorem clearMarks_closeRecording (i : Nat) (s : State) :
    let t := clearMarks i (closeRecording i s)
    t.tb = s.tb ∧ t.lc = s.lc ∧ t.services = (s.modSvc i fun v => { v with rc := ⟨none, none, none, .closed⟩ }).services := by
  obtain ⟨tb, lc, services⟩ := closeRecording_frame i s
  refine ⟨tb, lc, ?_⟩
  simp only [clearMarks, State.modRc, State.modSvc_services, services, List.modify_modify_eq]
  rfl

/-- What SVD leaves of the services, of TB and of the transmitter (R17, R40, R73, R95, R149). -/
theorem disableService_svc {i : Nat} {s : State} (hi : i < s.services.length) :
    let t := disableService i s
    t.tb = s.tb ∧ t.lc.sending = s.lc.sending ∧ (∀ j, j ≠ i → t.svc j = s.svc j) ∧
      (t.svc i).besideSegments = { (s.svc i).disabledAt s.now with rc := ⟨none, none, none, .closed⟩ }.besideSegments ∧
      (t.svc i).st = ⟨[], 0⟩ := by
  have off := metersDisabled_only i s
  have segments := disableSegments_within i (metersDisabled i s)
  obtain ⟨tb, lc, services⟩ := clearMarks_closeRecording i (disableSegments i (metersDisabled i s))
  have offSvc (j : Nat) : (metersDisabled i s).svc j = (s.modSvc i (Service.disabledAt s.now)).svc j := by
    rw [State.svc, off.services]; rfl
  have offLength : (metersDisabled i s).services.length = s.services.length := by rw [off.services]; simp
  have svc (j : Nat) : (disableService i s).svc j = ((disableSegments i (metersDisabled i s)).modSvc i
      fun v => { v with rc := ⟨none, none, none, .closed⟩ }).svc j := by
    rw [disableService_eq, State.svc, services]; rfl
  have there : i < (disableSegments i (metersDisabled i s)).services.length := by rw [segments.length, offLength]; exact hi
  rw [← disableService_eq] at tb lc
  refine ⟨tb.trans (segments.tb.trans off.tb), (congrArg Line.sending lc).trans (segments.sending.trans off.sending),
    fun j hj => ?_, ?_, ?_⟩
  · rw [svc, State.modSvc_svc_other _ _ (Ne.symm hj), segments.others j hj, offSvc, State.modSvc_svc_other _ _ (Ne.symm hj)]
  · have kept := segments.kept
    rw [offSvc, State.modSvc_svc_same _ _ _ hi] at kept
    simp only [Service.besideSegments, Prod.mk.injEq] at kept ⊢
    obtain ⟨profile, feed, le, queue, -⟩ := kept
    rw [svc, State.modSvc_svc_same _ _ _ there]
    exact ⟨profile, feed, le, queue, rfl⟩
  · rw [svc, State.modSvc_svc_same _ _ _ there]
    exact disableSegments_st i _ (by rw [offLength]; exact hi)

/-- SVD's operation on an enabled service (R17). -/
theorem opSvd_eq {i : Nat} {sent : List Text} {s : State} (hi : i < 16) (on : (s.svc i).profile.enabled = true) :
    opSvd i sent s = (disableService i s, some (words [ascii "=SVD", natText i])) := by
  simp only [opSvd, serviceOk, Config.serviceCount, hi, decide_true, inRange_true, on, if_true]
  rfl

/-- Settles O43: each block's part of SVD in turn, and the end of the event leaves the services. -/
theorem svdDisablesService : Obligations.SvdDisablesService := by
  unfold Obligations.SvdDisablesService
  intro s i ready hi sixteen on
  have sendable : sendable (.svd i) = true := sendable_ofNumber (by omega) rfl rfl rfl rfl
  have fits : fits (words [ascii "=SVD", natText i]) = true := fits_ofNumber rfl i
  have op := opSvd_eq (sent := fieldsOf (.svd i)) hi on
  obtain ⟨tb, sending, others, fields, st⟩ := disableService_svc (i := i) (s := s) (sixteen ▸ hi)
  have same := verbRow_same ready sendable op fits
  have svc (j : Nat) : (verbRow (.svd i) (opSvd i (fieldsOf (.svd i))) s).svc j = (disableService i s).svc j := by
    rw [State.svc, same.services]; rfl
  simp only [Service.besideSegments, Prod.mk.injEq] at fields
  obtain ⟨profile, feed, le, queue, rc⟩ := fields
  refine ⟨_, ⟨exec_svd i s, verbRow_answered _ _ _ _ _ ready sendable op fits (sending.trans (ready_parts ready).1)⟩, ?_⟩
  simp only [svc]
  exact ⟨by rw [profile]; rfl, feed, st, le, queue, rc, others, same.tb.trans tb⟩

end Sys2Proof.Machine
end

section
/-! SUPPORT. How bytes become units at the feed port, which units are discarded, and the obligation of both (R9, R10, R18,
R193). -/

namespace Sys2Proof.Machine

/-! ### What a unit leaves of the port -/

/-- The routing of a unit leaves the bytes that wait at the port. -/
theorem routeUnit_feedBytes (i : Nat) (b : FeedBody) (s : State) : (routeUnit i b s).feedBytes = s.feedBytes := by
  cases b with
  | audio c frames => exact (audioUnit_within i frames (audioLive i s)).feedBytes.trans (audioLive_only i s).feedBytes
  | cue slot id off dur chars => exact (cueUnit_within i _ s).feedBytes
  | clear slot id => exact (clearUnit_within i slot id s).feedBytes
  | carry slot => exact (carryUnit_within i slot s).feedBytes
  | markStart kind id req => exact (startMarker_within i kind id req s).feedBytes
  | markEnd id => exact (endMarker_within i id s).feedBytes
  | payload bytes => exact (payloadUnit_within i bytes s).feedBytes

theorem feedInRun_feedBytes (h : FeedHeader) (body : List Byte) (s : State) :
    (feedInRun h body s).feedBytes = s.feedBytes := by
  unfold feedInRun
  split
  · rfl
  split
  · rfl
  split
  · rfl
  split
  · exact routeUnit_feedBytes _ _ s
  · rfl

theorem feedBeforeRun_feedBytes (h : FeedHeader) (body : List Byte) (s : State) :
    (feedBeforeRun h body s).feedBytes = s.feedBytes := by
  unfold feedBeforeRun
  split
  · exact (takePayload_within h.service body .mount s).feedBytes
  · rfl

/-- The taking of a unit leaves the bytes that wait at the port. -/
theorem takeUnit_feedBytes (unit : List Byte) (s : State) : (takeUnit unit s).feedBytes = s.feedBytes := by
  unfold takeUnit
  split
  · rfl
  · refine (settle_same _).feedBytes.trans ?_
    split
    · exact feedInRun_feedBytes _ _ s
    · exact feedBeforeRun_feedBytes _ _ s

theorem checkHeader_feedBytes (bytes : List Byte) (s : State) : (checkHeader bytes s).feedBytes = s.feedBytes := by
  unfold checkHeader
  simp only
  split
  · rfl
  · dsimp only
    rw [(settle_same _).feedBytes]
    split <;> rfl

/-! ### Units that follow one another (R9, R193) -/

/-- A field that lies in the first bytes is read from them. -/
theorem fieldAt_append {u : List Byte} {offset width : Nat} (h : offset + width ≤ u.length) (v : List Byte) :
    fieldAt (u ++ v) offset width = fieldAt u offset width := by
  unfold fieldAt
  refine congrArg numberOf (List.map_congr_left fun k hk => ?_)
  have : offset + k < u.length := by have := List.mem_range.mp hk; omega
  rw [List.getD_eq_getElem?_getD, List.getD_eq_getElem?_getD, List.getElem?_append_left this]

/-- A whole header is read from its own bytes (R193). -/
theorem feedHeader_append {u : List Byte} (h : 8 ≤ u.length) (v : List Byte) : feedHeader (u ++ v) = feedHeader u := by
  simp only [feedHeader, fieldAt_append (show 0 + 2 ≤ u.length by omega), fieldAt_append (show 2 + 1 ≤ u.length by omega),
    fieldAt_append (show 3 + 4 ≤ u.length by omega), List.take_append_of_le_length h]

theorem checkHeader_append {u : List Byte} (h : 8 ≤ u.length) (v : List Byte) (s : State) :
    checkHeader (u ++ v) s = checkHeader u s := by
  have long : ¬ (u ++ v).length < 8 := by rw [List.length_append]; omega
  simp only [checkHeader, feedHeader_append h, long, Nat.not_lt.mpr h]

theorem eight_le_of_whole {u : List Byte} (h : wholeUnit u = true) : 8 ≤ u.length := by
  simp only [wholeUnit, decide_eq_true_eq] at h
  omega

/-- The front unit of bytes that begin with a whole unit is that unit. -/
theorem frontUnit_append {u : List Byte} (h : wholeUnit u = true) (v : List Byte) : frontUnit (u ++ v) = some u := by
  have long := eight_le_of_whole h
  simp only [wholeUnit, decide_eq_true_eq] at h
  simp only [frontUnit, feedHeader_append long, ← h, List.length_append, List.take_left']
  rw [if_pos ⟨by omega, by omega⟩]

/-- Fewer bytes than the header announces are no unit. -/
theorem frontUnit_short {bytes : List Byte} (h : bytes.length < 8 + (feedHeader bytes).length) :
    frontUnit bytes = none := if_neg fun k => Nat.not_le.mpr h k.2

/-- A unit has at least its header. -/
theorem frontUnit_length {bytes unit : List Byte} (h : frontUnit bytes = some unit) :
    8 ≤ unit.length ∧ 8 ≤ bytes.length := by
  unfold frontUnit at h
  simp only [Option.ite_none_right_eq_some, Option.some.injEq] at h
  obtain ⟨⟨long, enough⟩, rfl⟩ := h
  rw [List.length_take]
  omega

/-- Fuel for every byte is fuel enough. -/
theorem takeUnits_fuel (m n : Nat) (bytes : List Byte) (s : State) (hm : bytes.length ≤ m) (hn : bytes.length ≤ n) :
    takeUnits m bytes s = takeUnits n bytes s := by
  induction m generalizing n bytes s with
  | zero =>
    obtain rfl := List.length_eq_zero_iff.mp (Nat.le_zero.mp hm)
    rw [takeUnits_nil, takeUnits_nil]
  | succ m ih =>
    cases n with
    | zero =>
      obtain rfl := List.length_eq_zero_iff.mp (Nat.le_zero.mp hn)
      rw [takeUnits_nil, takeUnits_nil]
    | succ n =>
      cases front : frontUnit bytes with
      | none => rw [takeUnits_none _ _ _ front, takeUnits_none _ _ _ front]
      | some unit =>
        obtain ⟨unitLong, long⟩ := frontUnit_length front
        simp only [takeUnits, front]
        exact ih _ _ _ (by rw [List.length_drop]; omega) (by rw [List.length_drop]; omega)

/-- Bytes that begin with a whole unit: the unit is taken, and its bytes leave the rest (R9). -/
theorem takeUnits_whole {u : List Byte} (h : wholeUnit u = true) (v : List Byte) (s : State) :
    takeUnits (u ++ v).length (u ++ v) s = takeUnits v.length v (takeUnit u (checkHeader u s)) := by
  have long := eight_le_of_whole h
  obtain ⟨n, hn⟩ : ∃ n, (u ++ v).length = n + 1 := ⟨(u ++ v).length - 1, by rw [List.length_append]; omega⟩
  rw [hn, takeUnits, checkHeader_append long, frontUnit_append h]
  simp only [List.drop_left']
  exact takeUnits_fuel _ _ _ _ (by rw [List.length_append] at hn; omega) (Nat.le_refl _)

/-- Bytes that complete the unit in progress and no more: the unit is taken and nothing stays (R9). -/
theorem execFeedUnit_completes {bytes : List Byte} {s : State} (h : wholeUnit (s.feedBytes ++ bytes) = true) :
    execFeedUnit bytes s =
      .next { takeUnit (s.feedBytes ++ bytes) (checkHeader (s.feedBytes ++ bytes) s) with feedBytes := [] } := by
  have one := takeUnits_whole h [] s
  rw [List.append_nil, takeUnits_nil] at one
  rw [execFeedUnit, ← List.length_append, one]

/-- Units that arrive together arrive one after the other (R9). -/
theorem exec_feedUnit_append {u v : List Byte} {s t : State} (port : s.feedBytes = []) (h : wholeUnit u = true)
    (first : exec (.feedUnit u) s = .next t) : exec (.feedUnit (u ++ v)) s = exec (.feedUnit v) t := by
  rw [exec_feedUnit, execFeedUnit_whole u s h port, Host.Outcome.next.injEq] at first
  have empty : (takeUnit u (checkHeader u s)).feedBytes = [] := by
    rw [takeUnit_feedBytes, checkHeader_feedBytes, port]
  have taken : takeUnit u (checkHeader u s) = t := by
    rw [← first, ← empty]
  rw [taken] at empty
  rw [exec_feedUnit, exec_feedUnit, execFeedUnit, execFeedUnit, port, empty, List.length_nil, Nat.zero_add, Nat.zero_add, List.nil_append,
    List.nil_append, takeUnits_whole h, taken]

/-! ### Discards (R10, R11) -/

/-- A discard that is counted leaves a still part still. -/
theorem settle_countDiscard {s : State} (still : s.still = true) (i : Nat) : settle (countDiscard i s) = countDiscard i s :=
  settle_still (countDiscard i s) still

/-- Check 1's count, at the 8th header byte (R10, R193). -/
theorem checkHeader_counts {bytes : List Byte} {s : State} (notLost : s.feedLost = false) (still : s.still = true)
    (header : 8 ≤ bytes.length) (bad : (feedHeader bytes).checkOk = false) :
    checkHeader bytes s =
      { (if s.part.state = .run ∧ (feedHeader bytes).service < 16 ∧
            (s.svc (feedHeader bytes).service).profile.enabled = true then
          countDiscard (feedHeader bytes).service s else s) with feedLost := true } := by
  rw [checkHeader_failed bytes s notLost header bad]
  simp only [knows_iff]
  split
  · rw [settle_countDiscard still]
  · rw [settle_still s still]

/-- A unit of a service that is not known is discarded uncounted (checks 2 and 3 of R10). -/
theorem feedInRun_unknown {h : FeedHeader} {s : State} (unknown : ¬ s.knows h = true) (body : List Byte) :
    feedInRun h body s = s := if_pos unknown

/-- A unit of a known service whose body some check refuses is discarded and counted (checks 4 to 6 of R10). -/
theorem feedInRun_counts {h : FeedHeader} {s : State} {body : List Byte} (known : s.knows h = true)
    (refused : lengthFits h.kind body = true → ∀ b, bodyOf h.kind body = some b →
      bodyAllowed (s.svc h.service).profile b = false) :
    feedInRun h body s = countDiscard h.service s := by
  rw [feedInRun, if_neg (not_not.mpr known)]
  by_cases fits : lengthFits h.kind body = true
  · rw [if_neg (by simp [fits, kindNamed_of_lengthFits fits])]
    cases read : bodyOf h.kind body with
    | none => rfl
    | some b => simp [refused fits b read]
  · rw [if_pos (.inr fits)]

/-- The length of a body does not fit its kind (R11, check 5). -/
theorem not_lengthFits {kind : Nat} {body : List Byte}
    (h : (kind = 1 ∧ (body.length < 3 ∨ body.length ≠ 3 + 3 * fieldAt body 0 2 * fieldAt body 2 1)) ∨
      (kind = 2 ∧ body.length ≠ 8) ∨ (kind = 3 ∧ body.length ≠ 3) ∨ (kind = 4 ∧ body.length ≠ 1) ∨
      (kind = 5 ∧ body.length ≠ 7) ∨ (kind = 6 ∧ (body.length < 1 ∨ 4096 < body.length))) :
    ¬ lengthFits kind body = true := by
  rcases h with ⟨rfl, h⟩ | ⟨rfl, h⟩ | ⟨rfl, h⟩ | ⟨rfl, h⟩ | ⟨rfl, h⟩ | ⟨rfl, h⟩ <;>
    simp only [lengthFits, decide_eq_true_eq] <;> omega

/-- A slot is expected when its bit is in the mask (R93). -/
theorem slotExpected_false {mask k : Nat} (h : 3 < k ∨ mask.testBit k = false) : slotExpected mask k = false := by
  rcases h with h | h
  · simp [slotExpected, Nat.not_lt.mpr h]
  · simp [slotExpected, h]

/-- AUDIO of another channel count than the profile's, or with a count out of range, is not taken (R11). -/
theorem audio_refused {p : Profile} {body : List Byte}
    (h : fieldAt body 0 2 < 1 ∨ 480 < fieldAt body 0 2 ∨ fieldAt body 2 1 < 1 ∨ 6 < fieldAt body 2 1 ∨
      p.channels ≠ some (fieldAt body 2 1)) {b : FeedBody} (read : bodyOf 1 body = some b) :
    bodyAllowed p b = false := by
  simp only [bodyOf, audioBody, Option.ite_none_right_eq_some, Option.some.injEq] at read
  obtain ⟨range, rfl⟩ := read
  have channels : p.channels ≠ some (fieldAt body 2 1) := by
    rcases h with h | h | h | h | h
    · omega
    · omega
    · omega
    · omega
    · exact h
  exact decide_eq_false channels

/-- A CUE of a slot outside the mask, or with a field out of range, is not taken (R11). -/
theorem cue_refused {p : Profile} {body : List Byte}
    (h : (3 < fieldAt body 0 1 ∨ p.slotMask.testBit (fieldAt body 0 1) = false) ∨ 500 < fieldAt body 3 2 ∨
      fieldAt body 5 2 < 1 ∨ 3000 < fieldAt body 5 2 ∨ 240 < fieldAt body 7 1) {b : FeedBody}
    (read : bodyOf 2 body = some b) : bodyAllowed p b = false := by
  simp only [bodyOf, cueBody, Option.ite_none_right_eq_some, Option.some.injEq] at read
  obtain ⟨range, rfl⟩ := read
  rcases h with slot | h
  · exact slotExpected_false slot
  · omega

/-- A CLEAR of a slot above 3 is not read (R11). -/
theorem clear_refused {p : Profile} {body : List Byte} (h : 3 < fieldAt body 0 1) {b : FeedBody}
    (read : bodyOf 3 body = some b) : bodyAllowed p b = false := by
  simp only [bodyOf, if_neg (Nat.not_le.mpr h)] at read
  exact absurd read (by simp)

/-- A CARRY of a slot outside the mask is not taken (R11). -/
theorem carry_refused {p : Profile} {body : List Byte}
    (h : 3 < fieldAt body 0 1 ∨ p.slotMask.testBit (fieldAt body 0 1) = false) {b : FeedBody}
    (read : bodyOf 4 body = some b) : bodyAllowed p b = false := by
  simp only [bodyOf, Option.ite_none_right_eq_some, Option.some.injEq] at read
  obtain ⟨-, rfl⟩ := read
  exact slotExpected_false h

/-- A kind of segment has a code 1..6 (R11). -/
theorem kindOfCode_range {n : Nat} {k : SegmentKind} (h : kindOfCode n = some k) : 1 ≤ n ∧ n ≤ 6 := by
  unfold kindOfCode at h
  split at h <;> simp_all

/-- A requirement has a code 1..3 (R11). -/
theorem requirementOfCode_range {n : Nat} {r : Option Requirement} (h : requirementOfCode n = some r) :
    1 ≤ n ∧ n ≤ 3 := by
  unfold requirementOfCode at h
  split at h <;> simp_all

/-- A MARK that is read has its action, kind and requirement in their ranges (R11). -/
theorem markBody_range {body : List Byte} {b : FeedBody} (h : markBody body = some b) :
    (fieldAt body 0 1 = 1 ∨ fieldAt body 0 1 = 2) ∧ (1 ≤ fieldAt body 1 1 ∧ fieldAt body 1 1 ≤ 6) ∧
      (1 ≤ fieldAt body 6 1 ∧ fieldAt body 6 1 ≤ 3) := by
  unfold markBody at h
  split at h
  · next kind req action => exact ⟨.inl action, kindOfCode_range kind, requirementOfCode_range req⟩
  · next kind req action => exact ⟨.inr action, kindOfCode_range kind, requirementOfCode_range req⟩
  · exact absurd h (by simp)

/-- A MARK with a field out of range is not read (R11). -/
theorem mark_refused {p : Profile} {body : List Byte}
    (h : fieldAt body 0 1 < 1 ∨ 2 < fieldAt body 0 1 ∨ fieldAt body 1 1 < 1 ∨ 6 < fieldAt body 1 1 ∨
      fieldAt body 6 1 < 1 ∨ 3 < fieldAt body 6 1) {b : FeedBody} (read : bodyOf 5 body = some b) :
    bodyAllowed p b = false := by
  obtain ⟨action, kind, req⟩ := markBody_range read
  omega

/-- A body with a field outside its range, or against the profile, is not taken (R11, check 6). -/
theorem body_refused {p : Profile} {kind : Nat} {body : List Byte}
    (h : (kind = 1 ∧ (fieldAt body 0 2 < 1 ∨ 480 < fieldAt body 0 2 ∨ fieldAt body 2 1 < 1 ∨ 6 < fieldAt body 2 1 ∨
        p.channels ≠ some (fieldAt body 2 1))) ∨
      (kind = 2 ∧ ((3 < fieldAt body 0 1 ∨ p.slotMask.testBit (fieldAt body 0 1) = false) ∨ 500 < fieldAt body 3 2 ∨
        fieldAt body 5 2 < 1 ∨ 3000 < fieldAt body 5 2 ∨ 240 < fieldAt body 7 1)) ∨
      (kind = 3 ∧ 3 < fieldAt body 0 1) ∨
      (kind = 4 ∧ (3 < fieldAt body 0 1 ∨ p.slotMask.testBit (fieldAt body 0 1) = false)) ∨
      (kind = 5 ∧ (fieldAt body 0 1 < 1 ∨ 2 < fieldAt body 0 1 ∨ fieldAt body 1 1 < 1 ∨ 6 < fieldAt body 1 1 ∨
        fieldAt body 6 1 < 1 ∨ 3 < fieldAt body 6 1)))
    (b : FeedBody) (read : bodyOf kind body = some b) : bodyAllowed p b = false := by
  rcases h with ⟨rfl, h⟩ | ⟨rfl, h⟩ | ⟨rfl, h⟩ | ⟨rfl, h⟩ | ⟨rfl, h⟩
  · exact audio_refused h read
  · exact cue_refused h read
  · exact clear_refused h read
  · exact carry_refused h read
  · exact mark_refused h read

/-- A whole unit in RUN that fails check 1 leaves its count alone (R10). -/
theorem exec_feedUnit_badCheck {bytes : List Byte} {s : State} (port : s.feedBytes = []) (notLost : s.feedLost = false)
    (whole : wholeUnit bytes = true) (run : s.part.state = .run) (still : s.still = true)
    (bad : (feedHeader bytes).checkOk = false) :
    exec (.feedUnit bytes) s =
      if (feedHeader bytes).service < 16 ∧ (s.svc (feedHeader bytes).service).profile.enabled = true then
        .next (countDiscard (feedHeader bytes).service s) else .next s := by
  have restored : { s with feedBytes := [], feedLost := false } = s := by rw [← port, ← notLost]
  rw [exec_feedUnit, execFeedUnit_whole bytes s whole port,
    checkHeader_counts notLost still (eight_le_of_whole whole) bad]
  simp only [run, true_and, takeUnit, if_true]
  split
  · exact congrArg (fun u => Host.Outcome.next (countDiscard (feedHeader bytes).service u)) restored
  · exact congrArg Host.Outcome.next restored

/-- A whole unit in RUN that passes check 1 and that checks 4 to 6 refuse is counted (R10). -/
theorem exec_feedUnit_counts {bytes : List Byte} {s : State} (port : s.feedBytes = []) (notLost : s.feedLost = false)
    (whole : wholeUnit bytes = true) (run : s.part.state = .run) (still : s.still = true)
    (check : (feedHeader bytes).checkOk = true) (known : s.knows (feedHeader bytes) = true)
    (refused : lengthFits (feedHeader bytes).kind (bytes.drop 8) = true →
      ∀ b, bodyOf (feedHeader bytes).kind (bytes.drop 8) = some b →
        bodyAllowed (s.svc (feedHeader bytes).service).profile b = false) :
    exec (.feedUnit bytes) s = .next (countDiscard (feedHeader bytes).service s) := by
  have restored : { s with feedBytes := [] } = s := by rw [← port]
  rw [exec_feedUnit_checked port notLost whole run check, feedInRun_counts known refused, settle_countDiscard still]
  exact congrArg (fun u => Host.Outcome.next (countDiscard (feedHeader bytes).service u)) restored

/-- A whole unit in RUN of a service that is not known leaves no trace (R10). -/
theorem exec_feedUnit_unknown {bytes : List Byte} {s : State} (port : s.feedBytes = []) (notLost : s.feedLost = false)
    (whole : wholeUnit bytes = true) (run : s.part.state = .run) (still : s.still = true)
    (check : (feedHeader bytes).checkOk = true) (unknown : ¬ s.knows (feedHeader bytes) = true) :
    exec (.feedUnit bytes) s = .next s := by
  rw [exec_feedUnit_checked port notLost whole run check, feedInRun_unknown unknown, settle_still s still, ← port]

/-- Settles O7: bytes that wait, units that follow one another, and the discards of whole units check by check. -/
theorem feedUnitIsDiscarded : Obligations.FeedUnitIsDiscarded := by
  unfold Obligations.FeedUnitIsDiscarded
  refine ⟨fun bytes s short passed => ?_, fun bytes s notLost still header short bad => ?_,
    fun u v s t port whole first => exec_feedUnit_append port whole first, fun bytes s lost whole => ?_,
    fun bytes s port notLost whole run still => ⟨fun bad => ?_, fun check unknown => ?_, fun check known kind => ?_,
      fun check known length => ?_, fun check known _ field => ?_⟩⟩
  · rw [exec_feedUnit, execFeedUnit_part bytes s (frontUnit_short short), checkHeader_passed _ s passed]
  · rw [exec_feedUnit, execFeedUnit_part bytes s (frontUnit_short short), checkHeader_counts notLost still header bad]
    rfl
  · rw [exec_feedUnit, execFeedUnit_completes whole, checkHeader_passed _ s (.inl lost), takeUnit, if_pos lost]
  · exact exec_feedUnit_badCheck port notLost whole run still bad
  · exact exec_feedUnit_unknown port notLost whole run still check fun k => unknown ((knows_iff s _).mp k)
  · refine exec_feedUnit_counts port notLost whole run still check ((knows_iff s _).mpr known) fun fits => ?_
    have named := kindNamed_of_lengthFits fits
    simp only [kindNamed, decide_eq_true_eq] at named
    omega
  · exact exec_feedUnit_counts port notLost whole run still check ((knows_iff s _).mpr known) fun fits =>
      absurd fits (not_lengthFits length)
  · exact exec_feedUnit_counts port notLost whole run still check ((knows_iff s _).mpr known) fun _ => body_refused field

end Sys2Proof.Machine
end

section
/-! SUPPORT. The arithmetic of a filter section, with its obligation (R20). -/

namespace Sys2Proof.Machine

/-- Saturation holds a value to 24 bits. -/
theorem saturate_eq (q : Int) :
    saturate q = if 8388607 < q then 8388607 else if q < -8388608 then -8388608 else q := by
  norm_num only [saturate, clampInt]
  split_ifs <;> omega

/-- The quotient that R20's sum rounds to, halves upward, is what saturates. -/
theorem sectionOutput_of_quotient {c : Coefficients} {h : History} {x q : Int}
    (low : 2 ^ 28 * q ≤ c.b0 * x + c.b1 * h.x1 + c.b2 * h.x2 - c.a1 * h.y1 - c.a2 * h.y2 + 2 ^ 27)
    (high : c.b0 * x + c.b1 * h.x1 + c.b2 * h.x2 - c.a1 * h.y1 - c.a2 * h.y2 + 2 ^ 27 < 2 ^ 28 * (q + 1)) :
    sectionOutput c h x = saturate q := by
  unfold sectionOutput
  generalize c.b0 * x + c.b1 * h.x1 + c.b2 * h.x2 - c.a1 * h.y1 - c.a2 * h.y2 = sum at low high ⊢
  have quotient : (sum + 2 ^ 27) / 2 ^ 28 = q := by omega
  rw [quotient]

/-- Settles O12: the sum's quotient saturates, and in pass-through the sum is the input times 2^28. -/
theorem filterSectionArithmetic : Obligations.FilterSectionArithmetic := by
  unfold Obligations.FilterSectionArithmetic
  refine ⟨fun c h x q low high => (sectionOutput_of_quotient low high).trans (saturate_eq q), fun h x least most => ?_⟩
  have output : sectionOutput .passThrough h x = saturate x :=
    sectionOutput_of_quotient (by simp only [Coefficients.passThrough]; omega)
      (by simp only [Coefficients.passThrough]; omega)
  rw [output, saturate_eq, if_neg (by omega), if_neg (by omega)]

end Sys2Proof.Machine
end

section
/-! SUPPORT. The contexts of the pool: their updates, what the end of an event leaves of them, and the obligation of what
accrues over a tick (R34, R86 to R88, R114). -/

namespace Sys2Proof.Machine

/-! ### Updates of one context -/

/-- A context's update reads back at that context, when it exists. -/
theorem State.modCtx_ctx_same {s : State} {c : Nat} (f : Context → Context) (h : c < s.pool.contexts.length) :
    (s.modCtx c f).ctx c = f (s.ctx c) := by
  simp [State.ctx, State.modCtx, List.getD_eq_getElem?_getD, h]

/-- A context's update leaves the other contexts. -/
theorem State.modCtx_ctx_other (s : State) {c d : Nat} (f : Context → Context) (h : c ≠ d) :
    (s.modCtx c f).ctx d = s.ctx d := by
  simp [State.ctx, State.modCtx, List.getD_eq_getElem?_getD, h]

/-- What a change of a context keeps of every context it keeps of the one that reads back, the missing one too. -/
theorem State.modCtx_ctx_keeps {α : Type} (g : Context → α) (s : State) (c d : Nat) {f : Context → Context}
    (h : ∀ x, g (f x) = g x) : g ((s.modCtx c f).ctx d) = g (s.ctx d) := by
  rcases eq_or_ne c d with rfl | other
  · rcases Nat.lt_or_ge c s.pool.contexts.length with there | beyond
    · rw [State.modCtx_ctx_same f there, h]
    · simp [State.ctx, State.modCtx, List.modify_eq_self beyond]
  · rw [State.modCtx_ctx_other s f other]

/-! ### The end of an event (R102, R128, R151, R190) -/

theorem requestHold_pool (r : HoldRequest) (s : State) : (requestHold r s).1.pool = s.pool := by
  unfold requestHold
  split
  · exact (logTake_only _ _ s).pool
  · exact (logTake_only _ _ _).pool

theorem actOnSlot_pool (e : Entry) (s : State) (k : Nat) : (actOnSlot e s k).pool = s.pool := by
  have reported (r : Text) (c : Prop) [Decidable c] : (if c then s else pushReport r s).pool = s.pool := by
    split
    · rfl
    · exact (pushReport_only r s).pool
  unfold actOnSlot
  split
  · rfl
  · split
    · dsimp only
      split
      · exact reported _ _
      · exact (requestHold_pool _ _).trans (reported _ _)
    · rfl

theorem foldl_pool {α : Type} {f : State → α → State} (h : ∀ s a, (f s a).pool = s.pool) (l : List α) (s : State) :
    (l.foldl f s).pool = s.pool := by
  induction l generalizing s with
  | nil => rfl
  | cons a l ih => exact (ih _).trans (h s a)

theorem grouped_pool {f : State → State} (h : ∀ s, (f s).pool = s.pool) (s : State) : (grouped f s).pool = s.pool :=
  (h _).trans (logReserve_only _ s).pool

/-- TU's answers to entries leave the pool. -/
theorem fanOut_pool (s : State) : (fanOut s).pool = s.pool :=
  foldl_pool (fun t e => grouped_pool (fun _ => foldl_pool (actOnSlot_pool e) _ _) t) _ s

theorem endExport_pool (o : ExportOutcome) (s : State) : (endExport o s).pool = s.pool := by
  unfold endExport
  split
  · rfl
  · exact (pushReport_only _ _).pool.trans (logTake_only _ _ _).pool

theorem abortExport_pool (o : ExportOutcome) (s : State) : (abortExport o s).pool = s.pool := by
  unfold abortExport
  split
  · rfl
  · split
    · rfl
    · exact endExport_pool o s

theorem offlineChange_pool (s : State) : (offlineChange s).pool = s.pool := by
  unfold offlineChange
  split
  · exact (abortExport_pool _ _).trans (logTake_only _ _ _).pool
  · rfl

theorem endFlush_pool (o : FlushOutcome) (s : State) : (endFlush o s).pool = s.pool := by
  unfold endFlush
  dsimp only
  split
  · exact (logTake_only _ _ _).pool
  · rfl

theorem flushStep_pool (s : State) : (flushStep s).pool = s.pool := by
  unfold flushStep
  split
  · split
    · exact endFlush_pool _ s
    · split
      · exact endFlush_pool _ s
      · split <;> rfl
  · rfl

/-- Of the pool the end of an event may set one SHORT flag, of a context whose evaluation starts (R102). -/
theorem startVerdict_ctx_keeps {α : Type} (g : Context → α)
    (h : ∀ x, g { x with flags := { x.flags with short := true } } = g x) (s : State) (c : Nat) :
    g ((startVerdict s).ctx c) = g (s.ctx c) := by
  unfold startVerdict
  split
  · exact State.modCtx_ctx_keeps g s _ c fun x => by
      split
      · exact h x
      · rfl
  · rfl

/-- What does not speak of SHORT the end of an event keeps of every context. -/
theorem settle_ctx_keeps {α : Type} (g : Context → α)
    (h : ∀ x, g { x with flags := { x.flags with short := true } } = g x) (s : State) (c : Nat) :
    g ((settle s).ctx c) = g (s.ctx c) := by
  have after : (settle s).pool = (startVerdict (fanOut s)).pool :=
    (fanOut_pool _).trans ((flushStep_pool _).trans (offlineChange_pool _))
  have before : (fanOut s).ctx c = s.ctx c := by rw [State.ctx, fanOut_pool]; rfl
  calc g ((settle s).ctx c) = g ((startVerdict (fanOut s)).ctx c) := by rw [State.ctx, after]; rfl
    _ = g ((fanOut s).ctx c) := startVerdict_ctx_keeps g h _ c
    _ = g (s.ctx c) := by rw [before]

/-! ### One tick -/

/-- The tick of another service leaves a service. -/
theorem accrueService_svc_other (s : State) {i j : Nat} (h : j ≠ i) : (accrueService s j).svc i = s.svc i := by
  obtain ⟨cs, tick, -⟩ := accrueService_eq s j
  rw [tick]
  exact State.modSvc_svc_other s Service.tallyTick h

/-- A tick leaves every credit target where it was. -/
theorem accrueService_target (s : State) (i j : Nat) : (accrueService s i).target j = s.target j := by
  obtain ⟨cs, tick, -⟩ := accrueService_eq s i
  rw [tick]
  exact congrArg targetOf (State.modSvc_svc_keeps (fun v => v.st.stack) s i j fun _ => rfl)

/-- A service's tick reaches the pool by its credit target alone. -/
theorem accrueService_pool (s : State) (i : Nat) :
    (accrueService s i).pool = match s.target i with
      | none => s.pool
      | some c => (s.modCtx c fun x => x.accrue (s.svc i) (s.innermostUnmeasured i)).pool := by
  unfold accrueService
  split <;> split <;> simp_all [State.modTally]

theorem accrueService_contexts_length (s : State) (i : Nat) :
    (accrueService s i).pool.contexts.length = s.pool.contexts.length := by
  rw [accrueService_pool]
  split
  · rfl
  · exact List.length_modify ..

theorem accrueService_ctx_target {s : State} {i c : Nat} (target : s.target i = some c)
    (there : c < s.pool.contexts.length) :
    (accrueService s i).ctx c = (s.ctx c).accrue (s.svc i) (s.innermostUnmeasured i) := by
  rw [State.ctx, accrueService_pool, target]
  exact State.modCtx_ctx_same _ there

theorem accrueService_ctx_other {s : State} {i c : Nat} (target : s.target i ≠ some c) :
    (accrueService s i).ctx c = s.ctx c := by
  obtain ⟨cs, tick, others⟩ := accrueService_eq s i
  rw [tick]
  exact others c target

/-- Of some services taken in turn, the one that has a context as its target alone makes that context accrue. -/
theorem foldl_accrueService_ctx {l : List Nat} (distinct : l.Nodup) {i c : Nat} (mem : i ∈ l) {s : State}
    (target : s.target i = some c) (there : c < s.pool.contexts.length) (alone : ∀ j ∈ l, j ≠ i → s.target j ≠ some c) :
    (l.foldl accrueService s).ctx c = (s.ctx c).accrue (s.svc i) (s.innermostUnmeasured i) := by
  induction l generalizing s with
  | nil => exact absurd mem (List.not_mem_nil)
  | cons j l ih =>
    obtain ⟨notAgain, distinct⟩ := List.nodup_cons.mp distinct
    rw [List.foldl_cons]
    rcases eq_or_ne j i with rfl | other
    · obtain ⟨cs, rest, others⟩ := foldl_accrueService_eq l (accrueService s j)
      have untouched : ∀ k ∈ l, (accrueService s j).target k ≠ some c := fun k hk => by
        rw [accrueService_target]
        exact alone k (List.mem_cons_of_mem _ hk) fun e => notAgain (e ▸ hk)
      rw [rest]
      exact (others c untouched).trans (accrueService_ctx_target target there)
    · have same : (accrueService s j).svc i = s.svc i := accrueService_svc_other s other
      have stands : (accrueService s j).ctx c = s.ctx c :=
        accrueService_ctx_other (alone j List.mem_cons_self other)
      rw [ih distinct (List.mem_of_ne_of_mem other.symm mem) (by rw [accrueService_target]; exact target)
        (by rw [accrueService_contexts_length]; exact there)
        (fun k hk ne => by rw [accrueService_target]; exact alone k (List.mem_cons_of_mem _ hk) ne),
        stands, State.innermostUnmeasured, same]
      rfl

/-- A context that is the target of one service accrues that service's tick. -/
theorem accrueTick_ctx {s : State} {i c : Nat} (hi : i < 16) (target : s.target i = some c)
    (there : c < s.pool.contexts.length) (alone : ∀ j, j < 16 → j ≠ i → s.target j ≠ some c) :
    (accrueTick s).ctx c = (s.ctx c).accrue (s.svc i) (s.innermostUnmeasured i) :=
  foldl_accrueService_ctx allServices_nodup (mem_allServices.mpr hi) target there fun j hj =>
    alone j (mem_allServices.mp hj)

/-- Of 16 services each one's tally takes the tick. -/
theorem accrueTick_svc {s : State} (sixteen : s.services.length = 16) {i : Nat} (hi : i < 16) :
    (accrueTick s).svc i = (s.svc i).tallyTick := by
  obtain ⟨cs, acc, -⟩ := accrueTick_eq s
  have there : i < s.services.length := sixteen ▸ hi
  rw [tallyTicks_eq_map sixteen] at acc
  simp [State.svc, acc, List.getD_eq_getElem?_getD, there]

/-- The figures of a context that accrue over a tick, with two that do not. -/
def Context.accrued (x : Context) : Nat × List Nat × List Nat × Bool × List (Nat × Nat) × Int :=
  (x.missing, x.covered, x.lapsed, x.flags.merged, x.bins, x.peak)

/-- A tick from the divider or from an edge taken leaves of the services and of what accrues what `accrueTick` gives. -/
theorem exec_tick {s : State} {e : Instr} (tick : e = .dividerTick ∨
      ∃ near, e = .wordClockEdge near ∧ ¬ (near = true ∧ s.tb.lastTickDivider = true)) :
    ∃ t, exec e s = .next t ∧ t.services = (accrueTick s).services ∧
      ∀ c, (t.ctx c).accrued = ((accrueTick s).ctx c).accrued := by
  rcases tick with rfl | ⟨near, rfl, far⟩
  · exact ⟨dividerTick s, exec_dividerTick s, by simp only [dividerTick, advanceTick, State.modTb_services],
      fun c => by simp only [State.ctx, dividerTick, advanceTick, State.modTb_pool]⟩
  · have edge := takeEdge_only s
    have services : (settle (takeEdge s)).services = (accrueTick s).services := by
      rw [(settle_same _).services, edge.services]
      simp only [edgeTick, advanceTick, restartDivider, State.modTb_services]
    have pool : (takeEdge s).pool = (accrueTick s).pool := by
      rw [edge.pool]
      simp only [edgeTick, advanceTick, restartDivider, State.modTb_pool]
    refine ⟨settle (takeEdge s), by rw [exec_wordClockEdge, if_neg far], services, fun c => ?_⟩
    rw [settle_ctx_keeps Context.accrued fun _ => rfl]
    simp only [State.ctx, pool]

/-- What a tick leaves of a context's missing time (R34). -/
theorem accrue_missing (x : Context) (v : Service) (inside : Bool) :
    (v.feed.state ≠ .lost → (x.accrue v inside).missing = x.missing) ∧
      (v.feed.state = .lost → (x.accrue v inside).missing < 2 ^ 48 ∧
        (x.missing + 1 < 2 ^ 48 → (x.accrue v inside).missing = x.missing + 1)) := by
  refine ⟨fun held => if_neg held, fun lost => ?_⟩
  have next : (x.accrue v inside).missing = nextMissing x.missing := if_pos lost
  rw [next]
  exact ⟨nextMissing_lt _, fun room => if_pos room⟩

/-- A tick merges a context when a slot shows a cue or is LAPSED inside an entry without a context (R88). -/
theorem accrue_merged (x : Context) (v : Service) (inside : Bool) :
    (x.accrue v inside).flags.merged =
      (x.flags.merged || (inside && v.sc.slots.any fun t => t.isCovered || t.isLapsed)) := by
  unfold Context.accrue
  cases inside <;> cases v.sc.slots.any fun t => t.isCovered || t.isLapsed <;> simp

/-- Settles O5: what `accrueTick` gives the tally and the credit target, read figure by figure. -/
theorem tickAccruesToTarget : Obligations.TickAccruesToTarget := by
  unfold Obligations.TickAccruesToTarget
  intro s e i hi sixteen tick
  obtain ⟨t, runs, services, figures⟩ := exec_tick tick
  have svc : t.svc i = (s.svc i).tallyTick := by
    rw [State.svc, services]
    exact accrueTick_svc sixteen hi
  refine ⟨t, runs, by rw [svc]; rfl, fun c target there alone => ?_⟩
  have accrued := figures c
  rw [accrueTick_ctx hi target there alone] at accrued
  simp only [Context.accrued, Prod.mk.injEq] at accrued
  obtain ⟨missing, covered, lapsed, merged, bins, peak⟩ := accrued
  rw [missing, merged]
  obtain ⟨held, lost⟩ := accrue_missing (s.ctx c) (s.svc i) (s.innermostUnmeasured i)
  exact ⟨held, lost, covered, lapsed, accrue_merged _ _ _, bins, peak⟩

end Sys2Proof.Machine
end

section
/-! SUPPORT. LE's own state: frames through the filters, sub-blocks and the judgement of dead air, with the obligation of
AUDIO's measuring (R19 to R28, R35, R36). -/

namespace Sys2Proof.Machine

/-! ### One frame (R19 to R23, R28) -/

/-- A channel that has a sample takes it through its filter into its sum. -/
theorem filterFrame_sample (p : Profile) {fs : List ChannelFilter} {sums : List Nat} {xs : List Int} {k : Nat}
    (filters : k < fs.length) (channels : k < sums.length) (sampled : k < xs.length) :
    let r := filterSample p (fs.getD k .zero) (xs.getD k 0)
    (filterFrame p fs sums xs).1.getD k .zero = r.2 ∧
      (filterFrame p fs sums xs).2.getD k 0 = sums.getD k 0 + (r.1 * r.1).toNat := by
  induction fs generalizing sums xs k with
  | nil => exact absurd filters (Nat.not_lt_zero k)
  | cons f fs ih =>
    obtain ⟨sum, sums, rfl⟩ := List.exists_cons_of_length_pos (Nat.zero_lt_of_lt channels)
    obtain ⟨x, xs, rfl⟩ := List.exists_cons_of_length_pos (Nat.zero_lt_of_lt sampled)
    cases k with
    | zero => exact ⟨rfl, rfl⟩
    | succ k =>
      exact ih (Nat.lt_of_succ_lt_succ filters) (Nat.lt_of_succ_lt_succ channels) (Nat.lt_of_succ_lt_succ sampled)

/-- A channel that has no sample stands. -/
theorem filterFrame_unsampled (p : Profile) {fs : List ChannelFilter} {sums : List Nat} {xs : List Int} {k : Nat}
    (unsampled : xs.length ≤ k) :
    (filterFrame p fs sums xs).1.getD k .zero = fs.getD k .zero ∧
      (filterFrame p fs sums xs).2.getD k 0 = sums.getD k 0 := by
  induction xs generalizing fs sums k with
  | nil => cases fs <;> cases sums <;> exact ⟨rfl, rfl⟩
  | cons x xs ih =>
    cases fs with
    | nil => exact ⟨rfl, rfl⟩
    | cons f fs =>
      cases sums with
      | nil => exact ⟨rfl, rfl⟩
      | cons sum sums =>
        obtain ⟨k, rfl⟩ : ∃ j, k = j + 1 := ⟨k - 1, by simp only [List.length_cons] at unsampled; omega⟩
        exact ih (Nat.le_of_succ_le_succ unsampled)

/-- The largest magnitude is the least bound of the magnitudes. -/
theorem largestMagnitude_le (xs : List Int) (m : Nat) : largestMagnitude xs ≤ m ↔ ∀ x ∈ xs, x.natAbs ≤ m := by
  have from_start (a : Nat) : xs.foldl (fun n x => max n x.natAbs) a ≤ m ↔ a ≤ m ∧ ∀ x ∈ xs, x.natAbs ≤ m := by
    induction xs generalizing a with
    | nil => simp
    | cons x xs ih => rw [List.foldl_cons, ih, Nat.max_le, List.forall_mem_cons, and_assoc]
  simp [largestMagnitude, from_start]

/-! ### Frames of a unit -/

/-- LE's own state after some frames of a sub-block that they do not complete. -/
def Loudness.frames (p : Profile) (frames : List (List Int)) (l : Loudness) : Loudness :=
  frames.foldl (fun l xs => l.frame p xs) l

theorem Loudness.frames_cons (p : Profile) (xs : List Int) (frames : List (List Int)) (l : Loudness) :
    l.frames p (xs :: frames) = (l.frame p xs).frames p frames := rfl

theorem Loudness.frames_append (p : Profile) (a b : List (List Int)) (l : Loudness) :
    l.frames p (a ++ b) = (l.frames p a).frames p b := List.foldl_append

@[simp] theorem Loudness.frame_frameCount (l : Loudness) (p : Profile) (xs : List Int) :
    (l.frame p xs).frameCount = l.frameCount + 1 := rfl

theorem Loudness.frames_frameCount (p : Profile) (frames : List (List Int)) (l : Loudness) :
    (l.frames p frames).frameCount = l.frameCount + frames.length := by
  induction frames generalizing l with
  | nil => rfl
  | cons xs frames ih => rw [Loudness.frames_cons, ih, Loudness.frame_frameCount, List.length_cons]; omega

/-- What frames leave of LE's state until a sub-block completes. -/
theorem Loudness.frames_keeps {α : Type} (g : Loudness → α) (h : ∀ l p xs, g (l.frame p xs) = g l) (p : Profile)
    (frames : List (List Int)) (l : Loudness) : g (l.frames p frames) = g l := by
  induction frames generalizing l with
  | nil => rfl
  | cons xs frames ih => rw [Loudness.frames_cons, ih, h]

theorem Loudness.frames_ring (p : Profile) (frames : List (List Int)) (l : Loudness) :
    (l.frames p frames).ring = l.ring := frames_keeps Loudness.ring (fun _ _ _ => rfl) p frames l

theorem Loudness.frames_silenceRun (p : Profile) (frames : List (List Int)) (l : Loudness) :
    (l.frames p frames).silenceRun = l.silenceRun := frames_keeps Loudness.silenceRun (fun _ _ _ => rfl) p frames l

/-- Frames that do not complete the sub-block change LE's own state of the service alone. -/
theorem foldl_takeFrame_partial {i : Nat} {s : State} (there : i < s.services.length) {frames : List (List Int)}
    (short : (s.svc i).le.frameCount + frames.length < 4800) :
    frames.foldl (takeFrame i) s = s.modLe i (Loudness.frames (s.svc i).profile frames) := by
  induction frames generalizing s with
  | nil => exact (State.modSvc_id s i).symm
  | cons xs frames ih =>
    have framed : ((s.modLe i fun l => l.frame (s.svc i).profile xs).svc i) =
        { s.svc i with le := (s.svc i).le.frame (s.svc i).profile xs } := State.modSvc_svc_same _ _ _ there
    have first : takeFrame i s xs = s.modLe i fun l => l.frame (s.svc i).profile xs := by
      refine if_neg ?_
      simp only [framed, Loudness.frame_frameCount, Config.subBlockFrames]
      simp only [List.length_cons] at short
      omega
    rw [List.foldl_cons, first, ih (by simpa [State.modLe] using there)
      (by simp only [framed, Loudness.frame_frameCount]; simp only [List.length_cons] at short; omega), framed]
    exact State.modSvc_modSvc s i _ _

/-- Frames that end with the 4800th complete the sub-block. -/
theorem foldl_takeFrame_completes {i : Nat} {s : State} (there : i < s.services.length) {frames : List (List Int)}
    (some_frame : frames ≠ []) (full : (s.svc i).le.frameCount + frames.length = 4800) :
    frames.foldl (takeFrame i) s = completeSubBlock i (s.modLe i (Loudness.frames (s.svc i).profile frames)) := by
  obtain ⟨before, last, rfl⟩ : ∃ before last, frames = before ++ [last] :=
    ⟨_, _, (List.dropLast_append_getLast some_frame).symm⟩
  rw [List.length_append, List.length_singleton] at full
  rw [List.foldl_append, foldl_takeFrame_partial there (by omega), List.foldl_cons, List.foldl_nil]
  set u := s.modLe i (Loudness.frames (s.svc i).profile before) with hu
  have svc : u.svc i = { s.svc i with le := (s.svc i).le.frames (s.svc i).profile before } :=
    State.modSvc_svc_same _ _ _ there
  have together : (u.modLe i fun l => l.frame (u.svc i).profile last) =
      s.modLe i (Loudness.frames (s.svc i).profile (before ++ [last])) := by
    rw [svc, hu, State.modLe, State.modLe, State.modSvc_modSvc]
    exact State.modSvc_congr (by simp only [Function.comp_apply, Loudness.frames_append]; rfl)
  have count : ((u.modLe i fun l => l.frame (u.svc i).profile last).svc i).le.frameCount = Config.subBlockFrames := by
    rw [together, State.modLe, State.modSvc_svc_same _ _ _ there]
    simp only [Loudness.frames_frameCount, List.length_append, List.length_singleton, Config.subBlockFrames]
    omega
  rw [takeFrame, if_pos count, together]

/-! ### Sub-blocks and dead air (R23 to R28, R35, R36) -/

/-- The block loudness of the newest 4 powers (R26). -/
def Loudness.block (l : Loudness) (p : Profile) : Option Int := blockLoudness 4 (l.ring.take 4).sum p.offset

/-- The silence run after a block whose momentary value is `mom` (R35). -/
def Loudness.silenceAfter (l : Loudness) (p : Profile) (mom : Int) : Nat :=
  if mom < p.silenceThreshold then min 1200 (l.silenceRun + 1) else 0

/-- LE's own state once a completed sub-block has been judged for dead air: a block needs 4 powers (R26, R35). -/
def Loudness.judged (l : Loudness) (p : Profile) : Loudness :=
  { l with silenceRun := if 4 ≤ l.ring.length then l.silenceAfter p (clampLoudness (l.block p)) else l.silenceRun }

/-- A block below the threshold raises the silence run, and DEAD_AIR opens at the limit (R35, R36). -/
theorem countDeadAir_silent {i : Nat} {mom : Int} {s : State} (silent : mom < (s.svc i).profile.silenceThreshold) :
    countDeadAir i mom s =
      let s1 := s.modLe i fun l => { l with silenceRun := min 1200 ((s.svc i).le.silenceRun + 1) }
      if (s.svc i).profile.silenceLimit * 10 ≤ min 1200 ((s.svc i).le.silenceRun + 1) then
        openCond i .deadAir none none s1 else s1 := if_pos silent

/-- Any other block ends the silence run and closes DEAD_AIR (R35, R36). -/
theorem countDeadAir_loud {i : Nat} {mom : Int} {s : State} (loud : ¬ mom < (s.svc i).profile.silenceThreshold) :
    countDeadAir i mom s = closeCond i .deadAir none .signal (s.modLe i fun l => { l with silenceRun := 0 }) :=
  if_neg loud

/-- The judgement of a block is the silence run's change, and else the log's and the condition table's. -/
theorem countDeadAir_only (i : Nat) (mom : Int) (s : State) :
    OnlyLog (s.modLe i fun l => { l with silenceRun := (s.svc i).le.silenceAfter (s.svc i).profile mom })
      (countDeadAir i mom s) := by
  unfold Loudness.silenceAfter
  by_cases silent : mom < (s.svc i).profile.silenceThreshold
  · rw [countDeadAir_silent silent, if_pos silent]
    dsimp only
    split
    · exact openCond_only _ _ _ _ _
    · exact .refl _
  · rw [countDeadAir_loud silent, if_neg silent]
    exact closeCond_only _ _ _ _ _

/-- A silence run that has reached its limit leaves DEAD_AIR of an enabled service open. -/
theorem countDeadAir_opens {i : Nat} {mom : Int} {s : State} (there : i < s.services.length)
    (enabled : (s.svc i).profile.enabled = true) (silent : mom < (s.svc i).profile.silenceThreshold)
    (limit : (s.svc i).profile.silenceLimit * 10 ≤ (s.svc i).le.silenceAfter (s.svc i).profile mom) :
    (countDeadAir i mom s).isOpen (some i) .deadAir none = true := by
  rw [Loudness.silenceAfter, if_pos silent] at limit
  rw [countDeadAir_silent silent]
  refine (congrArg (fun u : State => u.isOpen _ _ _) (if_pos limit)).trans (openCond_isOpen_same _ _ _ _ _ ?_)
  rw [State.modLe, State.modSvc_svc_same _ _ _ there]
  exact enabled

/-- A block at or above the threshold leaves DEAD_AIR closed. -/
theorem countDeadAir_closes {i : Nat} {mom : Int} {s : State} (loud : ¬ mom < (s.svc i).profile.silenceThreshold) :
    (countDeadAir i mom s).isOpen (some i) .deadAir none = false := by
  rw [countDeadAir_loud loud]
  exact closeCond_isOpen_same _ _ _ _ _

/-- The part with a sub-block of a service completed, its block not yet formed (R23 to R27). -/
def subBlockDone (i : Nat) (s : State) : State := s.modLe i fun l => l.completeSubBlock (s.svc i).profile

/-- The part with the completed sub-block's block credited, before dead air is judged (R31). -/
def blockCredited (i : Nat) (s : State) : State :=
  let le := ((subBlockDone i s).svc i).le
  let l := le.block (s.svc i).profile
  creditBlock i l (clampLoudness l) le.shortTerm (subBlockDone i s)

/-- With 4 powers or more in the ring a block is formed, credited and judged (R26). -/
theorem completeSubBlock_eq (i : Nat) (s : State) : completeSubBlock i s =
    if 4 ≤ ((subBlockDone i s).svc i).le.ring.length then
      countDeadAir i (clampLoudness (((subBlockDone i s).svc i).le.block (s.svc i).profile)) (blockCredited i s)
    else subBlockDone i s := rfl

theorem subBlockDone_svc {i : Nat} {s : State} (there : i < s.services.length) :
    (subBlockDone i s).svc i = { s.svc i with le := (s.svc i).le.completeSubBlock (s.svc i).profile } :=
  State.modSvc_svc_same _ _ _ there

/-- The credit of a block leaves the profile and LE's own state. -/
theorem blockCredited_svc {i : Nat} {s : State} (there : i < s.services.length) :
    ((blockCredited i s).svc i).profile = (s.svc i).profile ∧
      ((blockCredited i s).svc i).le = (s.svc i).le.completeSubBlock (s.svc i).profile := by
  have credited := (creditBlock_within i
    (((subBlockDone i s).svc i).le.block (s.svc i).profile)
    (clampLoudness (((subBlockDone i s).svc i).le.block (s.svc i).profile))
    ((subBlockDone i s).svc i).le.shortTerm (subBlockDone i s)).kept
  rw [subBlockDone_svc there] at credited
  simp only [Service.besideSegments, Prod.mk.injEq] at credited
  rw [blockCredited, subBlockDone_svc there]
  exact ⟨credited.1, credited.2.2.1⟩

/-- A completed sub-block leaves LE's own state completed and judged. -/
theorem completeSubBlock_le {i : Nat} {s : State} (there : i < s.services.length) :
    ((completeSubBlock i s).svc i).le =
      ((s.svc i).le.completeSubBlock (s.svc i).profile).judged (s.svc i).profile := by
  obtain ⟨profile, le⟩ := blockCredited_svc there
  have still_there : i < (blockCredited i s).services.length := by
    rw [blockCredited, (creditBlock_within i _ _ _ _).length]
    simpa [subBlockDone, State.modLe] using there
  rw [completeSubBlock_eq, subBlockDone_svc there, Loudness.judged]
  split
  · rw [State.svc, (countDeadAir_only _ _ _).services]
    refine (congrArg Service.le (State.modSvc_svc_same _ _ _ still_there)).trans ?_
    simp only [profile, le]
  · rw [subBlockDone_svc there]

/-- A completed sub-block with 4 powers or more leaves DEAD_AIR as its block is judged (R36). -/
theorem completeSubBlock_deadAir {i : Nat} {s : State} (there : i < s.services.length)
    (enabled : (s.svc i).profile.enabled = true) {p : Profile} {l : Loudness} (profile : (s.svc i).profile = p)
    (completed : (s.svc i).le.completeSubBlock p = l) (formed : 4 ≤ l.ring.length) :
    (clampLoudness (l.block p) < p.silenceThreshold →
      p.silenceLimit * 10 ≤ l.silenceAfter p (clampLoudness (l.block p)) →
        (completeSubBlock i s).isOpen (some i) .deadAir none = true) ∧
    (¬ clampLoudness (l.block p) < p.silenceThreshold →
      (completeSubBlock i s).isOpen (some i) .deadAir none = false) := by
  subst profile completed
  obtain ⟨profile, le⟩ := blockCredited_svc there
  have still_there : i < (blockCredited i s).services.length := by
    rw [blockCredited, (creditBlock_within i _ _ _ _).length]
    simpa [subBlockDone, State.modLe] using there
  rw [completeSubBlock_eq, subBlockDone_svc there, if_pos formed]
  have opens := countDeadAir_opens (s := blockCredited i s)
    (mom := clampLoudness (((s.svc i).le.completeSubBlock (s.svc i).profile).block (s.svc i).profile)) still_there
  have closes := countDeadAir_closes (i := i) (s := blockCredited i s)
    (mom := clampLoudness (((s.svc i).le.completeSubBlock (s.svc i).profile).block (s.svc i).profile))
  rw [profile] at opens closes
  rw [le] at opens
  exact ⟨opens enabled, closes⟩

/-! ### AUDIO units (R11, R19) -/

theorem framesOf_length (c n : Nat) (xs : List Int) : (framesOf c n xs).length = n := by
  induction n generalizing xs with
  | zero => rfl
  | succ n ih => rw [framesOf, List.length_cons, ih]

/-- An AUDIO unit carries at most 480 frames (R11). -/
theorem audio_frames_length {kind c : Nat} {body : List Byte} {frames : List (List Int)}
    (h : bodyOf kind body = some (.audio c frames)) : frames.length ≤ 480 := by
  unfold bodyOf at h
  split at h
  · simp only [audioBody, Option.ite_none_right_eq_some, Option.some.injEq, FeedBody.audio.injEq] at h
    obtain ⟨⟨-, most, -⟩, -, rfl⟩ := h
    rw [framesOf_length]
    exact most
  · simp [cueBody] at h
  · simp at h
  · simp at h
  · unfold markBody at h
    split at h <;> simp at h
  · simp at h
  · simp at h

/-- The part as an AUDIO unit's frames find it: FI has taken the unit and its peak is credited (R13, R29). -/
def audioReady (i : Nat) (frames : List (List Int)) (s : State) : State :=
  creditPeak i (peakValue (largestMagnitude frames.flatten)) (audioLive i s)

theorem audioUnit_eq (i : Nat) (frames : List (List Int)) (s : State) :
    audioUnit i frames (audioLive i s) = frames.foldl (takeFrame i) (audioReady i frames s) := rfl

theorem audioReady_svc {i : Nat} {s : State} (there : i < s.services.length) (frames : List (List Int)) :
    (audioReady i frames s).svc i = Service.live s.tb.stationTime (s.svc i) := by
  refine (creditPeak_within i _ _).kept.trans ?_
  rw [State.svc, (audioLive_only i s).services]
  exact State.modSvc_svc_same _ _ _ there

theorem audioReady_length (i : Nat) (frames : List (List Int)) (s : State) :
    (audioReady i frames s).services.length = s.services.length := by
  rw [audioReady, (creditPeak_within i _ _).length, (audioLive_only i s).services]
  exact List.length_modify ..

/-- LE's own state of a service as a unit's first frame finds it: a unit ends a loss (R38). -/
theorem live_le (now : Nat) (v : Service) :
    (v.live now).le = if v.feed.state = .lost then { v.le with lossStart := none } else v.le := rfl

/-- Of LE's own state a unit's first frame finds changed the loss start alone (R38). -/
theorem live_le_keeps {α : Type} (g : Loudness → α) (h : ∀ l t, g { l with lossStart := t } = g l) (now : Nat)
    (v : Service) : g (v.live now).le = g v.le := by
  rw [live_le]
  split
  · exact h _ _
  · rfl

/-- The part after the frames `a` that complete a sub-block and the frames `b` that follow them. -/
theorem foldl_takeFrame_around {i : Nat} {s : State} (there : i < s.services.length) {a b : List (List Int)}
    (some_frame : a ≠ []) (full : (s.svc i).le.frameCount + a.length = 4800) (few : b.length < 4800) :
    (a ++ b).foldl (takeFrame i) s =
      (completeSubBlock i (s.modLe i (Loudness.frames (s.svc i).profile a))).modLe i
        (Loudness.frames (s.svc i).profile b) := by
  have framed : (s.modLe i (Loudness.frames (s.svc i).profile a)).svc i =
      { s.svc i with le := (s.svc i).le.frames (s.svc i).profile a } := State.modSvc_svc_same _ _ _ there
  have framed_there : i < (s.modLe i (Loudness.frames (s.svc i).profile a)).services.length := by
    simpa [State.modLe] using there
  have done := completeSubBlock_within i (s.modLe i (Loudness.frames (s.svc i).profile a))
  have profile := congrArg Prod.fst done.kept
  have le := completeSubBlock_le framed_there
  rw [framed] at le
  simp only [Service.besideUnits, framed] at profile
  rw [List.foldl_append, foldl_takeFrame_completes there some_frame full,
    foldl_takeFrame_partial (by rw [done.length]; exact framed_there) (by rw [le]; simpa [Loudness.judged,
      Loudness.completeSubBlock] using few), profile]

/-- The part as a taken AUDIO unit leaves it that does not complete a sub-block, but for the end of the event. -/
theorem audioUnit_partial {bytes : List Byte} {s : State} {i c : Nat} {frames : List (List Int)}
    (takes : s.takes bytes i (.audio c frames) = true) (short : (s.svc i).le.frameCount + frames.length < 4800) :
    audioUnit i frames (audioLive i s) =
      (audioReady i frames s).modLe i (Loudness.frames (s.svc i).profile frames) := by
  have taken := unitTaken_of_takes takes
  have there : i < s.services.length := by rw [taken.sixteen]; exact taken.inRange
  have svc := audioReady_svc there frames
  rw [audioUnit_eq, foldl_takeFrame_partial (by rw [audioReady_length]; exact there)
    (by rw [svc, live_le_keeps Loudness.frameCount fun _ _ => rfl]; exact short), svc]
  rfl

/-- The part with the frames `a` of a taken AUDIO unit in a service's filters, which fill a sub-block. -/
def subBlockFull (i : Nat) (a frames : List (List Int)) (s : State) : State :=
  (audioReady i frames s).modLe i (Loudness.frames (s.svc i).profile a)

theorem subBlockFull_svc {i : Nat} {s : State} (there : i < s.services.length) (a frames : List (List Int)) :
    (subBlockFull i a frames s).svc i =
      { (s.svc i).live s.tb.stationTime with
        le := ((s.svc i).live s.tb.stationTime).le.frames (s.svc i).profile a } := by
  rw [subBlockFull, State.modLe, State.modSvc_svc_same _ _ _ (by rw [audioReady_length]; exact there),
    audioReady_svc there]

theorem subBlockFull_length (i : Nat) (a frames : List (List Int)) (s : State) :
    (subBlockFull i a frames s).services.length = s.services.length :=
  (List.length_modify ..).trans (audioReady_length i frames s)

/-- The part as a taken AUDIO unit leaves it that completes a sub-block, but for the end of the event. -/
theorem audioUnit_around {bytes : List Byte} {s : State} {i c : Nat} {frames a b : List (List Int)}
    (takes : s.takes bytes i (.audio c frames) = true) (parts : frames = a ++ b) (some_frame : a ≠ [])
    (full : (s.svc i).le.frameCount + a.length = 4800) :
    audioUnit i frames (audioLive i s) =
      (completeSubBlock i (subBlockFull i a frames s)).modLe i (Loudness.frames (s.svc i).profile b) := by
  have taken := unitTaken_of_takes takes
  have there : i < s.services.length := by rw [taken.sixteen]; exact taken.inRange
  have svc := audioReady_svc there frames
  have few : b.length < 4800 := by
    have := audio_frames_length taken.body
    rw [parts, List.length_append] at this
    omega
  have ready_there : i < (audioReady i frames s).services.length := by rw [audioReady_length]; exact there
  rw [audioUnit_eq, subBlockFull]
  generalize audioReady i frames s = u at svc ready_there
  rw [parts, foldl_takeFrame_around ready_there some_frame
    (by rw [svc, live_le_keeps Loudness.frameCount fun _ _ => rfl]; exact full) few, svc]
  rfl

/-- The ring of a completed sub-block of a service with its channel count set (R24, R25). -/
theorem completeSubBlock_ring {p : Profile} {c : Nat} (channels : p.channels = some c) (l : Loudness) :
    (l.completeSubBlock p).ring = (((List.zipWith (· * ·) p.weights l.sums).take c).sum :: l.ring).take 30 := by
  simp only [Loudness.completeSubBlock, subBlockPower, channels, Option.getD_some, Config.ringPowers]

/-- LE's own state of a service with the frames `a` of a taken AUDIO unit in its filters (R19, R38). -/
def Service.leFull (v : Service) (now : Nat) (a : List (List Int)) : Loudness := (v.live now).le.frames v.profile a

theorem leFull_ring (v : Service) (now : Nat) (a : List (List Int)) : (v.leFull now a).ring = v.le.ring :=
  (Loudness.frames_ring _ _ _).trans (live_le_keeps Loudness.ring (fun _ _ => rfl) _ _)

theorem leFull_silenceRun (v : Service) (now : Nat) (a : List (List Int)) :
    (v.leFull now a).silenceRun = v.le.silenceRun :=
  (Loudness.frames_silenceRun _ _ _).trans (live_le_keeps Loudness.silenceRun (fun _ _ => rfl) _ _)

/-- LE's own state at the completion of a sub-block, its block judged, figure by figure. -/
theorem judged_completeSubBlock {p : Profile} {c : Nat} (channels : p.channels = some c) (l : Loudness) :
    (l.completeSubBlock p).judged p =
      let ring := (((List.zipWith (· * ·) p.weights l.sums).take c).sum :: l.ring).take 30
      let momentary := clampLoudness (blockLoudness 4 (ring.take 4).sum p.offset)
      { l with
        frameCount := 0
        sums := [0, 0, 0, 0, 0, 0]
        partialPeak := 0
        ring := ring
        peakMeter := some (peakValue l.partialPeak)
        momentary := if 4 ≤ ring.length then some momentary else none
        shortTerm := if ring.length = 30 then some (clampLoudness (blockLoudness 30 ring.sum p.offset)) else none
        silenceRun := if 4 ≤ ring.length then
            (if momentary < p.silenceThreshold then min 1200 (l.silenceRun + 1) else 0)
          else l.silenceRun } := by
  rw [Loudness.judged, completeSubBlock_ring channels, Loudness.block, completeSubBlock_ring channels,
    Loudness.completeSubBlock, subBlockPower, channels]
  rfl

/-- A taken AUDIO unit that completes a sub-block with its frames `a` leaves LE's own state of the service completed and
judged, with the frames `b` after it, and DEAD_AIR as it was judged. -/
theorem exec_feedUnit_completes {bytes : List Byte} {s : State} {i c : Nat} {frames a b : List (List Int)}
    (takes : s.takes bytes i (.audio c frames) = true) (parts : frames = a ++ b) (some_frame : a ≠ [])
    (full : (s.svc i).le.frameCount + a.length = 4800) :
    ∃ t, exec (.feedUnit bytes) s = .next t ∧
      (t.svc i).le = Loudness.frames (s.svc i).profile b
        ((((s.svc i).leFull s.tb.stationTime a).completeSubBlock (s.svc i).profile).judged (s.svc i).profile) ∧
      t.isOpen (some i) .deadAir none =
        (completeSubBlock i (subBlockFull i a frames s)).isOpen (some i) .deadAir none := by
  have taken := unitTaken_of_takes takes
  have there : i < s.services.length := by rw [taken.sixteen]; exact taken.inRange
  have full_there : i < (subBlockFull i a frames s).services.length := by rw [subBlockFull_length]; exact there
  have le := completeSubBlock_le full_there
  have length := (completeSubBlock_within i (subBlockFull i a frames s)).length
  have ends := settle_svc (audioUnit i frames (audioLive i s)) i
  have conditions := (settle_same (audioUnit i frames (audioLive i s))).conditions
  have runs := exec_feedUnit_audio takes
  rw [audioUnit_around takes parts some_frame full] at ends conditions runs
  rw [subBlockFull_svc there] at le
  generalize completeSubBlock i (subBlockFull i a frames s) = done at le length ends conditions runs ⊢
  generalize settle (done.modLe i _) = u at ends conditions runs
  refine ⟨_, runs, (congrArg Service.le ends).trans ?_, isOpen_congr conditions _ _ _⟩
  rw [State.modLe, State.modSvc_svc_same _ _ _ (by rw [length]; exact full_there), le]
  rfl

/-- DEAD_AIR after a sub-block that a taken AUDIO unit completes with 4 powers or more in the ring (R35, R36). -/
theorem subBlockFull_deadAir {bytes : List Byte} {s : State} {i c : Nat} {frames : List (List Int)}
    (takes : s.takes bytes i (.audio c frames) = true) (a : List (List Int)) {l : Loudness}
    (completed : ((s.svc i).leFull s.tb.stationTime a).completeSubBlock (s.svc i).profile = l)
    (formed : 4 ≤ l.ring.length) :
    (clampLoudness (l.block (s.svc i).profile) < (s.svc i).profile.silenceThreshold →
      (s.svc i).profile.silenceLimit * 10 ≤ min 1200 ((s.svc i).le.silenceRun + 1) →
        (completeSubBlock i (subBlockFull i a frames s)).isOpen (some i) .deadAir none = true) ∧
    (¬ clampLoudness (l.block (s.svc i).profile) < (s.svc i).profile.silenceThreshold →
      (completeSubBlock i (subBlockFull i a frames s)).isOpen (some i) .deadAir none = false) := by
  have taken := unitTaken_of_takes takes
  have there : i < s.services.length := by rw [taken.sixteen]; exact taken.inRange
  have svc := subBlockFull_svc there a frames
  have run : l.silenceRun = (s.svc i).le.silenceRun := by rw [← completed]; exact leFull_silenceRun _ _ _
  have full_there : i < (subBlockFull i a frames s).services.length := by rw [subBlockFull_length]; exact there
  obtain ⟨opens, closes⟩ := completeSubBlock_deadAir (p := (s.svc i).profile) full_there
    (by rw [svc]; exact taken.enabled) (by rw [svc]; rfl)
    (by rw [svc]; exact completed) formed
  exact ⟨fun silent limit => opens silent (by rw [Loudness.silenceAfter, if_pos silent, run]; exact limit), closes⟩

/-- Settles O9: one frame channel by channel, a unit within a sub-block, and a unit that completes one. -/
theorem audioFillsSubBlocks : Obligations.AudioFillsSubBlocks := by
  unfold Obligations.AudioFillsSubBlocks
  refine ⟨fun l p xs filters sums few => ⟨rfl, fun m => ?_, fun k hk => ⟨fun sampled => ?_, fun unsampled => ?_⟩⟩,
    fun bytes s i c frames takes => ⟨fun short => ?_, fun a b parts some_frame full => ?_⟩⟩
  · rw [Loudness.frame, Nat.max_le, largestMagnitude_le]
  · obtain ⟨filter, sum⟩ := filterFrame_sample p (filters ▸ hk) (sums ▸ hk) sampled
    refine ⟨(congrArg Nat.cast sum).trans ?_, filter⟩
    rw [Nat.cast_add, Int.toNat_of_nonneg (mul_self_nonneg _)]
    rfl
  · exact (filterFrame_unsampled p unsampled).symm
  · have taken := unitTaken_of_takes takes
    have there : i < s.services.length := by rw [taken.sixteen]; exact taken.inRange
    have ends := settle_svc (audioUnit i frames (audioLive i s)) i
    have runs := exec_feedUnit_audio takes
    generalize settle (audioUnit i frames (audioLive i s)) = u at ends runs
    refine ⟨_, runs, (congrArg Service.le ends).trans ?_⟩
    rw [audioUnit_partial takes short, State.modLe,
      State.modSvc_svc_same _ _ _ (by rw [audioReady_length]; exact there), audioReady_svc there]
    rfl
  · have channels : (s.svc i).profile.channels = some c := of_decide_eq_true (unitTaken_of_takes takes).allowed
    obtain ⟨t, runs, le, deadAir⟩ := exec_feedUnit_completes takes parts some_frame full
    have judged := subBlockFull_deadAir takes a rfl
    rw [Loudness.block, completeSubBlock_ring channels, leFull_ring] at judged
    rw [judged_completeSubBlock channels, leFull_ring, leFull_silenceRun] at le
    intro l ring momentary run
    refine ⟨t, runs, le, fun formed silent limit => ?_, fun formed loud => ?_⟩
    · have counted : run = min 1200 ((s.svc i).le.silenceRun + 1) := (if_pos formed).trans (if_pos silent)
      exact deadAir.trans ((judged formed).1 silent (counted ▸ limit))
    · exact deadAir.trans ((judged formed).2 loud)

end Sys2Proof.Machine
end

section
/-! SUPPORT. What LE's credits and ST's continuation leave of a context that is in use, and the obligation of the credits
(R29 to R33, R71). -/

namespace Sys2Proof.Machine

/-! ### Contexts in use -/

/-- An operation that leaves a context in use, and keeps `keep` of it. -/
structure KeepsContext {α : Type} (keep : Context → α) (d : Nat) (s t : State) : Prop where
  free : d ∉ s.pool.free → d ∉ t.pool.free
  kept : d ∉ s.pool.free → keep (t.ctx d) = keep (s.ctx d)

namespace KeepsContext

variable {α β : Type} {keep : Context → α} {d : Nat} {s t u : State}

theorem refl (keep : Context → α) (d : Nat) (s : State) : KeepsContext keep d s s := ⟨id, fun _ => rfl⟩

theorem trans (h : KeepsContext keep d s t) (k : KeepsContext keep d t u) : KeepsContext keep d s u where
  free used := k.free (h.free used)
  kept used := (k.kept (h.free used)).trans (h.kept used)

/-- Less is kept where more is. -/
theorem mono {keep' : Context → β} (h : KeepsContext keep d s t) (less : ∀ x y, keep x = keep y → keep' x = keep' y) :
    KeepsContext keep' d s t :=
  { h with kept := fun used => less _ _ (h.kept used) }

theorem ofPool (h : t.pool = s.pool) : KeepsContext keep d s t :=
  ⟨by rw [h]; exact id, fun _ => by rw [State.ctx, State.ctx, h]⟩

theorem ofLog (h : OnlyLog s t) : KeepsContext keep d s t := ofPool h.pool

theorem modCtx {f : Context → Context} (h : ∀ x, keep (f x) = keep x) (c : Nat) (s : State) :
    KeepsContext keep d s (s.modCtx c f) :=
  ⟨id, fun _ => State.modCtx_ctx_keeps keep s c d h⟩

theorem foldl {γ : Type} {f : State → γ → State} (h : ∀ s a, KeepsContext keep d s (f s a)) (l : List γ) (s : State) :
    KeepsContext keep d s (l.foldl f s) := by
  induction l generalizing s with
  | nil => exact refl keep d s
  | cons a l ih => exact (h s a).trans (ih _)

theorem ite {c : Prop} [Decidable c] (h : KeepsContext keep d s t) (k : KeepsContext keep d s u) :
    KeepsContext keep d s (if c then t else u) := by
  split
  · exact h
  · exact k

end KeepsContext

/-! ### ST's continuation of a full context (R71) -/

theorem closeGap_pool (i k : Nat) (cause : CloseCause) (s : State) : (closeGap i k cause s).pool = s.pool := by
  unfold closeGap
  split
  · exact (closeCond_only _ _ _ _ _).pool
  · rfl

/-- What ST hands on leaves the pool. -/
theorem handOff_pool (i : Nat) (s : State) : (handOff i s).pool = s.pool := by
  have requirement : (handRequirement i s).pool = s.pool := by
    unfold handRequirement
    dsimp only
    split
    · rfl
    · exact grouped_pool (fun _ => foldl_pool (fun _ _ => closeGap_pool _ _ _ _) _ _) _
  exact requirement

/-- The figures that LE measures in a context, with MERGED and missing time (section 4.2). -/
def Context.measured (x : Context) :
    (Int × Bool × Nat) × Nat × Nat × List (Nat × Nat) × Option Int × Option Int × Option Int × Bool :=
  ((x.peak, x.peakOver, x.missing), x.blockCount, x.belowGate, x.bins, x.running, x.maxMomentary, x.maxShortTerm,
    x.flags.merged)

/-- What of a context no block changes. -/
def Context.besideBlocks (x : Context) : Int × Bool × Nat := (x.peak, x.peakOver, x.missing)

theorem KeepsContext.ofMeasured {d : Nat} {s t : State} (h : KeepsContext Context.measured d s t) :
    KeepsContext Context.besideBlocks d s t := h.mono fun _ _ => congrArg Prod.fst

/-- A context that opens is one that was free (R58). -/
theorem openContext_keeps {α : Type} (keep : Context → α) (d i depth : Nat) (e : StackEntry) (continued : Bool)
    (s : State) : KeepsContext keep d s (openContext i depth e continued s).1 := by
  unfold openContext
  split
  · exact .ofLog (logTake_only _ _ s)
  · next c rest top =>
    refine ⟨fun used => fun again => used (top ▸ List.mem_cons_of_mem c again), fun used => ?_⟩
    have other : c ≠ d := fun same => used (top ▸ same ▸ List.mem_cons_self)
    exact congrArg keep (State.modCtx_ctx_other _ _ other)

/-- The closing of a context keeps what LE measured in it (R67). -/
theorem closeEntry_measured (d i : Nat) (e : StackEntry) (depth : Nat) (outward : List StackEntry) (cause : SegmentCause)
    (s : State) : KeepsContext Context.measured d s (closeEntry i e depth outward cause s) := by
  have closed (f : ContextFlags) : (f.closedBy cause).merged = f.merged := by cases cause <;> rfl
  have settled (c : Nat) (t : State) : KeepsContext Context.measured d t (settleContext i c t) :=
    .foldl (fun u _ => .ite (.modCtx (by exact fun _ => rfl) _ u) (.refl _ d u)) _ t
  unfold closeEntry
  split
  · exact .ofLog (logTake_only _ _ s)
  · refine (KeepsContext.modCtx (fun x => ?_) _ s).trans ((settled _ _).trans
      ((KeepsContext.modCtx (by exact fun _ => rfl) _ _).trans (.ofPool rfl)))
    simp only [Context.measured, closed]

/-- The continuation of a full context keeps what LE measured in it (R71). -/
theorem limitContext_measured (d i c : Nat) (s : State) : KeepsContext Context.measured d s (limitContext i c s) := by
  have reopened (e : StackEntry) (depth : Nat) (t : State) (f : Segments → Segments) :
      KeepsContext Context.measured d t (handOff i ((openContext i depth e true t).1.modSt i f)) :=
    (openContext_keeps _ d i depth e true t).trans (.ofPool (handOff_pool i _))
  unfold limitContext
  split
  · exact .refl _ d s
  · unfold continueEntry
    dsimp only
    split
    · exact .refl _ d s
    · exact (closeEntry_measured d i _ _ _ _ s).trans (reopened _ _ _ _)

/-! ### The credit of a block (R30 to R33) -/

/-- A context with a block credited: MERGED where the innermost entry has no context of its own, and the running value at
every tenth (R30, R31, R33). -/
def Context.credited (x : Context) (inside : Bool) (l : Option Int) (mom : Int) (st : Option Int) (gate : Int) :
    Context :=
  ((if inside then { x with flags := { x.flags with merged := true } } else x).creditBlock l mom st).recompute gate

/-- The bins with a block of loudness `l` counted (R31). -/
def binsAfter (bins : List (Nat × Nat)) (l : Option Int) : List (Nat × Nat) :=
  match binOf l with
  | none => bins
  | some b => tableSet 0 bins b (tableGet 0 bins b + 1)

/-- The credit of a block, figure by figure. -/
theorem credited_measured (x : Context) (inside : Bool) (l : Option Int) (mom : Int) (st : Option Int) (gate : Int) :
    (x.credited inside l mom st gate).measured =
      (x.besideBlocks, x.blockCount + 1, (if (binOf l).isNone then x.belowGate + 1 else x.belowGate), binsAfter x.bins l,
        (if (x.blockCount + 1) % 10 = 0 then integrate (binsAfter x.bins l) gate else x.running),
        raiseMax x.maxMomentary mom, (match st with
          | none => x.maxShortTerm
          | some v => raiseMax x.maxShortTerm v), x.flags.merged || inside) := by
  have tenth (y : Context) : (y.recompute gate).measured = { y with
      running := if y.blockCount % 10 = 0 then integrate y.bins gate else y.running }.measured := by
    unfold Context.recompute
    split <;> rfl
  rw [Context.credited, tenth]
  cases inside
  · rw [Bool.or_false]; rfl
  · rw [Bool.or_true]; rfl

theorem credited_besideBlocks (x : Context) (inside : Bool) (l : Option Int) (mom : Int) (st : Option Int) (gate : Int) :
    (x.credited inside l mom st gate).besideBlocks = x.besideBlocks :=
  congrArg Prod.fst (credited_measured x inside l mom st gate)

/-- A block's loudness counts one in its bin, and in no other (R31). -/
theorem binsAfter_get {bins : List (Nat × Nat)} (wf : tableWf 0 bins = true) (l : Option Int) (k : Nat) :
    tableGet 0 (binsAfter bins l) k = tableGet 0 bins k + if binOf l = some k then 1 else 0 := by
  have rising : (bins.map Prod.fst).Pairwise (· < ·) := of_decide_eq_true (Bool.and_eq_true _ _ ▸ wf).1
  unfold binsAfter
  cases bin : binOf l with
  | none => simp
  | some b =>
    rcases eq_or_ne k b with rfl | other
    · rw [if_pos rfl]
      exact tableGet_set_same 0 _ _ _ rising
    · rw [if_neg fun same => other (Option.some.inj same).symm]
      exact tableGet_set_other 0 _ _ other rising

/-- A block is credited to the credit target, which may then be continued (R30 to R33, R71). -/
theorem creditBlock_eq {i d : Nat} {s : State} (target : s.target i = some d) (l : Option Int) (mom : Int)
    (st : Option Int) :
    creditBlock i l mom st s =
      let s1 := s.modCtx d fun x => x.credited (s.innermostUnmeasured i) l mom st (s.svc i).profile.gateOffset
      if (s1.ctx d).blockCount = 864000 then limitContext i d s1 else s1 := by
  rw [creditBlock, target]
  rfl

/-- What a block leaves in the credit target. -/
theorem creditBlock_measured {i d : Nat} {s : State} (target : s.target i = some d)
    (exists_ctx : d < s.pool.contexts.length) (used : d ∉ s.pool.free) (l : Option Int) (mom : Int) (st : Option Int) :
    ((creditBlock i l mom st s).ctx d).measured =
      ((s.ctx d).credited (s.innermostUnmeasured i) l mom st (s.svc i).profile.gateOffset).measured := by
  have credited := State.modCtx_ctx_same
    (fun x => x.credited (s.innermostUnmeasured i) l mom st (s.svc i).profile.gateOffset) exists_ctx
  rw [creditBlock_eq target, ← credited]
  dsimp only
  split
  · exact (limitContext_measured d i d _).kept used
  · rfl

/-- A block leaves the peak, its mark and missing time of every context in use. -/
theorem creditBlock_keeps (d i : Nat) (l : Option Int) (mom : Int) (st : Option Int) (s : State) :
    KeepsContext Context.besideBlocks d s (creditBlock i l mom st s) := by
  cases target : s.target i with
  | none => rw [creditBlock, target]; exact .refl _ d s
  | some c =>
    have credited := KeepsContext.modCtx (d := d) (keep := Context.besideBlocks)
      (fun x => credited_besideBlocks x (s.innermostUnmeasured i) l mom st (s.svc i).profile.gateOffset) c s
    rw [creditBlock_eq target]
    exact .ite (credited.trans (limitContext_measured d i c _).ofMeasured) credited

theorem countDeadAir_pool (i : Nat) (mom : Int) (s : State) : (countDeadAir i mom s).pool = s.pool :=
  (countDeadAir_only i mom s).pool

theorem completeSubBlock_keeps (d i : Nat) (s : State) :
    KeepsContext Context.besideBlocks d s (completeSubBlock i s) := by
  have done : KeepsContext Context.besideBlocks d s (subBlockDone i s) := .ofPool rfl
  have credited : KeepsContext Context.besideBlocks d s (blockCredited i s) := done.trans (creditBlock_keeps d i _ _ _ _)
  rw [completeSubBlock_eq]
  exact .ite (credited.trans (.ofPool (countDeadAir_pool _ _ _))) done

theorem takeFrame_keeps (d i : Nat) (s : State) (xs : List Int) :
    KeepsContext Context.besideBlocks d s (takeFrame i s xs) := by
  have framed : KeepsContext Context.besideBlocks d s (s.modLe i fun l => l.frame (s.svc i).profile xs) := .ofPool rfl
  exact .ite (framed.trans (completeSubBlock_keeps d i _)) framed

/-- The frames of a unit leave the peak, its mark and missing time of every context in use. -/
theorem foldl_takeFrame_keeps (d i : Nat) (frames : List (List Int)) (s : State) :
    KeepsContext Context.besideBlocks d s (frames.foldl (takeFrame i) s) :=
  .foldl (takeFrame_keeps d i) frames s

/-- What a sub-block leaves in the credit target when it forms a block. -/
theorem completeSubBlock_measured {i d : Nat} {s : State} (there : i < s.services.length) (target : s.target i = some d)
    (exists_ctx : d < s.pool.contexts.length) (used : d ∉ s.pool.free) {p : Profile} {l : Loudness}
    (profile : (s.svc i).profile = p) (completed : (s.svc i).le.completeSubBlock p = l) (formed : 4 ≤ l.ring.length) :
    ((completeSubBlock i s).ctx d).measured =
      ((s.ctx d).credited (s.innermostUnmeasured i) (l.block p) (clampLoudness (l.block p)) l.shortTerm
        p.gateOffset).measured := by
  subst profile completed
  have svc := subBlockDone_svc there
  have sameTarget : (subBlockDone i s).target i = some d := by rw [State.target, svc]; exact target
  have sameInside : (subBlockDone i s).innermostUnmeasured i = s.innermostUnmeasured i := by
    rw [State.innermostUnmeasured, svc]; rfl
  have credited := creditBlock_measured (s := subBlockDone i s) sameTarget exists_ctx used
  rw [sameInside, svc] at credited
  rw [completeSubBlock_eq, svc, if_pos formed, State.ctx, countDeadAir_pool, blockCredited, svc]
  exact credited _ _ _

/-! ### The credit of a unit's peak (R29) -/

/-- Two changes that agree on a context are the same change of it. -/
theorem State.modCtx_congr {s : State} {c : Nat} {f g : Context → Context} (h : f (s.ctx c) = g (s.ctx c)) :
    s.modCtx c f = s.modCtx c g := by
  have hm : s.pool.contexts.modify c f = s.pool.contexts.modify c g := by
    refine List.ext_getElem? fun j => ?_
    rw [List.getElem?_modify, List.getElem?_modify]
    rcases eq_or_ne c j with rfl | other
    · cases hx : s.pool.contexts[c]? with
      | none => rfl
      | some x =>
        have here : s.ctx c = x := by simp [State.ctx, List.getD_eq_getElem?_getD, hx]
        simp [← here, h]
    · simp [other]
  simp [State.modCtx, State.modPool, hm]

/-- Two changes of one context are one change. -/
theorem State.modCtx_modCtx (s : State) (c : Nat) (f g : Context → Context) :
    (s.modCtx c f).modCtx c g = s.modCtx c (g ∘ f) := by
  simp [State.modCtx, State.modPool, List.modify_modify_eq]

/-- A context with a unit's peak credited under a ceiling (R29). -/
def Context.peaked (x : Context) (ceiling peak : Int) : Context :=
  { x with peak := max x.peak peak, peakOver := x.peakOver || decide (ceiling < max x.peak peak) }

/-- A unit's peak is credited to the credit target, with one PEAK_OVER entry once it lies above the ceiling (R29). -/
theorem creditPeak_eq {i d : Nat} {s : State} (target : s.target i = some d) (exists_ctx : d < s.pool.contexts.length)
    (peak : Int) :
    creditPeak i peak s =
      let x := s.ctx d
      let ceiling := (s.svc i).profile.peakCeiling
      let s1 := s.modCtx d fun x => x.peaked ceiling peak
      if x.peakOver = false ∧ ceiling < max x.peak peak then
        logTake (some i) (.peakOver d x.kind x.id (max x.peak peak) ceiling) s1
      else s1 := by
  have raised := State.modCtx_ctx_same (fun x => { x with peak := max x.peak peak }) exists_ctx
  rw [creditPeak, target]
  simp only [raised, Bool.not_eq_true]
  by_cases entered : (s.ctx d).peakOver = false ∧ (s.svc i).profile.peakCeiling < max (s.ctx d).peak peak
  · rw [if_pos entered, if_pos entered.symm, State.modCtx_modCtx]
    exact congrArg _ (State.modCtx_congr (by simp [Context.peaked, entered.2]))
  · rw [if_neg entered, if_neg fun h => entered h.symm]
    refine State.modCtx_congr ?_
    cases marked : (s.ctx d).peakOver with
    | true => simp [Context.peaked, marked]
    | false =>
      have below : ¬ (s.svc i).profile.peakCeiling < max (s.ctx d).peak peak := fun above => entered ⟨marked, above⟩
      simp [Context.peaked, marked, below]

/-- Beside the log the credit of a peak changes the credit target alone. -/
theorem creditPeak_only {i d : Nat} {s : State} (target : s.target i = some d)
    (exists_ctx : d < s.pool.contexts.length) (peak : Int) :
    OnlyLog (s.modCtx d fun x => x.peaked (s.svc i).profile.peakCeiling peak) (creditPeak i peak s) := by
  rw [creditPeak_eq target exists_ctx]
  dsimp only
  split
  · exact logTake_only _ _ _
  · exact .refl _

/-! ### The end of an event without capture triggers (R164) -/

/-- With no trigger set an entry matches nothing. -/
theorem matchEntry_noTriggers {s : State} (h : s.noTriggers = true) (e : Entry) : matchEntry s e = s := by
  have unset (t : State) (ht : t.triggers = s.triggers) (k : Nat) : actOnSlot e t k = t := by
    have none_set : t.triggers.getD k none = none := by
      rw [ht, List.getD_eq_getElem?_getD]
      cases hk : s.triggers[k]? with
      | none => rfl
      | some x => exact Option.isNone_iff_eq_none.mp (List.all_eq_true.mp h x (List.mem_of_getElem? hk))
    rw [actOnSlot, none_set]
  have all (l : List Nat) (t : State) (ht : t.triggers = s.triggers) : l.foldl (actOnSlot e) t = t := by
    induction l with
    | nil => rfl
    | cons k l ih => rw [List.foldl_cons, unset t ht, ih]
  have none_made : entriesOf (fun t => (List.range 8).foldl (actOnSlot e) t) s = 0 :=
    congrArg (fun t : State => t.cl.lastSeq) (all _ (s.modCl fun c => { c with lastSeq := 0, exhausted := false }) rfl)
  rw [matchEntry, grouped_fits _ _ (by rw [none_made]; exact Nat.zero_le _), all _ _ rfl]

theorem fanOut_noTriggers {s : State} (h : s.noTriggers = true) :
    fanOut s = s.modCl fun c => { c with handed := [] } := by
  have all (l : List Entry) : l.foldl matchEntry s = s := by
    induction l with
    | nil => rfl
    | cons e l ih => rw [List.foldl_cons, matchEntry_noTriggers h, ih]
  rw [fanOut, all]

/-- With no trigger set and nothing else left, the end of an event is the transmitter's choice. -/
theorem settle_noTriggers {s : State} (h : s.noTriggers = true)
    (hs : (s.modCl fun c => { c with handed := [] }).settled = true) :
    settle s = (s.modCl fun c => { c with handed := [] }).modLc Line.startSending := by
  have once : fanOut s = s.modCl fun c => { c with handed := [] } := fanOut_noTriggers h
  have twice : fanOut (s.modCl fun c => { c with handed := [] }) = s.modCl fun c => { c with handed := [] } :=
    fanOut_noTriggers h
  have e : settle s = settle (s.modCl fun c => { c with handed := [] }) := by
    simp only [settle, once, twice]
  rw [e, settle_eq _ hs]

/-- What the log alone is changed of stays settled once TU has its entries. -/
theorem settled_ofLog {s t : State} (h : OnlyLog s t) (settled : s.settled = true) :
    (t.modCl fun c => { c with handed := [] }).settled = true := by
  simp only [State.settled, Bool.and_eq_true] at settled
  obtain ⟨⟨⟨-, verdict⟩, offline⟩, flush⟩ := settled
  simp only [State.settled, State.modCl_cu, State.modCl_cl, State.modCl_am, State.modCl_sp, h.engine, h.queue, h.am, h.sp,
    verdict, offline, flush, List.isEmpty_nil, Bool.and_self]

/-! ### AUDIO units -/

theorem OnlyLog.modCtx {s t : State} (h : OnlyLog s t) (c : Nat) (f : Context → Context) :
    OnlyLog (s.modCtx c f) (t.modCtx c f) :=
  { h with pool := congrArg (fun p : Pool => { p with contexts := p.contexts.modify c f }) h.pool }

/-- FI's part of a unit leaves the service's segments. -/
theorem audioLive_st (i : Nat) (s : State) : ((audioLive i s).svc i).st = (s.svc i).st := by
  rw [State.svc, (audioLive_only i s).services]
  exact State.modSvc_svc_keeps Service.st s i i fun _ => rfl

theorem audioLive_profile (i : Nat) (s : State) : ((audioLive i s).svc i).profile = (s.svc i).profile := by
  rw [State.svc, (audioLive_only i s).services]
  exact State.modSvc_svc_keeps Service.profile s i i fun _ => rfl

theorem audioLive_target (i : Nat) (s : State) : (audioLive i s).target i = s.target i := by
  rw [State.target, audioLive_st]
  rfl

theorem audioLive_pool (i : Nat) (s : State) : (audioLive i s).pool = s.pool := (audioLive_only i s).pool

/-- The peak of a unit (R28, R29). -/
def unitPeak (frames : List (List Int)) : Int := peakValue (largestMagnitude frames.flatten)

/-- Before its frames an AUDIO unit changes FI's state, its peak's credit target and the log. -/
theorem audioReady_only {i d : Nat} {s : State} (target : s.target i = some d) (exists_ctx : d < s.pool.contexts.length)
    (frames : List (List Int)) :
    OnlyLog ((s.modSvc i (Service.live s.tb.stationTime)).modCtx d fun x =>
      x.peaked (s.svc i).profile.peakCeiling (unitPeak frames)) (audioReady i frames s) := by
  have peaked := creditPeak_only ((audioLive_target i s).trans target)
    (by rw [audioLive_pool]; exact exists_ctx) (unitPeak frames)
  rw [audioLive_profile] at peaked
  exact ((audioLive_only i s).modCtx d _).trans peaked

theorem audioReady_free {i d : Nat} {s : State} (target : s.target i = some d)
    (exists_ctx : d < s.pool.contexts.length) (frames : List (List Int)) :
    (audioReady i frames s).pool.free = s.pool.free :=
  (congrArg Pool.free (audioReady_only target exists_ctx frames).pool :)

theorem audioReady_contexts_length {i d : Nat} {s : State} (target : s.target i = some d)
    (exists_ctx : d < s.pool.contexts.length) (frames : List (List Int)) :
    (audioReady i frames s).pool.contexts.length = s.pool.contexts.length :=
  (congrArg (fun p : Pool => p.contexts.length) (audioReady_only target exists_ctx frames).pool).trans
    (List.length_modify ..)

theorem audioReady_ctx {i d : Nat} {s : State} (target : s.target i = some d)
    (exists_ctx : d < s.pool.contexts.length) (frames : List (List Int)) :
    (audioReady i frames s).ctx d = (s.ctx d).peaked (s.svc i).profile.peakCeiling (unitPeak frames) := by
  rw [State.ctx, (audioReady_only target exists_ctx frames).pool]
  exact State.modCtx_ctx_same _ exists_ctx

/-- The log ring after an AUDIO unit that completes no sub-block: one PEAK_OVER entry, the first time the target's peak
lies above the ceiling (R29). -/
theorem settle_audioUnit_ring {bytes : List Byte} {s : State} {i n d : Nat} {frames : List (List Int)}
    (takes : s.takes bytes i (.audio n frames) = true) (target : s.target i = some d)
    (exists_ctx : d < s.pool.contexts.length) (short : (s.svc i).le.frameCount + frames.length < 4800)
    (settled : s.settled = true) (unset : s.noTriggers = true) (room : s.cl.exhausted = false)
    (held : (s.svc i).feed.state ≠ .lost) :
    (settle (audioUnit i frames (audioLive i s))).cl.ring =
      if (s.ctx d).peakOver = false ∧ (s.svc i).profile.peakCeiling < max (s.ctx d).peak (unitPeak frames) then
        ringJoin s.cl.ring (s.entryFor (some i) (.peakOver d (s.ctx d).kind (s.ctx d).id
          (max (s.ctx d).peak (unitPeak frames)) (s.svc i).profile.peakCeiling))
      else s.cl.ring := by
  have framed := (audioReady_only target exists_ctx frames).modSvc i fun v =>
    { v with le := v.le.frames (s.svc i).profile frames }
  have noTriggers : ((audioReady i frames s).modLe i (Loudness.frames (s.svc i).profile frames)).noTriggers = true :=
    (congrArg (fun l : List (Option Trigger) => l.all Option.isNone) framed.triggers).trans unset
  have live : audioLive i s = s.modFeed i fun f => { f with state := .live, lastAudio := some s.now } := if_neg held
  have ctx : (audioLive i s).ctx d = s.ctx d := by rw [live]; rfl
  have entered := creditPeak_eq ((audioLive_target i s).trans target) (by rw [audioLive_pool]; exact exists_ctx)
    (unitPeak frames)
  rw [audioLive_profile, ctx, live] at entered
  rw [audioUnit_partial takes short, settle_noTriggers noTriggers (settled_ofLog framed settled), audioReady, live]
  refine (congrArg (fun u : State => u.cl.ring) entered).trans ?_
  dsimp only
  split
  · exact congrArg LogState.ring (logTake_cl _ _ _ (by exact room))
  · rfl

/-- A loss that a unit ends takes no part in the frames. -/
theorem frames_lossStart (p : Profile) (frames : List (List Int)) (l : Loudness) (t : Option Nat) :
    Loudness.frames p frames { l with lossStart := t } = { l.frames p frames with lossStart := t } := by
  induction frames generalizing l with
  | nil => rfl
  | cons xs frames ih => exact ih (l.frame p xs)

theorem leFull_sums (v : Service) (now : Nat) (a : List (List Int)) :
    (v.leFull now a).sums = (v.le.frames v.profile a).sums := by
  rw [Service.leFull, live_le]
  split
  · rw [frames_lossStart]
  · rfl

/-- What the sub-block that a taken AUDIO unit completes leaves in the credit target when it forms a block. -/
theorem exec_feedUnit_block {bytes : List Byte} {s : State} {i n d : Nat} {frames a b : List (List Int)}
    (takes : s.takes bytes i (.audio n frames) = true) (target : s.target i = some d)
    (exists_ctx : d < s.pool.contexts.length) (used : d ∉ s.pool.free) (parts : frames = a ++ b) (some_frame : a ≠ [])
    (full : (s.svc i).le.frameCount + a.length = 4800) {l : Loudness}
    (completed : ((s.svc i).leFull s.tb.stationTime a).completeSubBlock (s.svc i).profile = l)
    (formed : 4 ≤ l.ring.length) :
    ∃ t, exec (.feedUnit bytes) s = .next t ∧ (t.ctx d).measured =
      (((s.ctx d).peaked (s.svc i).profile.peakCeiling (unitPeak frames)).credited (s.innermostUnmeasured i)
        (l.block (s.svc i).profile) (clampLoudness (l.block (s.svc i).profile)) l.shortTerm
        (s.svc i).profile.gateOffset).measured := by
  have taken := unitTaken_of_takes takes
  have there : i < s.services.length := by rw [taken.sixteen]; exact taken.inRange
  have svc := subBlockFull_svc there a frames
  have full_there : i < (subBlockFull i a frames s).services.length := by rw [subBlockFull_length]; exact there
  have full_ctx : d < (subBlockFull i a frames s).pool.contexts.length :=
    exists_ctx.trans_eq (audioReady_contexts_length target exists_ctx frames).symm
  have full_used : d ∉ (subBlockFull i a frames s).pool.free :=
    fun again => used (audioReady_free target exists_ctx frames ▸ again)
  have full_target : (subBlockFull i a frames s).target i = some d := by rw [State.target, svc]; exact target
  have full_inside : (subBlockFull i a frames s).innermostUnmeasured i = s.innermostUnmeasured i := by
    rw [State.innermostUnmeasured, svc]; rfl
  have credited := completeSubBlock_measured full_there full_target full_ctx full_used (p := (s.svc i).profile)
    (by rw [svc]; rfl) (by rw [svc]; exact completed) formed
  have full_peaked : (subBlockFull i a frames s).ctx d =
      (s.ctx d).peaked (s.svc i).profile.peakCeiling (unitPeak frames) := audioReady_ctx target exists_ctx frames
  rw [full_inside, full_peaked] at credited
  have ended := settle_ctx_keeps Context.measured (fun _ => rfl) (audioUnit i frames (audioLive i s)) d
  have runs := exec_feedUnit_audio takes
  rw [audioUnit_around takes parts some_frame full] at ended runs
  generalize completeSubBlock i (subBlockFull i a frames s) = done at credited ended runs
  generalize settle (done.modLe i _) = u at ended runs
  exact ⟨_, runs, ended.trans credited⟩

/-- Settles O10: the peak as it is credited before the frames, a unit without a block, and a unit that forms one. -/
theorem blocksAndPeaksAreCredited : Obligations.BlocksAndPeaksAreCredited := by
  unfold Obligations.BlocksAndPeaksAreCredited
  intro bytes s i n d frames takes target exists_ctx used wf
  have runs := exec_feedUnit_audio takes
  have ready := audioReady_ctx target exists_ctx frames
  have ready_used : d ∉ (audioReady i frames s).pool.free := by rw [audioReady_free target exists_ctx]; exact used
  intro p x peak before
  refine ⟨⟨_, runs, ?_⟩, fun short => ⟨_, runs, ?_⟩, fun a b parts some_frame full powers => ?_⟩
  · obtain ⟨t, same, -, -, others, -⟩ := audioMakesFeedLive bytes s i n frames takes
    obtain rfl := Host.Outcome.next.inj (runs.symm.trans same)
    have kept := (foldl_takeFrame_keeps d i frames (audioReady i frames s)).kept ready_used
    rw [← audioUnit_eq, ready] at kept
    have ended := settle_ctx_keeps Context.besideBlocks (fun _ => rfl) (audioUnit i frames (audioLive i s)) d
    rw [kept] at ended
    generalize settle (audioUnit i frames (audioLive i s)) = u at ended others
    simp only [Context.besideBlocks, Prod.mk.injEq] at ended
    obtain ⟨peak, peakOver, missing⟩ := ended
    exact ⟨peak, peakOver, missing, others⟩
  · have ended := settle_ctx_keeps Context.measured (fun _ => rfl) (audioUnit i frames (audioLive i s)) d
    have ring := settle_audioUnit_ring takes target exists_ctx short
    have partialCtx : (audioUnit i frames (audioLive i s)).ctx d =
        x.peaked p.peakCeiling (unitPeak frames) := by
      rw [audioUnit_partial takes short]
      exact ready
    rw [partialCtx] at ended
    simp only [Context.measured, Prod.mk.injEq] at ended
    obtain ⟨-, blockCount, belowGate, bins, running, maxMomentary, maxShortTerm, -⟩ := ended
    generalize settle (audioUnit i frames (audioLive i s)) = u at *
    exact ⟨blockCount, belowGate, bins, running, maxMomentary, maxShortTerm, ring⟩
  · intro l ring loud bin
    have channels : p.channels = some n := of_decide_eq_true (unitTaken_of_takes takes).allowed
    have completedRing : (((s.svc i).leFull s.tb.stationTime a).completeSubBlock p).ring = ring := by
      rw [completeSubBlock_ring channels, leFull_ring, leFull_sums]
      rfl
    have formed : 4 ≤ ring.length := by
      simp only [ring, List.length_take, List.length_cons]
      omega
    have isBin : bin = binOf loud := by
      simp only [bin]
      cases loud <;> rfl
    obtain ⟨t, runs, credited⟩ := exec_feedUnit_block takes target exists_ctx used parts some_frame full rfl
      (by rw [completedRing]; exact formed)
    have isLoud : (((s.svc i).leFull s.tb.stationTime a).completeSubBlock p).block p = loud := by
      rw [Loudness.block, completedRing]
    have isShort : (((s.svc i).leFull s.tb.stationTime a).completeSubBlock p).shortTerm =
        if ring.length = 30 then some (clampLoudness (blockLoudness 30 ring.sum p.offset)) else none := by
      rw [← completedRing]; rfl
    rw [credited_measured, isLoud, isShort] at credited
    simp only [Context.measured, Prod.mk.injEq] at credited
    obtain ⟨-, blockCount, belowGate, bins, running, maxMomentary, maxShortTerm, merged⟩ := credited
    refine ⟨t, runs, blockCount, belowGate.trans ?_, fun k => ?_, maxMomentary.trans ?_, fun whole => ?_, fun part => ?_,
      ?_, merged⟩
    · rw [isBin]
      cases binOf loud <;> rfl
    · rw [bins, isBin]
      exact binsAfter_get wf loud k
    · cases hm : x.maxMomentary <;> simp [raiseMax, Context.peaked, x, hm]
    · rw [maxShortTerm, if_pos whole]
      cases hm : x.maxShortTerm <;> simp [raiseMax, Context.peaked, x, hm]
    · rw [maxShortTerm, if_neg part]
      rfl
    · rw [running, bins]
      rfl

end Sys2Proof.Machine
end

section
/-! SUPPORT. What a profile's fields hold and show after PRF, the fields of WGT, and the obligation of both (R22, R98, R99,
R171). -/

namespace Sys2Proof.Machine

/-! ### A field after its own assignment (R98, R99) -/

theorem setAt_getD_same {α : Type} {l : List α} {k : Nat} (h : k < l.length) (x d : α) : (setAt l k x).getD k d = x := by
  simp [setAt, List.getD_eq_getElem?_getD, h]

theorem setAt_getD_other {α : Type} (l : List α) {j k : Nat} (h : j ≠ k) (x d : α) :
    (setAt l j x).getD k d = l.getD k d := by
  simp [setAt, List.getD_eq_getElem?_getD, h]

/-- A natural number stored from a record shows as it was sent. -/
theorem natText_toNat {n : Int} (h : 0 ≤ n) : natText n.toNat = intText n := by
  rw [intText, if_neg (by omega), show n.toNat = n.natAbs by omega]

/-- A field of 0 or 1 stored as a mark shows as it was sent. -/
theorem boolInt_decide {n : Int} (least : 0 ≤ n) (most : n ≤ 1) : boolInt (decide (n = 1)) = n := by
  obtain rfl | rfl : n = 0 ∨ n = 1 := by omega
  · rfl
  · rfl

/-- A numeric field inside its range reads as it was sent. -/
theorem show_store_number {k : Key} {p : Profile} {lo hi n : Int} (range : k.range = some (lo, hi)) (least : lo ≤ n)
    (most : n ≤ hi) (six : p.weights.length = 6) (channel : ∀ j, k = .weight j → j < 6) :
    k.show (k.store (.number n) p) = intText n := by
  cases k with
  | weight j =>
    simp only [Key.range, Option.some.injEq, Prod.mk.injEq] at range
    have there : j < p.weights.length := six ▸ channel j rfl
    exact (congrArg natText (setAt_getD_same there n.toNat 0)).trans (natText_toNat (by omega))
  | kindDefault | amask | en | coeff => cases range
  | ofs | tgt | tol | adm | adc | pkc | gate | silt => rfl
  | prc | rcd | str | hof =>
    simp only [Key.range, Option.some.injEq, Prod.mk.injEq] at range
    exact congrArg intText (boolInt_decide (by omega) (by omega))
  | ch | sill | fto | ftol | slots | cto | gapl | covm | adl | ret | evm | keep =>
    simp only [Key.range, Option.some.injEq, Prod.mk.injEq] at range
    exact natText_toNat (by omega)

/-- A default reads as it was given. -/
theorem show_store_default {j : Nat} {p : Profile} (six : p.kindDefaults.length = 6) (kind : j < 6) (q : Requirement) :
    Key.show (.kindDefault j) (Key.store (.kindDefault j) (.default q) p) =
      if q = .required then ascii "REQ" else ascii "EXM" := by
  have stored : (setAt p.kindDefaults j q).getD j .exempt = q := setAt_getD_same (six ▸ kind) q .exempt
  simp only [Key.show, Key.store, stored]

/-! ### The other fields (R99) -/

/-- A value that changes a profile is a number, or has the form of a default or of a mask for its field. -/
theorem value_of_store_ne {k : Key} {v : Value} {p : Profile} (h : k.store v p ≠ p) :
    (∃ n, v = .number n) ∨ (∃ j r, k = .kindDefault j ∧ v = .default r) ∨ ∃ m, k = .amask ∧ v = .mask m := by
  cases v with
  | number n => exact .inl ⟨n, rfl⟩
  | default r =>
    cases k with
    | kindDefault j => exact .inr (.inl ⟨j, r, rfl, rfl⟩)
    | _ => exact absurd rfl h
  | mask m =>
    cases k with
    | amask => exact .inr (.inr ⟨m, rfl, rfl⟩)
    | _ => exact absurd rfl h

/-- PRF leaves the coefficients (R99). -/
theorem store_sections (k : Key) (v : Value) (p : Profile) :
    (k.store v p).section1 = p.section1 ∧ (k.store v p).section2 = p.section2 := by
  cases k <;> cases v <;> exact ⟨rfl, rfl⟩

theorem show_coeff_store (sec : Nat) (k : Key) (v : Value) (p : Profile) :
    Key.show (.coeff sec) (k.store v p) = Key.show (.coeff sec) p := by
  obtain ⟨first_section, second_section⟩ := store_sections k v p
  match sec with
  | 0 | _ + 2 => exact congrArg (fun c => commas (coefficientTexts c)) second_section
  | 1 => exact congrArg (fun c => commas (coefficientTexts c)) first_section

/-- The storing of a number leaves what every other field shows. -/
theorem show_store_number_other {k other : Key} (ne : other ≠ k) (n : Int) (p : Profile) :
    other.show (k.store (.number n) p) = other.show p := by
  cases k with
  | weight j =>
    cases other with
    | weight i => exact congrArg natText (setAt_getD_other _ (fun same => ne (congrArg Key.weight same.symm)) _ _)
    | coeff sec => exact show_coeff_store sec _ _ p
    | _ => rfl
  | kindDefault | amask | en | coeff => rfl
  | _ =>
    cases other with
    | coeff sec => exact show_coeff_store sec _ _ p
    -- The same field again contradicts `ne`; any other one is another component of the profile.
    | _ => first | exact absurd rfl ne | rfl

/-- The storing of a value leaves what every other field shows. -/
theorem show_store_other {k other : Key} (ne : other ≠ k) (v : Value) (p : Profile) :
    other.show (k.store v p) = other.show p := by
  by_cases kept : k.store v p = p
  · rw [kept]
  · obtain ⟨n, rfl⟩ | ⟨j, r, rfl, rfl⟩ | ⟨m, rfl, rfl⟩ := value_of_store_ne kept
    · exact show_store_number_other ne n p
    · cases other with
      | kindDefault i =>
        have stands : (setAt p.kindDefaults j r).getD i .exempt = p.kindDefaults.getD i .exempt :=
          setAt_getD_other _ (fun same => ne (congrArg Key.kindDefault same.symm)) _ _
        simp only [Key.show, Key.store, stands]
      | coeff sec => exact show_coeff_store sec _ _ p
      | _ => rfl
    · cases other with
      | amask => exact absurd rfl ne
      | coeff sec => exact show_coeff_store sec _ _ p
      | _ => rfl

/-! ### PRF of a disabled service (R99) -/

theorem exec_prf (i : Nat) (settings : List (Text × Text)) (s : State) : exec (.prf i settings) s =
    .next (verbRow (.prf i settings) (opPrf i settings (fieldsOf (.prf i settings))) s) := rfl

/-- PRF's operation on a disabled service is the change of its profile, and the reply shows the fields as stored. -/
theorem opPrf_disabled {i : Nat} {settings : List (Text × Text)} {as : List Assignment} {sent : List Text} {s : State}
    (hi : i < 16) (parsed : assignmentsOf settings = .ok as) (off : (s.svc i).profile.enabled = false) :
    opPrf i settings sent s = (s.modSvc i fun v => { v with profile := assign as v.profile },
      some (words ([ascii "=PRF", natText i] ++
        (as.map fun a => [a.name, a.key.show (assign as (s.svc i).profile)]).flatten ++
        (if anyClamped as then [ascii "CLAMPED"] else [])))) := by
  have set : profileSet i (assign as (s.svc i).profile) s =
      s.modSvc i fun v => { v with profile := assign as v.profile } := by
    simp only [profileSet, off, Bool.false_eq_true, if_false]
    exact State.modSvc_congr rfl
  simp only [opPrf, serviceOk, Config.serviceCount, hi, decide_true, inRange_true, parsed, off, Bool.false_eq_true,
    false_and, if_false, set]
  rfl

/-! ### WGT (R22) -/

theorem exec_wgt (i sec : Nat) (b0 b1 b2 a1 a2 : Int) (s : State) : exec (.wgt i sec b0 b1 b2 a1 a2) s =
    .next (verbRow (.wgt i sec b0 b1 b2 a1 a2)
      (opWgt i sec ⟨b0, b1, b2, a1, a2⟩ (fieldsOf (.wgt i sec b0 b1 b2 a1 a2))) s) := rfl

/-- A coefficient lies in the range of R20: a 32-bit number. -/
def coefficientIn (n : Int) : Prop := -2147483648 ≤ n ∧ n ≤ 2147483647

/-- Every coefficient of a section lies in its range. -/
def Coefficients.inRange (c : Coefficients) : Prop := ∀ n ∈ [c.b0, c.b1, c.b2, c.a1, c.a2], coefficientIn n

theorem clampCoefficient_eq {n : Int} (h : coefficientIn n) : clampCoefficient n = n := by
  obtain ⟨least, most⟩ := h
  rw [clampCoefficient, clampInt, if_neg (by omega), if_neg (by omega)]

/-- A coefficient takes at most 11 characters. -/
theorem intText_length {n : Int} (h : coefficientIn n) : (intText n).length ≤ 11 := by
  obtain ⟨least, most⟩ := h
  have digits := natText_bound 9 n.natAbs (by omega)
  unfold intText
  split
  · rw [List.length_cons]; omega
  · omega

/-- A coefficient is a field in its form (R171). -/
theorem intText_fieldOk {n : Int} (h : coefficientIn n) : faultyField (intText n) = false := by
  obtain ⟨least, most⟩ := h
  have digits : ∀ c ∈ natText n.natAbs, 48 ≤ c ∧ c ≤ 57 := digitsOf_digit 40 n.natAbs
  have length := natText_bound 11 n.natAbs (by omega)
  unfold intText
  split
  · have printable : (natText n.natAbs).any (fun c => decide (c ≤ 32) || decide (127 ≤ c)) = false := by
      rw [List.any_eq_false]
      intro c hc
      have := digits c hc
      simp
      omega
    simp only [faultyField, List.isEmpty_cons, List.any_cons, printable]
    simpa using fun _ => length
  · exact natText_fieldOk _ (by omega)

/-- Fields none of which is at fault have no position at fault. -/
theorem firstPosition_none {p : Text → Bool} {l : List Text} (h : ∀ t ∈ l, p t = false) (pos : Nat) :
    firstPosition p pos l = none := by
  induction l generalizing pos with
  | nil => rfl
  | cons t l ih =>
    rw [firstPosition, h t List.mem_cons_self, if_neg Bool.false_ne_true, ih fun u hu => h u (List.mem_cons_of_mem t hu)]

/-- A record or a reply of a word of at most 4 characters, a service, a section and its coefficients meets R171 and R174.
-/
theorem words_coefficients_length {v : Text} {i sec : Nat} {c : Coefficients} (word : v.length ≤ 4) (hi : i < 16)
    (section_number : sec = 1 ∨ sec = 2) (range : c.inRange) :
    (words (v :: natText i :: natText sec :: coefficientTexts c)).length ≤ Config.recordChars := by
  have service := natText_bound 1 i (by omega)
  have sectionLength := natText_bound 0 sec (by omega)
  have b0 := intText_length (range c.b0 (by simp))
  have b1 := intText_length (range c.b1 (by simp))
  have b2 := intText_length (range c.b2 (by simp))
  have a1 := intText_length (range c.a1 (by simp))
  have a2 := intText_length (range c.a2 (by simp))
  simp only [coefficientTexts, List.map_cons, List.map_nil, words, List.length_append, List.length_cons,
    Config.recordChars]
  omega

/-- A WGT record of coefficients in their range meets R171. -/
theorem sendable_wgt {i sec : Nat} {c : Coefficients} (hi : i < 16) (section_number : sec = 1 ∨ sec = 2)
    (range : c.inRange) : sendable (.wgt i sec c.b0 c.b1 c.b2 c.a1 c.a2) = true := by
  have length := words_coefficients_length (v := ascii "WGT") (by decide) hi section_number range
  have form : syntaxFault (.wgt i sec c.b0 c.b1 c.b2 c.a1 c.a2) = none := by
    refine congrArg (earlierFault · none) (firstPosition_none (fun t ht => ?_) 1)
    simp only [fieldsOf, List.mem_cons, List.mem_map] at ht
    obtain rfl | rfl | ⟨n, coefficient, rfl⟩ := ht
    · exact natText_fieldOk i (by omega)
    · exact natText_fieldOk sec (by omega)
    · exact intText_fieldOk (range n (by simpa using coefficient))
  rw [sendable, form, Bool.and_eq_true]
  exact ⟨decide_eq_true length, rfl⟩

/-- WGT's operation on a disabled service sets the section's coefficients as sent. -/
theorem opWgt_disabled {i sec : Nat} {c : Coefficients} {sent : List Text} {s : State} (hi : i < 16)
    (section_number : sec = 1 ∨ sec = 2) (range : c.inRange) (off : (s.svc i).profile.enabled = false) :
    opWgt i sec c sent s =
      (s.modProfile i fun p => if sec = 1 then { p with section1 := c } else { p with section2 := c },
        some (words (ascii "=WGT" :: natText i :: natText sec :: coefficientTexts c))) := by
  have kept : (⟨clampCoefficient c.b0, clampCoefficient c.b1, clampCoefficient c.b2, clampCoefficient c.a1,
      clampCoefficient c.a2⟩ : Coefficients) = c := by
    rw [clampCoefficient_eq (range c.b0 (by simp)), clampCoefficient_eq (range c.b1 (by simp)),
      clampCoefficient_eq (range c.b2 (by simp)), clampCoefficient_eq (range c.a1 (by simp)),
      clampCoefficient_eq (range c.a2 (by simp))]
  simp only [opWgt, serviceOk, Config.serviceCount, hi, section_number, decide_true, inRange_true, off, kept]
  simp [say, accepted, clampedMark, ascii]

/-- WGT of a disabled service sets the coefficients of the section it names (R22). -/
theorem exec_wgt_disabled {i sec : Nat} {c : Coefficients} {s : State} (ready : s.ready = true) (hi : i < 16)
    (section_number : sec = 1 ∨ sec = 2) (range : c.inRange) (off : (s.svc i).profile.enabled = false) :
    ∃ t, exec (.wgt i sec c.b0 c.b1 c.b2 c.a1 c.a2) s = .next t ∧
      SameCore (s.modProfile i fun p => if sec = 1 then { p with section1 := c } else { p with section2 := c }) t :=
  ⟨_, exec_wgt i sec c.b0 c.b1 c.b2 c.a1 c.a2 s,
    verbRow_same ready (sendable_wgt hi section_number range) (opWgt_disabled hi section_number range off)
      (decide_eq_true (words_coefficients_length (by decide) hi section_number range))⟩

/-- WGT of an enabled service is refused (R22). -/
theorem exec_wgt_enabled {i sec : Nat} {c : Coefficients} {s : State} (ready : s.ready = true) (hi : i < 16)
    (section_number : sec = 1 ∨ sec = 2) (range : c.inRange) (on : (s.svc i).profile.enabled = true)
    (settled : s.settled = true) :
    exec (.wgt i sec c.b0 c.b1 c.b2 c.a1 c.a2) s =
      .next (s.replying (words [ascii "!WGT", ascii "STATE", ascii "ENABLED"])) := by
  obtain ⟨sending, reply, -⟩ := ready_parts ready
  have op : opWgt i sec c (fieldsOf (.wgt i sec c.b0 c.b1 c.b2 c.a1 c.a2)) s =
      (s, some (words [ascii "!WGT", ascii "STATE", ascii "ENABLED"])) := by
    simp only [opWgt, serviceOk, Config.serviceCount, hi, section_number, decide_true, inRange_true, on]
    rfl
  rw [exec_wgt, verbRow_exact _ _ _ _ _ ready (sendable_wgt hi section_number range) op (by decide) settled sending reply]

/-- Settles O44: PRF as one change of the profile, its fields one by one, and WGT's two sections and refusal. -/
theorem profileRecordsSetFields : Obligations.ProfileRecordsSetFields := by
  unfold Obligations.ProfileRecordsSetFields
  refine ⟨fun s i settings as r ready hi _ sendable parsed off reply fit => ?_, fun k lo hi n range => ?_,
    fun k p lo hi n range least most six channel => show_store_number range least most six channel,
    fun j p q six kind => show_store_default six kind q, fun m p => rfl,
    fun k other v p ne _ => show_store_other ne v p,
    fun s i c ready hi _ range => ⟨fun off => ⟨?_, ?_⟩, fun on settled => ?_⟩⟩
  · have op := opPrf_disabled (sent := fieldsOf (.prf i settings)) hi parsed off
    rw [← reply] at op
    exact ⟨_, ⟨exec_prf i settings s, verbRow_answered _ _ _ _ _ ready sendable op fit (ready_parts ready).1⟩,
      verbRow_same ready sendable op fit⟩
  · simp only [Key.clamped, range, clampInt]
  · exact exec_wgt_disabled ready hi (.inl rfl) range off
  · exact exec_wgt_disabled ready hi (.inr rfl) range off
  · exact exec_wgt_enabled ready hi (.inl rfl) range on settled

end Sys2Proof.Machine
end

section
/-! SUPPORT. What an event's entries and its end touch beside the evaluation that starts, the verdict engine's checks and
completion, the range of gated integration, and the obligation of all of them (R50, R72, R104, R106, R108). -/

namespace Sys2Proof.Machine

/-! ### Operations of the log, the archive, the exports and the line alone -/

/-- Only CL, AM, EE and LC differ. -/
def OnlyLogArchive (s t : State) : Prop :=
  ∃ cl am ee lc, t = { s with cl := cl, am := am, ee := ee, lc := lc }

namespace OnlyLogArchive

variable {s t u : State}

theorem refl (s : State) : OnlyLogArchive s s := ⟨_, _, _, _, rfl⟩

theorem trans (h : OnlyLogArchive s t) (k : OnlyLogArchive t u) : OnlyLogArchive s u := by
  obtain ⟨_, _, _, _, rfl⟩ := h
  obtain ⟨cl, am, ee, lc, rfl⟩ := k
  exact ⟨cl, am, ee, lc, rfl⟩

theorem modCl (f : LogState → LogState) (s : State) : OnlyLogArchive s (s.modCl f) := ⟨_, _, _, _, rfl⟩
theorem modAm (f : Archive → Archive) (s : State) : OnlyLogArchive s (s.modAm f) := ⟨_, _, _, _, rfl⟩
theorem modEe (f : ExportEngine → ExportEngine) (s : State) : OnlyLogArchive s (s.modEe f) := ⟨_, _, _, _, rfl⟩
theorem modLc (f : Line → Line) (s : State) : OnlyLogArchive s (s.modLc f) := ⟨_, _, _, _, rfl⟩

theorem markDirty (p : Nat) (s : State) : OnlyLogArchive s (s.markDirty p) := modAm _ s

theorem ite {c : Prop} [Decidable c] (h : OnlyLogArchive s t) (k : OnlyLogArchive s u) :
    OnlyLogArchive s (if c then t else u) := by
  split
  · exact h
  · exact k

theorem foldl {α : Type} {f : State → α → State} (h : ∀ s a, OnlyLogArchive s (f s a)) (l : List α) (s : State) :
    OnlyLogArchive s (l.foldl f s) := by
  induction l generalizing s with
  | nil => exact refl s
  | cons a l ih => exact (h s a).trans (ih _)

/-- An update of a service, of the pool or of CU stands beside such an operation. -/
theorem besideSvc (h : OnlyLogArchive s t) (i : Nat) (f : Service → Service) :
    OnlyLogArchive (s.modSvc i f) (t.modSvc i f) := by
  obtain ⟨cl, am, ee, lc, rfl⟩ := h
  exact ⟨cl, am, ee, lc, rfl⟩

theorem besidePool (h : OnlyLogArchive s t) (f : Pool → Pool) : OnlyLogArchive (s.modPool f) (t.modPool f) := by
  obtain ⟨cl, am, ee, lc, rfl⟩ := h
  exact ⟨cl, am, ee, lc, rfl⟩

theorem besideCu (h : OnlyLogArchive s t) (f : Compliance → Compliance) :
    OnlyLogArchive (s.modCu f) (t.modCu f) := by
  obtain ⟨cl, am, ee, lc, rfl⟩ := h
  exact ⟨cl, am, ee, lc, rfl⟩

/-- The start of an evaluation reads nothing of the log, the archive, the exports or the line (R102). -/
theorem besideStart (h : OnlyLogArchive s t) : OnlyLogArchive (startVerdict s) (startVerdict t) := by
  obtain ⟨cl, am, ee, lc, rfl⟩ := h
  cases engine : s.cu.engine with
  | some e => exact ⟨cl, am, ee, lc, by simp only [startVerdict, engine]⟩
  | none =>
    cases queue : s.cu.queue with
    | nil => exact ⟨cl, am, ee, lc, by simp only [startVerdict, engine, queue]⟩
    | cons c rest => exact ⟨cl, am, ee, lc, by simp only [startVerdict, engine, queue]; rfl⟩

theorem services_eq (h : OnlyLogArchive s t) : t.services = s.services := by obtain ⟨_, _, _, _, rfl⟩ := h; rfl
theorem pool_eq (h : OnlyLogArchive s t) : t.pool = s.pool := by obtain ⟨_, _, _, _, rfl⟩ := h; rfl
theorem cu_eq (h : OnlyLogArchive s t) : t.cu = s.cu := by obtain ⟨_, _, _, _, rfl⟩ := h; rfl
theorem tb_eq (h : OnlyLogArchive s t) : t.tb = s.tb := by obtain ⟨_, _, _, _, rfl⟩ := h; rfl
theorem sp_eq (h : OnlyLogArchive s t) : t.sp = s.sp := by obtain ⟨_, _, _, _, rfl⟩ := h; rfl

end OnlyLogArchive

/-! ### Entries and holds (R120, R121, R156, R164) -/

theorem pushReport_logArchive (r : Text) (s : State) : OnlyLogArchive s (pushReport r s) := .modLc _ s

theorem logTake_logArchive (svc : Option Nat) (b : Body) (s : State) : OnlyLogArchive s (logTake svc b s) :=
  .ite (.refl s) ((OnlyLogArchive.modCl _ s).trans (pushReport_logArchive _ _))

theorem logReserve_logArchive (n : Nat) (s : State) : OnlyLogArchive s (logReserve n s) :=
  .ite (.modCl _ s) (.refl s)

theorem requestHold_logArchive (r : HoldRequest) (s : State) : OnlyLogArchive s (requestHold r s).1 := by
  unfold requestHold
  split
  · exact logTake_logArchive _ _ s
  · exact ((OnlyLogArchive.modAm _ s).trans (logTake_logArchive _ _ _)).trans (.markDirty _ _)

theorem actOnSlot_logArchive (e : Entry) (s : State) (k : Nat) : OnlyLogArchive s (actOnSlot e s k) := by
  unfold actOnSlot
  split
  · exact .refl s
  · have reported (c : Prop) [Decidable c] (r : Text) : OnlyLogArchive s (if c then s else pushReport r s) :=
      .ite (.refl s) (pushReport_logArchive r s)
    exact .ite (.ite (reported _ _) ((reported _ _).trans (requestHold_logArchive _ _))) (.refl s)

theorem matchEntry_logArchive (s : State) (e : Entry) : OnlyLogArchive s (matchEntry s e) :=
  (logReserve_logArchive _ s).trans (.foldl (actOnSlot_logArchive e) _ _)

theorem fanOut_logArchive (s : State) : OnlyLogArchive s (fanOut s) :=
  (OnlyLogArchive.foldl matchEntry_logArchive _ s).trans (.modCl _ _)

/-! ### The end of an event (R102, R128, R151, R190) -/

theorem endExport_logArchive (o : ExportOutcome) (s : State) : OnlyLogArchive s (endExport o s) := by
  unfold endExport
  split
  · exact .refl s
  · exact ((OnlyLogArchive.modEe _ s).trans (logTake_logArchive _ _ _)).trans (pushReport_logArchive _ _)

theorem abortExport_logArchive (o : ExportOutcome) (s : State) : OnlyLogArchive s (abortExport o s) := by
  unfold abortExport
  split
  · exact .refl s
  · split
    · exact .modEe _ s
    · exact endExport_logArchive o s

theorem offlineChange_logArchive (s : State) : OnlyLogArchive s (offlineChange s) :=
  .ite (((OnlyLogArchive.modAm _ s).trans (logTake_logArchive _ _ _)).trans (abortExport_logArchive _ _)) (.refl s)

theorem endFlush_logArchive (o : FlushOutcome) (s : State) : OnlyLogArchive s (endFlush o s) :=
  .ite ((OnlyLogArchive.modAm _ s).trans (logTake_logArchive _ _ _)) (.modAm _ s)

theorem flushStep_logArchive (s : State) : OnlyLogArchive s (flushStep s) :=
  .ite (.ite (endFlush_logArchive _ s) (.ite (endFlush_logArchive _ s)
    (.ite ((OnlyLogArchive.modAm _ s).trans (.markDirty _ _)) (.refl s)))) (.refl s)

/-- Beside CL, AM, EE and LC the end of an event is the start of a waiting evaluation (R102). -/
theorem settle_logArchive (s : State) : OnlyLogArchive (startVerdict s) (settle s) :=
  (((((fanOut_logArchive s).besideStart.trans (offlineChange_logArchive _)).trans (flushStep_logArchive _)).trans
    (fanOut_logArchive _)).trans (.modLc _ _))

/-- With the engine IDLE the head of the queue, if there is one, leaves it (R102). -/
theorem startVerdict_queue {s : State} (idle : s.cu.engine = none) :
    (startVerdict s).cu.queue = s.cu.queue.tail := by
  cases queue : s.cu.queue with
  | nil => simp only [startVerdict, idle, queue, List.tail_nil]
  | cons c rest => simp only [startVerdict, idle, queue, State.modCu_cu, List.tail_cons]

/-! ### The completion of an evaluation (R72, R106, R108) -/

theorem exec_verdictCompletion {s : State} {e : Evaluation} (engine : s.cu.engine = some e)
    (due : 1 ≤ elapsed s.tb.stationTime e.startTick) :
    exec .verdictCompletion s = .next (settle (completeVerdict e s)) := by
  have runs : exec .verdictCompletion s = execVerdictCompletion s := rfl
  rw [runs, execVerdictCompletion, engine]
  exact congrArg _ (if_pos due)

/-- A service whose evaluation has ended: a FAIL sets its unacknowledged-failure flag (R108). -/
def Service.judged (fails : Bool) (v : Service) : Service := { v with unacknowledged := v.unacknowledged || fails }

/-- The part once an evaluation has ended, before its entries and its hold request (R72, R108). -/
def verdictReleased (e : Evaluation) (s : State) : State :=
  (releaseContext e.context
    (s.modSvc (s.ctx e.context).service (Service.judged !(failedChecks (s.ctx e.context) e).isEmpty))).modCu
      fun u => { u with engine := none }

/-- The setting of the flag in the model is the service's judgement. -/
theorem flagged_eq_judged (fails : Bool) (i : Nat) (s : State) :
    (if fails then s.modSvc i fun v => { v with unacknowledged := true } else s) =
      s.modSvc i (Service.judged fails) := by
  cases fails with
  | true => exact State.modSvc_congr (by simp [Service.judged])
  | false => exact (State.modSvc_eq_self (by simp [Service.judged])).symm

/-- Steps 1 to 4 of R106 release the context and judge the service; the entries and the hold are CL's, AM's and LC's. -/
theorem completeVerdict_logArchive (e : Evaluation) (s : State) :
    OnlyLogArchive (verdictReleased e s) (completeVerdict e s) := by
  unfold completeVerdict
  simp only [flagged_eq_judged]
  have entered (n : Nat) (svc : Option Nat) (b : Body) : OnlyLogArchive s (logTake svc b (logReserve n s)) :=
    (logReserve_logArchive _ s).trans (logTake_logArchive _ _ _)
  have judged (n : Nat) (svc : Option Nat) (b : Body) := (entered n svc b).besideSvc (s.ctx e.context).service
    (Service.judged !(failedChecks (s.ctx e.context) e).isEmpty)
  exact ((OnlyLogArchive.ite ((judged _ _ _).trans (requestHold_logArchive _ _)) (judged _ _ _)).besidePool _
    |>.besidePool _).besideCu _

theorem verdictReleased_free (e : Evaluation) (s : State) :
    (verdictReleased e s).pool.free = e.context :: s.pool.free := rfl

theorem verdictReleased_ctx {e : Evaluation} {s : State} (exists_ctx : e.context < s.pool.contexts.length) :
    (verdictReleased e s).ctx e.context = { s.ctx e.context with state := .free } :=
  State.modCtx_ctx_same (fun x => { x with state := .free }) exists_ctx

theorem verdictReleased_svc {e : Evaluation} {s : State} (there : (s.ctx e.context).service < s.services.length) :
    (verdictReleased e s).svc (s.ctx e.context).service =
      (s.svc (s.ctx e.context).service).judged !(failedChecks (s.ctx e.context) e).isEmpty :=
  State.modSvc_svc_same s _ _ there

theorem verdictReleased_engine (e : Evaluation) (s : State) : (verdictReleased e s).cu.engine = none := rfl

theorem verdictReleased_queue (e : Evaluation) (s : State) : (verdictReleased e s).cu.queue = s.cu.queue := rfl

/-! ### The checks (R103, R104) -/

theorem mem_failedIf {applies fails : Bool} {c : Check} {f : Check × Option Nat} :
    f ∈ failedIf applies fails c ↔ applies = true ∧ fails = true ∧ f = (c, none) := by
  cases applies <;> cases fails <;> simp [failedIf]

theorem check_of_mem_failedIf {applies fails : Bool} {c : Check} {f : Check × Option Nat}
    (h : f ∈ failedIf applies fails c) : f.1 = c := by
  obtain ⟨-, -, rfl⟩ := mem_failedIf.mp h
  rfl

theorem check_of_mem_failedSlots {e : Evaluation} {applies : Bool} {c : Check} {fails : Nat → Bool}
    {f : Check × Option Nat} (h : f ∈ failedSlots e applies c fails) : f.1 = c := by
  unfold failedSlots at h
  split at h
  · obtain ⟨k, -, rfl⟩ := List.mem_map.mp h
    rfl
  · exact absurd h List.not_mem_nil

/-- The loudness checks (R104). -/
def Check.isLoudness (c : Check) : Prop := c = .loudHigh ∨ c = .loudLow ∨ c = .adLoud ∨ c = .adShort

/-- A failed loudness check was made: the context is neither SHORT nor UNMEASURED (R104). -/
theorem loudnessChecked_of_failed {x : Context} {e : Evaluation} {f : Check × Option Nat} (h : f ∈ failedChecks x e)
    (loudness : f.1.isLoudness) : loudnessChecked x e = true := by
  have made {kind fails : Bool} {c : Check} (h : f ∈ failedIf (loudnessChecked x e && kind) fails c) :
      loudnessChecked x e = true := by
    obtain ⟨applies, -, -⟩ := mem_failedIf.mp h
    exact (Bool.and_eq_true_iff.mp applies).1
  have other {c : Check} (hc : ¬ c.isLoudness) (h : f.1 = c) : loudnessChecked x e = true :=
    absurd (h ▸ loudness) hc
  simp only [failedChecks, List.mem_append, or_assoc] at h
  rcases h with feed | carriage | high | low | adLoud | adShort | peak | gap | cover
  · exact other (by simp [Check.isLoudness]) (check_of_mem_failedIf feed)
  · exact other (by simp [Check.isLoudness]) (check_of_mem_failedSlots carriage)
  · exact made high
  · exact made low
  · exact made adLoud
  · exact made adShort
  · exact other (by simp [Check.isLoudness]) (check_of_mem_failedIf peak)
  · exact other (by simp [Check.isLoudness]) (check_of_mem_failedSlots gap)
  · exact other (by simp [Check.isLoudness]) (check_of_mem_failedSlots cover)

theorem loudnessChecked_eq_false {x : Context} {e : Evaluation} (h : x.flags.short = true ∨ e.unmeasured = true) :
    loudnessChecked x e = false := by
  rcases h with h | h <;> simp [loudnessChecked, h]

/-! ### Gated integration (R48, R50) -/

theorem le_greatest (p : Int → Bool) (bits : List Nat) (base : Int) : base ≤ greatest p bits base := by
  induction bits generalizing base with
  | nil => exact Int.le_refl base
  | cons b bits ih =>
    unfold greatest
    split
    · exact (Int.le_add_of_nonneg_right (Int.natCast_nonneg b)).trans (ih _)
    · exact ih base

/-- The search leaves its base only for a value that satisfies the predicate. -/
theorem greatest_satisfies (p : Int → Bool) (bits : List Nat) (base : Int) :
    greatest p bits base = base ∨ p (greatest p bits base) = true := by
  induction bits generalizing base with
  | nil => exact .inl rfl
  | cons b bits ih =>
    unfold greatest
    split
    · next holds =>
      rcases ih (base + b) with stays | moves
      · exact .inr (stays.symm ▸ holds)
      · exact .inr moves
    · exact ih base

/-- The search of R48 runs over −700..+50. -/
theorem integratedOf_range (admitted : List (Nat × Nat)) :
    -700 ≤ integratedOf admitted ∧ integratedOf admitted ≤ 50 := by
  unfold integratedOf
  have lower := le_greatest (fun r => resultAt admitted r.toNat) [512, 256, 128, 64, 32, 16, 8, 4, 2, 1] 0
  have found := greatest_satisfies (fun r => resultAt admitted r.toNat) [512, 256, 128, 64, 32, 16, 8, 4, 2, 1] 0
  generalize greatest (fun r => resultAt admitted r.toNat) [512, 256, 128, 64, 32, 16, 8, 4, 2, 1] 0 = r at *
  have upper : r ≤ 750 := by
    rcases found with rfl | found
    · decide
    · have bin : r.toNat ≤ 750 := of_decide_eq_true (Bool.and_eq_true_iff.mp found).1
      omega
  omega

/-- An integrated value lies in −700..+50 (R50). -/
theorem integrate_range {bins : List (Nat × Nat)} {g v : Int} (h : integrate bins g = some v) : -700 ≤ v ∧ v ≤ 50 := by
  unfold integrate at h
  split at h
  · cases h
  · obtain rfl := Option.some.inj h
    exact integratedOf_range _

/-- Settles O19: the completion is the release with a judgement and the start of the next evaluation; the loudness checks
are not made of a SHORT or UNMEASURED context; the search for the integrated value keeps its range. -/
theorem verdictReleasesContext : Obligations.VerdictReleasesContext := by
  unfold Obligations.VerdictReleasesContext
  refine ⟨fun s e engine due exists_ctx _ sixteen inRange _ => ?_, fun x e unchecked f failed => ?_,
    fun bins g v => integrate_range⟩
  · have ends : OnlyLogArchive (startVerdict (verdictReleased e s)) (settle (completeVerdict e s)) :=
      (completeVerdict_logArchive e s).besideStart.trans (settle_logArchive _)
    have starts := startVerdict_same (verdictReleased e s)
    have state : ((startVerdict (verdictReleased e s)).ctx e.context).state = .free := by
      rw [startVerdict_ctx_keeps Context.state fun _ => rfl, verdictReleased_ctx exists_ctx]
    have svc : (startVerdict (verdictReleased e s)).svc (s.ctx e.context).service =
        (s.svc (s.ctx e.context).service).judged !(failedChecks (s.ctx e.context) e).isEmpty := by
      rw [State.svc, starts.services]
      exact verdictReleased_svc (sixteen ▸ inRange)
    refine ⟨_, exec_verdictCompletion engine due, ?_, ?_, ?_, ?_, ends.tb_eq.trans starts.tb,
      ends.sp_eq.trans starts.sp⟩
    · rw [ends.pool_eq, starts.free, verdictReleased_free]
    · rw [State.ctx, ends.pool_eq]
      exact state
    · rw [State.svc, ends.services_eq]
      exact congrArg Service.unacknowledged svc
    · rw [ends.cu_eq, startVerdict_queue (verdictReleased_engine e s), verdictReleased_queue]
  · have notLoudness : ¬ f.1.isLoudness := fun loudness => by
      have made := loudnessChecked_of_failed failed loudness
      rw [loudnessChecked_eq_false unchecked] at made
      cases made
    simpa only [Check.isLoudness, not_or] using notLoudness

end Sys2Proof.Machine
end

section
/-! SUPPORT. What keeps the table sizes and the context pool (R55, R57, R80, R155, R163, R178): the two invariants read
figure by figure, and the updates of one block that keep them. -/

namespace Sys2Proof.Machine

-- In turn, as the tests are: in one text every declaration that waits would hold a thread.
set_option Elab.async false

/-! ### The two invariants, figure by figure -/

/-- How often a context number stands in a stack. -/
def stackCount (stack : List StackEntry) (c : Nat) : Nat := (stack.filterMap StackEntry.context).count c

/-- How often a context number stands outside the stacks: free, in the verdict queue, under evaluation (R57). -/
def State.looseCount (s : State) (c : Nat) : Nat :=
  s.pool.free.count c + s.cu.queue.count c + (s.cu.engine.map Evaluation.context).toList.count c

/-- How often a context number stands in the stacks of some services. -/
def heldCount (vs : List Service) (c : Nat) : Nat := (vs.map fun v => stackCount v.st.stack c).sum

/-- Every context number is in one place when each of the 64 stands once and no other stands (R57). -/
theorem poolOk_iff_count (s : State) : s.poolOk ↔
    s.services.length = 16 ∧ ∀ c, s.looseCount c + heldCount s.services c = (List.range 64).count c := by
  have count (c : Nat) : (s.pool.free ++ s.contextsInUse).count c = s.looseCount c + heldCount s.services c := by
    have held : ((s.services.map fun v => v.st.stack.filterMap StackEntry.context).flatten).count c =
        heldCount s.services c := by
      rw [List.count_flatten, List.map_map]
      rfl
    simp only [State.contextsInUse, List.count_append, held, State.looseCount]
    omega
  simp only [State.poolOk, List.perm_iff_count, count]

/-- SC's share of the table sizes (R80, section 5.1). -/
def Subtitles.sized (c : Subtitles) : Prop := c.slots.length = 4 ∧ c.queue.length ≤ 16

/-- One service's share of the table sizes (R55, R80). -/
def Service.sized (v : Service) : Prop := v.sc.sized ∧ v.st.stack.length ≤ 4

/-- What the two invariants read of a service: its stack, and SC's part of it. -/
def Service.parts (v : Service) : Segments × Subtitles := (v.st, v.sc)

theorem heldCount_eq_parts (vs : List Service) (c : Nat) :
    heldCount vs c = ((vs.map Service.parts).map fun p => stackCount p.1.stack c).sum := by
  rw [List.map_map]
  rfl

/-- A hold table within its bounds (R155). -/
def holdsSized (l : List Hold) : Prop := l.length ≤ 128 ∧ ∀ h ∈ l, h.lo ≤ h.hi

/-- The tables beside the services have the same sizes. -/
structure SameSizes (s t : State) : Prop where
  contexts : t.pool.contexts.length = s.pool.contexts.length
  holds : holdsSized s.am.holds → holdsSized t.am.holds
  triggers : s.triggers.length = 8 → t.triggers.length = 8
  watches : s.lc.watches.length = 8 → t.lc.watches.length = 8

theorem SameSizes.trans {s t u : State} (h : SameSizes s t) (k : SameSizes t u) : SameSizes s u :=
  ⟨k.contexts.trans h.contexts, k.holds ∘ h.holds, k.triggers ∘ h.triggers, k.watches ∘ h.watches⟩

theorem SameSizes.ofLog {s t : State} (h : OnlyLog s t) : SameSizes s t :=
  ⟨by rw [h.pool], by rw [h.am]; exact id, by rw [h.triggers]; exact id, by rw [h.watches]; exact id⟩

theorem looseCount_ofLog {s t : State} (h : OnlyLog s t) (c : Nat) : t.looseCount c = s.looseCount c := by
  rw [State.looseCount, State.looseCount, h.pool, h.queue, h.engine]

theorem sizesOk_of {s t : State} (same : SameSizes s t) (length : t.services.length = s.services.length)
    (services : (∀ v ∈ s.services, v.sized) → ∀ v ∈ t.services, v.sized) (h : s.sizesOk) : t.sizesOk := by
  have sized := services fun v hv => ⟨⟨h.slots v hv, h.cues v hv⟩, h.entries v hv⟩
  have holds := same.holds ⟨h.holds, h.holdRanges⟩
  exact
    { services := length.trans h.services
      slots := fun v hv => (sized v hv).1.1
      entries := fun v hv => (sized v hv).2
      cues := fun v hv => (sized v hv).1.2
      contexts := same.contexts.trans h.contexts
      holds := holds.1
      holdRanges := holds.2
      triggers := same.triggers h.triggers
      watches := same.watches h.watches }

/-! ### Operations that keep both invariants -/

/-- An operation that keeps the table sizes, and the context pool. -/
structure Keeps (s t : State) : Prop where
  sizes : s.sizesOk → t.sizesOk
  pool : s.poolOk → t.poolOk

/-- A service that is read back is one of the table's when it exists. -/
theorem svc_mem {s : State} {i : Nat} (there : i < s.services.length) : s.svc i ∈ s.services := by
  rw [State.svc, List.getD_eq_getElem?_getD, List.getElem?_eq_getElem there]
  exact List.getElem_mem there

/-- A service with an open entry exists. -/
theorem lt_of_stack_ne_nil {s : State} {i : Nat} (h : (s.svc i).st.stack ≠ []) : i < s.services.length := by
  refine Nat.lt_of_not_le fun beyond => h ?_
  rw [State.svc, List.getD_eq_getElem?_getD, List.getElem?_eq_none beyond]
  rfl

/-- The change of one element changes a sum by what it changes of that element. -/
theorem sum_map_modify {α : Type} (g : α → Nat) (f : α → α) (l : List α) (i : Nat) (a : α) (h : l[i]? = some a) :
    ((l.modify i f).map g).sum + g a = (l.map g).sum + g (f a) := by
  induction l generalizing i with
  | nil => simp at h
  | cons b l ih =>
    cases i with
    | zero =>
      obtain rfl : b = a := by simpa using h
      simp only [List.modify_zero_cons, List.map_cons, List.sum_cons]
      omega
    | succ i =>
      have rest := ih i (by simpa using h)
      simp only [List.modify_succ_cons, List.map_cons, List.sum_cons]
      omega

namespace Keeps

variable {s t u : State}

theorem refl (s : State) : Keeps s s := ⟨id, id⟩

theorem trans (h : Keeps s t) (k : Keeps t u) : Keeps s u := ⟨k.sizes ∘ h.sizes, k.pool ∘ h.pool⟩

theorem ite {c : Prop} [Decidable c] (h : Keeps s t) (k : Keeps s u) : Keeps s (if c then t else u) := by
  split
  · exact h
  · exact k

theorem foldl {α : Type} {f : State → α → State} (h : ∀ s a, Keeps s (f s a)) (l : List α) (s : State) :
    Keeps s (l.foldl f s) := by
  induction l generalizing s with
  | nil => exact refl s
  | cons a l ih => exact (h s a).trans (ih _)

/-- The invariants speak of 16 services. -/
theorem ofServices (h : s.services.length = 16 → Keeps s t) : Keeps s t :=
  ⟨fun ok => (h ok.services).sizes ok, fun ok => (h ok.1).pool ok⟩

/-- One service's stack changes, and every context number that enters or leaves it leaves or enters another place. -/
theorem restack {i : Nat} {f : Service → Service} (same : SameSizes s t) (services : t.services = s.services)
    (there : i < s.services.length) (sized : (s.svc i).sized → (f (s.svc i)).sized)
    (moved : ∀ c, t.looseCount c + stackCount (f (s.svc i)).st.stack c =
      s.looseCount c + stackCount (s.svc i).st.stack c) : Keeps s (t.modSvc i f) := by
  have after : (t.modSvc i f).services = s.services.modify i f := by rw [State.modSvc_services, services]
  have length : (t.modSvc i f).services.length = s.services.length := by rw [after, List.length_modify]
  have here : s.services[i]? = some (s.svc i) := by
    rw [State.svc, List.getD_eq_getElem?_getD, List.getElem?_eq_getElem there]
    rfl
  refine ⟨sizesOk_of ⟨same.contexts, same.holds, same.triggers, same.watches⟩ length fun all v hv => ?_, fun ok => ?_⟩
  · obtain ⟨j, hj⟩ := List.mem_iff_getElem?.mp hv
    rw [after, List.getElem?_modify] at hj
    rcases eq_or_ne i j with rfl | other
    · obtain rfl : f (s.svc i) = v := by simpa [here] using hj
      exact sized (all _ (svc_mem there))
    · have mem : s.services[j]? = some v := by simpa [other] using hj
      exact all v (List.mem_of_getElem? mem)
  · rw [poolOk_iff_count] at ok ⊢
    refine ⟨length.trans ok.1, fun c => ?_⟩
    have sum := sum_map_modify (fun v => stackCount v.st.stack c) f s.services i _ here
    have step := moved c
    have loose : (t.modSvc i f).looseCount c = t.looseCount c := rfl
    rw [← ok.2 c, after, loose]
    simp only [heldCount]
    omega

/-- Nothing that the invariants read of a service, or of the places of contexts, changes. -/
theorem ofParts (same : SameSizes s t) (parts : t.services.map Service.parts = s.services.map Service.parts)
    (loose : t.looseCount = s.looseCount) : Keeps s t := by
  have length : t.services.length = s.services.length := by simpa using congrArg List.length parts
  refine ⟨sizesOk_of same length fun all v hv => ?_, fun ok => ?_⟩
  · obtain ⟨w, hw, sameParts⟩ := List.mem_map.mp (parts ▸ List.mem_map_of_mem hv)
    obtain ⟨st, sc⟩ := Prod.mk.inj sameParts
    rw [Service.sized, ← st, ← sc]
    exact all w hw
  · rw [poolOk_iff_count] at ok ⊢
    refine ⟨length.trans ok.1, fun c => ?_⟩
    rw [heldCount_eq_parts, parts, loose, ← heldCount_eq_parts]
    exact ok.2 c

theorem ofSame (same : SameSizes s t) (services : t.services = s.services) (loose : t.looseCount = s.looseCount) :
    Keeps s t := .ofParts same (congrArg _ services) loose

theorem ofLog (h : OnlyLog s t) : Keeps s t :=
  .ofSame (.ofLog h) h.services (funext (looseCount_ofLog h))

/-! ### Updates of one block -/

/-- A service changes and keeps its stack and the sizes of its slots and cues. -/
theorem modSvc (s : State) (i : Nat) (f : Service → Service)
    (stack : (f (s.svc i)).st.stack = (s.svc i).st.stack := by rfl)
    (sc : (s.svc i).sc.sized → (f (s.svc i)).sc.sized := by exact fun h => h) : Keeps s (s.modSvc i f) := by
  rcases Nat.lt_or_ge i s.services.length with there | beyond
  · refine .restack ⟨rfl, id, id, id⟩ rfl there (fun h => ⟨sc h.1, ?_⟩) fun c => by rw [stack]
    rw [stack]
    exact h.2
  · rw [State.modSvc_absent s i f beyond]
    exact refl s

theorem modSlot (s : State) (i k : Nat) (f : Slot → Slot) : Keeps s (s.modSlot i k f) :=
  .modSvc s i _ rfl fun h => ⟨(List.length_modify ..).trans h.1, h.2⟩

theorem modPart (s : State) (f : Part → Part) : Keeps s (s.modPart f) := .ofSame ⟨rfl, id, id, id⟩ rfl rfl
theorem modTb (s : State) (f : TimeBase → TimeBase) : Keeps s (s.modTb f) := .ofSame ⟨rfl, id, id, id⟩ rfl rfl
theorem modCl (s : State) (f : LogState → LogState) : Keeps s (s.modCl f) := .ofSame ⟨rfl, id, id, id⟩ rfl rfl
theorem modSp (s : State) (f : StoragePort → StoragePort) : Keeps s (s.modSp f) := .ofSame ⟨rfl, id, id, id⟩ rfl rfl
theorem modEe (s : State) (f : ExportEngine → ExportEngine) : Keeps s (s.modEe f) :=
  .ofSame ⟨rfl, id, id, id⟩ rfl rfl
theorem modQueue (s : State) (f : List Buffer → List Buffer) : Keeps s (s.modQueue f) :=
  .ofSame ⟨rfl, id, id, id⟩ rfl rfl

theorem modCtx (s : State) (c : Nat) (f : Context → Context) : Keeps s (s.modCtx c f) :=
  .ofSame ⟨List.length_modify .., id, id, id⟩ rfl rfl

/-- CU's conditions change, and not where contexts stand. -/
theorem modCu (s : State) (f : Compliance → Compliance) (queue : (f s.cu).queue = s.cu.queue := by rfl)
    (engine : (f s.cu).engine = s.cu.engine := by rfl) : Keeps s (s.modCu f) :=
  .ofSame ⟨rfl, id, id, id⟩ rfl (by funext c; simp only [State.looseCount, State.modCu_pool, State.modCu_cu, queue, engine])

theorem modAm (s : State) (f : Archive → Archive)
    (holds : holdsSized s.am.holds → holdsSized (f s.am).holds := by exact fun h => h) : Keeps s (s.modAm f) :=
  .ofSame ⟨rfl, holds, id, id⟩ rfl rfl

theorem modTriggers (s : State) (f : List (Option Trigger) → List (Option Trigger))
    (length : s.triggers.length = 8 → (f s.triggers).length = 8) : Keeps s (s.modTriggers f) :=
  .ofSame ⟨rfl, id, length, id⟩ rfl rfl

theorem modLc (s : State) (f : Line → Line) 
    (watches : s.lc.watches.length = 8 → (f s.lc).watches.length = 8 := by exact fun h => h) : Keeps s (s.modLc f) :=
  .ofSame ⟨rfl, id, id, watches⟩ rfl rfl

/-- What the feed port holds of a unit, and which commands wait, are of neither invariant. -/
theorem besidePort (s : State) (bytes : List Byte) (lost : Bool) (waiting : List Instr) :
    Keeps s { s with feedBytes := bytes, feedLost := lost, pending := waiting } :=
  .ofSame ⟨rfl, id, id, id⟩ rfl rfl

theorem markDirty (s : State) (p : Nat) : Keeps s (s.markDirty p) := .modAm s _

theorem setExtent (s : State) (e : Nat) (x : Extent) : Keeps s (s.setExtent e x) := .modAm s _

theorem logTake (svc : Option Nat) (b : Body) (s : State) : Keeps s (logTake svc b s) := .ofLog (logTake_only _ _ s)

theorem logReserve (n : Nat) (s : State) : Keeps s (logReserve n s) := .ofLog (logReserve_only n s)

theorem openCond (i : Nat) (c : CondClass) (k : Option Nat) (g : Option GapCause) (s : State) :
    Keeps s (openCond i c k g s) := .ofLog (openCond_only _ _ _ _ s)

theorem closeCond (i : Nat) (c : CondClass) (k : Option Nat) (g : CloseCause) (s : State) :
    Keeps s (closeCond i c k g s) := .ofLog (closeCond_only _ _ _ _ s)

theorem pushReport (r : Text) (s : State) : Keeps s (pushReport r s) := .ofLog (pushReport_only r s)

theorem openDevice (c : CondClass) (s : State) : Keeps s (openDevice c s) := .modCu s _

theorem closeDevice (c : CondClass) (s : State) : Keeps s (closeDevice c s) := .modCu s _

theorem grouped {f : State → State} (h : ∀ s, Keeps s (f s)) (s : State) : Keeps s (grouped f s) :=
  (logReserve _ s).trans (h _)

end Keeps

end Sys2Proof.Machine
end

section
/-! SUPPORT. The operations of the log, the holds, the blocks of a service and the pool keep the table sizes and the
context pool. -/

namespace Sys2Proof.Machine

set_option Elab.async false

/-! ### Holds (R155 to R161) -/

theorem insertByKey_perm {α : Type} (key : α → Nat) (x : α) (l : List α) : (insertByKey key x l).Perm (x :: l) := by
  induction l with
  | nil => exact .refl _
  | cons y l ih =>
    unfold insertByKey
    split
    · exact .refl _
    · exact (ih.cons y).trans (.swap x y l)

theorem sortByKey_perm {α : Type} (key : α → Nat) (l : List α) : (sortByKey key l).Perm l := by
  have all (m : List α) : (m.foldr (fun x acc => insertByKey key x acc) []).Perm m := by
    induction m with
    | nil => exact .refl _
    | cons x m ih => exact (insertByKey_perm key x _).trans (ih.cons x)
  exact (all l.reverse).trans (List.reverse_perm l)

theorem holdsSized_perm {l m : List Hold} (h : l.Perm m) (sized : holdsSized m) : holdsSized l :=
  ⟨h.length_eq ▸ sized.1, fun x hx => sized.2 x (h.mem_iff.mp hx)⟩

theorem holdsSized_filter (p : Hold → Bool) {l : List Hold} (sized : holdsSized l) : holdsSized (l.filter p) :=
  ⟨(List.length_filter_le p l).trans sized.1, fun x hx => sized.2 x (List.mem_filter.mp hx).1⟩

/-- A hold is created only into a table that has room for it (R156). -/
theorem room_of_holdTests {s : State} {r : HoldRequest} (h : s.holdTests r = none) : s.am.holds.length < 128 := by
  unfold State.holdTests at h
  split at h
  · cases h
  · split at h
    · cases h
    · split at h
      · cases h
      · next room => exact Nat.lt_of_not_le room

namespace Keeps

theorem requestHold (r : HoldRequest) (s : State) : Keeps s (requestHold r s).1 := by
  unfold Machine.requestHold
  split
  · exact .logTake _ _ s
  · next passed =>
    have created (sized : holdsSized s.am.holds) : holdsSized (insertByKey Hold.id (s.holdFor r) s.am.holds) := by
      refine holdsSized_perm (insertByKey_perm _ _ _) ⟨room_of_holdTests passed, fun h hh => ?_⟩
      rcases List.mem_cons.mp hh with rfl | hh
      · exact holdRange_ordered r.lo r.hi
      · exact sized.2 h hh
    exact ((modAm s _ created).trans (.logTake _ _ _)).trans (.markDirty _ _)

theorem dropHold (h : Hold) (expired : Bool) (s : State) : Keeps s (dropHold h expired s) :=
  ((modAm s _ (holdsSized_filter _)).trans (.logTake _ _ _)).trans (.markDirty _ _)

theorem expireHolds (second : Nat) (s : State) : Keeps s (expireHolds second s) :=
  .ite ((logReserve _ s).trans (.foldl (fun t h => dropHold h true t) _ _)) (.refl s)

/-! ### Capture triggers and the end of an event (R102, R128, R151, R164, R190) -/

theorem actOnSlot (e : Entry) (s : State) (k : Nat) : Keeps s (actOnSlot e s k) := by
  unfold Machine.actOnSlot
  split
  · exact .refl s
  · have reported (c : Prop) [Decidable c] (r : Text) : Keeps s (if c then s else Machine.pushReport r s) :=
      .ite (.refl s) (pushReport r s)
    exact .ite (.ite (reported _ _) ((reported _ _).trans (requestHold _ _))) (.refl s)

theorem fanOut (s : State) : Keeps s (fanOut s) :=
  (foldl (fun t e => grouped (fun _ => foldl (actOnSlot e) _ _) t) _ s).trans (.modCl _ _)

/-- The context at the head of the verdict queue goes under evaluation (R102). -/
theorem startVerdict (s : State) : Keeps s (startVerdict s) := by
  unfold Machine.startVerdict
  split
  · next c rest idle queue =>
    refine (modCtx s c _).trans (.ofSame ⟨rfl, id, id, id⟩ rfl (funext fun d => ?_))
    simp [State.looseCount, State.modCtx, idle, queue, State.evaluationOf, List.count_cons]
    omega
  · exact .refl s

theorem endExport (o : ExportOutcome) (s : State) : Keeps s (endExport o s) := by
  unfold Machine.endExport
  split
  · exact .refl s
  · exact ((modEe s _).trans (.logTake _ _ _)).trans (.pushReport _ _)

theorem abortExport (o : ExportOutcome) (s : State) : Keeps s (abortExport o s) := by
  unfold Machine.abortExport
  split
  · exact .refl s
  · split
    · exact .modEe s _
    · exact .endExport o s

theorem offlineChange (s : State) : Keeps s (offlineChange s) :=
  .ite (((modAm s _).trans (.logTake _ _ _)).trans (.abortExport _ _)) (.refl s)

theorem endFlush (o : FlushOutcome) (s : State) : Keeps s (endFlush o s) :=
  .ite ((modAm s _).trans (.logTake _ _ _)) (.modAm s _)

theorem flushStep (s : State) : Keeps s (flushStep s) :=
  .ite (.ite (endFlush _ s) (.ite (endFlush _ s) (.ite ((modAm s _).trans (.markDirty _ _)) (.refl s)))) (.refl s)

theorem startSending (s : State) : Keeps s (s.modLc Line.startSending) :=
  .modLc s _ fun h => (congrArg List.length (startSending_same s).watches).trans h

theorem settle (s : State) : Keeps s (settle s) :=
  (((((fanOut s).trans (startVerdict _)).trans (offlineChange _)).trans (flushStep _)).trans (fanOut _)).trans
    (startSending _)

/-! ### Subtitles (chapter 5) -/

/-- A step through the slots or cues of a service that keeps their sizes. -/
theorem modSc (s : State) (i : Nat) (f : Subtitles → Subtitles)
    (h : (s.svc i).sc.sized → (f (s.svc i).sc).sized) : Keeps s (s.modSc i f) := .modSvc s i _ rfl h

end Keeps

theorem closeEpisode_sized {c : Subtitles} (h : c.sized) : c.closeEpisode.sized := by
  unfold Subtitles.closeEpisode
  split <;> exact h

theorem placeCue_length (c : Cue) (l : List Cue) : (placeCue c l).length = l.length + 1 := by
  induction l with
  | nil => rfl
  | cons d l ih =>
    unfold placeCue
    split
    · rw [List.length_cons, ih, List.length_cons]
    · rfl

/-- Cues that leave the queue leave no more of them. -/
theorem sized_filter {c : Subtitles} (p : Cue → Bool) (h : c.sized) : ({ c with queue := c.queue.filter p } : Subtitles).sized :=
  ⟨h.1, (List.length_filter_le ..).trans h.2⟩

namespace Keeps

theorem closeGap (i k : Nat) (cause : CloseCause) (s : State) : Keeps s (closeGap i k cause s) :=
  .ite ((modSlot s i k _).trans (.closeCond _ _ _ _ _)) (.refl s)

theorem closeLapsed (i k : Nat) (cause : CloseCause) (s : State) : Keeps s (closeLapsed i k cause s) :=
  .ite ((modSlot s i k _).trans (.closeCond _ _ _ _ _)) (.refl s)

theorem carryUnit (i k : Nat) (s : State) : Keeps s (carryUnit i k s) :=
  (modSlot s i k _).trans (.closeLapsed i k _ _)

theorem lapseSlot (i k : Nat) (s : State) : Keeps s (lapseSlot i k s) :=
  (modSlot s i k _).trans (.openCond _ _ _ _ _)

theorem refuseCue (i : Nat) (c : Cue) (s : State) : Keeps s (refuseCue i c s) :=
  .ite (.refl s) ((modSc s i _ id).trans (.logTake _ _ _))

theorem cueUnit (i : Nat) (c : Cue) (s : State) : Keeps s (cueUnit i c s) := by
  unfold Machine.cueUnit
  simp only
  split
  · next again =>
    obtain ⟨d, hd, named⟩ := List.any_eq_true.mp again
    refine .modSc s i _ fun h => ⟨h.1, ?_⟩
    have fewer : ((s.svc i).sc.queue.filter fun d => !d.named c.slot c.id).length < (s.svc i).sc.queue.length :=
      List.length_filter_lt_length_iff_exists.mpr ⟨d, hd, by simp [named]⟩
    exact (placeCue_length ..).trans_le (fewer.trans_le h.2)
  · split
    · next room => exact .modSc s i _ fun h => ⟨h.1, (placeCue_length ..).trans_le room⟩
    · exact .refuseCue i c s

theorem uncover (i k : Nat) (s : State) : Keeps s (uncover i k s) := .modSlot s i k _

theorem measureGaps (i k : Nat) (s : State) : Keeps s (measureGaps i k s) := .foldl (fun t c => .modCtx t c _) _ s

theorem startCoverage (i k : Nat) (sh : Showing) (s : State) : Keeps s (startCoverage i k sh s) :=
  ((measureGaps i k s).trans (.modSlot _ i k _)).trans (.closeGap i k _ _)

theorem showCue (i : Nat) (c : Cue) (s : State) : Keeps s (showCue i c s) :=
  .ite (.ite (.uncover i _ s) (.refl s)) (.ite (.modSlot s i _ _) (.startCoverage i _ _ s))

theorem showHead (i : Nat) (s : State) : Keeps s (showHead i s) := by
  unfold Machine.showHead
  split
  · exact .refl s
  · next c rest queue =>
    have left := modSc s i (fun x => Subtitles.closeEpisode { x with queue := rest }) fun h =>
      closeEpisode_sized ⟨h.1, (Nat.le_succ _).trans ((congrArg List.length queue).symm.trans_le h.2)⟩
    exact .ite (left.trans (.showCue i c _)) (.refl s)

theorem clearUnit (i k id : Nat) (s : State) : Keeps s (clearUnit i k id s) := by
  unfold Machine.clearUnit
  refine .trans ?_ (.modSc _ i _ fun h => closeEpisode_sized (sized_filter _ h))
  split
  · exact .refl s
  · exact .ite (.uncover i k s) (.refl s)

theorem settleContext (i c : Nat) (s : State) : Keeps s (settleContext i c s) :=
  .foldl (fun t _ => .ite (.modCtx t c _) (.refl t)) _ s

theorem closeGaps (i : Nat) (s : State) : Keeps s (closeGaps i s) :=
  .grouped (fun t => .foldl (fun u k => .closeGap i k _ u) _ t) s

theorem handRequirement (i : Nat) (s : State) : Keeps s (handRequirement i s) :=
  .ite (.modSc s i _ id) ((modSc s i _ id).trans (.closeGaps i _))

theorem removeSlot (i k : Nat) (s : State) : Keeps s (removeSlot i k s) := by
  have cleared (t : State) : Keeps t (t.modSc i fun x =>
      Subtitles.closeEpisode { x with queue := x.queue.filter fun d => decide (d.slot ≠ k) }) :=
    .modSc t i _ fun h => closeEpisode_sized (sized_filter _ h)
  exact ((((ite (.uncover i k s) (.refl s)).trans (cleared _)).trans (.modSlot _ i k _)).trans
    (.closeLapsed i k _ _)).trans (.closeGap i k _ _)

theorem joinSlot (i k : Nat) (s : State) : Keeps s (joinSlot i k s) := .modSlot s i k _

theorem maskChanged (i old : Nat) (s : State) : Keeps s (maskChanged i old s) :=
  (logReserve _ s).trans (.foldl (fun t k => .ite (.removeSlot i k t) (.ite (.joinSlot i k t) (.refl t))) _ _)

/-! ### Segments (chapter 4) -/

theorem deriveActive (i : Nat) (s : State) : Keeps s (deriveActive i s) := .modSvc s i _

theorem handOff (i : Nat) (s : State) : Keeps s (handOff i s) :=
  ((handRequirement i s).trans (.modSvc _ i _)).trans (.deriveActive i _)

end Keeps

end Sys2Proof.Machine
end

section
/-! SUPPORT. The opening and the closing of a stack entry (R55 to R73): where its context goes, and that no context is
lost or stands twice. -/

namespace Sys2Proof.Machine

set_option Elab.async false

/-! ### The closing of an entry (R67, R68) -/

/-- A context closed by ST: its close stamps, cause, flag and reference, its longest gaps brought up to the close. -/
def Context.closed (x : Context) (now : Nat) (wall : Option WallStamp) (cause : SegmentCause) (reference : Option Int)
    (gaps : List Nat) : Context :=
  { x with
    state := .closed
    closeTick := some now
    closeWall := wall
    cause := some cause
    flags := x.flags.closedBy cause
    reference := reference
    longestGap := gaps }

theorem State.modCtx_id (s : State) (c : Nat) : (s.modCtx c fun x => x) = s := by
  have same : s.pool.contexts.modify c (fun x => x) = s.pool.contexts := List.modify_id ..
  simp only [State.modCtx, State.modPool, same]

/-- SC's part of a close brings up the longest gaps of that context alone (R89). -/
theorem settleContext_eq (i c : Nat) (s : State) : ∃ gaps : Context → List Nat,
    settleContext i c s = s.modCtx c fun x => { x with longestGap := gaps x } := by
  unfold settleContext
  generalize allSlots = slots
  suffices ∀ t : State, ∃ gaps : Context → List Nat, slots.foldl (fun t k =>
      if slotExpected (s.svc i).profile.slotMask k ∧ (s.slot i k).showing.isNone then
        t.modCtx c fun x => x.raiseGap k (sinceLater s.now (s.slot i k).uncoveredSince x.openTick)
      else t) t = t.modCtx c fun x => { x with longestGap := gaps x } from this s
  induction slots with
  | nil => exact fun t => ⟨Context.longestGap, (t.modCtx_id c).symm⟩
  | cons k slots ih =>
    intro t
    rw [List.foldl_cons]
    split
    · obtain ⟨gaps, rest⟩ := ih (t.modCtx c fun x => x.raiseGap k (sinceLater s.now (s.slot i k).uncoveredSince x.openTick))
      exact ⟨_, rest.trans (State.modCtx_modCtx t c _ _)⟩
    · exact ih t

/-- An entry without a context writes SEG_UNMEASURED (R69). -/
theorem closeEntry_unmeasured {e : StackEntry} (h : e.context = none) (i depth : Nat) (outward : List StackEntry)
    (cause : SegmentCause) (s : State) : closeEntry i e depth outward cause s =
      logTake (some i) (.segUnmeasured e.kind e.id depth e.openTick e.openWall s.now cause) s := by
  rw [closeEntry, h]

/-- The context of a closing entry is closed and joins the verdict queue (R67). -/
theorem closeEntry_measured_eq {e : StackEntry} {c : Nat} (h : e.context = some c) (i depth : Nat)
    (outward : List StackEntry) (cause : SegmentCause) (s : State) : ∃ gaps : Context → List Nat,
    closeEntry i e depth outward cause s =
      (s.modCtx c fun x => x.closed s.now s.wallNow cause (s.referenceFor x.kind outward) (gaps x)).modCu
        fun u => { u with queue := u.queue ++ [c] } := by
  rw [closeEntry, h]
  dsimp only
  obtain ⟨gaps, settled⟩ := settleContext_eq i c (s.modCtx c fun x =>
    { x with
      closeTick := some s.now
      closeWall := s.wallNow
      cause := some cause
      flags := x.flags.closedBy cause
      reference := s.referenceFor x.kind outward })
  rw [settled, State.modCtx_modCtx, State.modCtx_modCtx]
  exact ⟨_, rfl⟩

/-- An empty pool gives no context (R63). -/
theorem openContext_empty {s : State} (h : s.pool.free = []) (i depth : Nat) (e : StackEntry) (continued : Bool) :
    openContext i depth e continued s = (logTake (some i) (.poolEmpty e.kind e.id depth continued) s, none) := by
  rw [openContext, h]

/-- The top of the free list is opened, its record set whole (R58, R59). -/
theorem openContext_fresh {s : State} {c : Nat} {rest : List Nat} (h : s.pool.free = c :: rest) (i depth : Nat)
    (e : StackEntry) (continued : Bool) : openContext i depth e continued s =
      ((s.modPool fun p => { p with free := rest }).modCtx c fun _ =>
        freshContext i depth s.now s.wallNow e continued, some c) := by
  rw [openContext, h]

/-! ### Where contexts go -/

/-- How often a context number stands in an entry. -/
def StackEntry.holds (e : StackEntry) (c : Nat) : Nat := e.context.toList.count c

theorem stackCount_cons (e : StackEntry) (l : List StackEntry) (c : Nat) :
    stackCount (e :: l) c = e.holds c + stackCount l c := by
  cases h : e.context with
  | none => simp [stackCount, StackEntry.holds, h]
  | some d => simp [stackCount, StackEntry.holds, h, List.count_cons]; omega

/-- The context of a closing entry goes into the verdict queue, and into no other place. -/
theorem closeEntry_moves (i : Nat) (e : StackEntry) (depth : Nat) (outward : List StackEntry) (cause : SegmentCause)
    (s : State) :
    let t := closeEntry i e depth outward cause s
    SameSizes s t ∧ t.services = s.services ∧ ∀ c, t.looseCount c = s.looseCount c + e.holds c := by
  cases h : e.context with
  | none =>
    have entered := logTake_only (some i) (.segUnmeasured e.kind e.id depth e.openTick e.openWall s.now cause) s
    rw [closeEntry_unmeasured h]
    exact ⟨.ofLog entered, entered.services, fun c => by simp [looseCount_ofLog entered, StackEntry.holds, h]⟩
  | some d =>
    obtain ⟨gaps, closed⟩ := closeEntry_measured_eq h i depth outward cause s
    rw [closed]
    refine ⟨⟨List.length_modify .., id, id, id⟩, rfl, fun c => ?_⟩
    simp [State.looseCount, State.modCtx, StackEntry.holds, h]
    omega

/-- The context of an entry that opens leaves the free list, and no other place. -/
theorem openContext_moves (i depth : Nat) (e : StackEntry) (continued : Bool) (s : State) :
    let r := openContext i depth e continued s
    SameSizes s r.1 ∧ r.1.services = s.services ∧ ∀ c, r.1.looseCount c + r.2.toList.count c = s.looseCount c := by
  cases free : s.pool.free with
  | nil =>
    have entered := logTake_only (some i) (.poolEmpty e.kind e.id depth continued) s
    rw [openContext_empty free]
    exact ⟨.ofLog entered, entered.services, fun c => by simp [looseCount_ofLog entered]⟩
  | cons d rest =>
    rw [openContext_fresh free]
    refine ⟨⟨List.length_modify .., id, id, id⟩, rfl, fun c => ?_⟩
    simp [State.looseCount, State.modCtx, free, List.count_cons]
    omega

/-- A stack whose entry `k` has its context changed. -/
theorem stackCount_modify_context {l : List StackEntry} {k : Nat} {e : StackEntry} (h : l[k]? = some e) (o : Option Nat)
    (c : Nat) : stackCount (l.modify k fun x => { x with context := o }) c + e.holds c =
      stackCount l c + o.toList.count c := by
  induction l generalizing k with
  | nil => simp at h
  | cons x l ih =>
    cases k with
    | zero =>
      obtain rfl : x = e := by simpa using h
      simp only [List.modify_zero_cons, stackCount_cons, StackEntry.holds]
      omega
    | succ k =>
      have rest := ih (by simpa using h)
      simp only [List.modify_succ_cons, stackCount_cons]
      omega

namespace Keeps

/-- The innermost entry leaves the stack, and its context goes into the verdict queue (R64, R65, R73). -/
theorem closeInnermost (i : Nat) (cause : SegmentCause) (s : State) : Keeps s (closeInnermost i cause s) := by
  unfold Machine.closeInnermost
  split
  · exact .refl s
  · next e outward stack =>
    obtain ⟨sizes, services, loose⟩ := closeEntry_moves i e (outward.length + 1) outward cause s
    refine .restack sizes services (lt_of_stack_ne_nil (by simp [stack])) (fun h => ⟨h.1, ?_⟩) fun c => ?_
    · have four := h.2
      rw [stack, List.length_cons] at four
      exact (Nat.le_succ _).trans four
    · have moved := loose c
      rw [stack, stackCount_cons]
      dsimp only
      omega

theorem closeInner (i : Nat) (cause : SegmentCause) (n : Nat) (s : State) : Keeps s (closeInner i cause n s) := by
  induction n generalizing s with
  | zero => exact .refl s
  | succ n ih => exact (closeInnermost i cause s).trans (ih _)

theorem endMarker (i id : Nat) (s : State) : Keeps s (endMarker i id s) := by
  unfold Machine.endMarker
  simp only
  split
  · exact (((logReserve _ s).trans (closeInner i _ _ _)).trans (closeInnermost i _ _)).trans (handOff i _)
  · exact .ite (.modSvc s i _) (.logTake _ _ s)

theorem disableSegments (i : Nat) (s : State) : Keeps s (disableSegments i s) :=
  (((logReserve _ s).trans (closeInner i _ _ _)).trans (.modSvc _ i _)).trans (handOff i _)

/-- A START marker's entry takes a context that was free, or none (R58, R61). -/
theorem startMarker {i : Nat} (hi : i < 16) (kind : SegmentKind) (id : Nat) (req : Option Requirement) (s : State) :
    Keeps s (startMarker i kind id req s) := by
  unfold Machine.startMarker
  simp only
  split
  · exact .logTake _ _ s
  · split
    · exact (modSvc s i _).trans (.logTake _ _ _)
    · next room =>
      refine .trans (.ofServices fun sixteen => ?_) (handOff i _)
      obtain ⟨sizes, services, loose⟩ := openContext_moves i ((s.svc i).st.stack.length + 1)
        ⟨id, kind, resolveRequirement (s.svc i).profile kind req, s.now, s.wallNow, none⟩ false s
      generalize openContext i _ _ false s = r at sizes services loose ⊢
      refine .restack sizes services (sixteen ▸ hi) (fun h => ⟨h.1, Nat.lt_of_not_le room⟩) fun c => ?_
      have opened := loose c
      dsimp only
      rw [stackCount_cons, StackEntry.holds]
      dsimp only
      omega

/-- A full context goes into the verdict queue, and its entry takes one that was free, or none (R71). -/
theorem continueEntry (i k : Nat) (s : State) : Keeps s (continueEntry i k s) := by
  unfold Machine.continueEntry
  simp only
  split
  · exact .refl s
  · next e entry =>
    refine .trans ?_ (handOff i _)
    obtain ⟨sizes, services, loose⟩ := closeEntry_moves i e ((s.svc i).st.stack.length - k)
      ((s.svc i).st.stack.drop (k + 1)) .limit s
    generalize closeEntry i e _ _ .limit s = s1 at sizes services loose ⊢
    obtain ⟨sizes', services', loose'⟩ := openContext_moves i ((s.svc i).st.stack.length - k) e true s1
    generalize openContext i _ e true s1 = r at sizes' services' loose' ⊢
    refine .restack (sizes.trans sizes') (services'.trans services)
      (lt_of_stack_ne_nil fun empty => by simp [empty] at entry)
      (fun h => ⟨h.1, (List.length_modify ..).trans_le h.2⟩) fun c => ?_
    have moved := loose c
    have opened := loose' c
    have stack := stackCount_modify_context entry r.2 c
    dsimp only
    omega

theorem limitContext (i c : Nat) (s : State) : Keeps s (limitContext i c s) := by
  unfold Machine.limitContext
  split
  · exact .refl s
  · exact .continueEntry i _ s

end Keeps

end Sys2Proof.Machine
end

section
/-! SUPPORT. LE's, CU's, RC's and FI's operations keep the table sizes and the context pool. -/

namespace Sys2Proof.Machine

set_option Elab.async false

namespace Keeps

/-! ### Loudness (chapter 2) -/

theorem creditBlock (i : Nat) (l : Option Int) (mom : Int) (st : Option Int) (s : State) :
    Keeps s (creditBlock i l mom st s) := by
  unfold Machine.creditBlock
  split
  · exact .refl s
  · exact .ite ((modCtx s _ _).trans (.limitContext i _ _)) (.modCtx s _ _)

theorem countDeadAir (i : Nat) (mom : Int) (s : State) : Keeps s (countDeadAir i mom s) :=
  .ite (.ite ((modSvc s i _).trans (.openCond _ _ _ _ _)) (.modSvc s i _))
    ((modSvc s i _).trans (.closeCond _ _ _ _ _))

theorem completeSubBlock (i : Nat) (s : State) : Keeps s (completeSubBlock i s) :=
  .ite (((modSvc s i _).trans (.creditBlock i _ _ _ _)).trans (.countDeadAir i _ _)) (.modSvc s i _)

theorem creditPeak (i : Nat) (peak : Int) (s : State) : Keeps s (creditPeak i peak s) := by
  unfold Machine.creditPeak
  split
  · exact .refl s
  · exact .ite (((modCtx s _ _).trans (.modCtx _ _ _)).trans (.logTake _ _ _)) (.modCtx s _ _)

theorem takeFrame (i : Nat) (s : State) (xs : List Int) : Keeps s (takeFrame i s xs) :=
  .ite ((modSvc s i _).trans (.completeSubBlock i _)) (.modSvc s i _)

theorem audioUnit (i : Nat) (frames : List (List Int)) (s : State) : Keeps s (audioUnit i frames s) :=
  (creditPeak i _ s).trans (.foldl (takeFrame i) _ _)

/-! ### Verdicts and tallies (chapter 6) -/

/-- The evaluated context goes from the engine to the top of the free list (R72). -/
theorem releaseEvaluated {e : Evaluation} {s : State} (engine : s.cu.engine = some e) :
    Keeps s ((releaseContext e.context s).modCu fun u => { u with engine := none }) := by
  refine .ofSame ⟨List.length_modify .., id, id, id⟩ rfl (funext fun c => ?_)
  simp [State.looseCount, releaseContext, State.modCtx, engine, List.count_cons]
  omega

theorem completeVerdict {e : Evaluation} {s : State} (engine : s.cu.engine = some e) :
    Keeps s (completeVerdict e s) := by
  have entered (n : Nat) (svc : Option Nat) (b : Body) : OnlyLog s (Machine.logTake svc b (Machine.logReserve n s)) :=
    (logReserve_only n s).trans (logTake_only _ _ _)
  have judged (n : Nat) (svc : Option Nat) (b : Body) (i : Nat) (fails : Bool) :=
    (ofLog (entered n svc b)).trans (.modSvc _ i (Service.judged fails))
  unfold Machine.completeVerdict
  simp only [flagged_eq_judged]
  refine .trans (.ite ((judged _ _ _ _ _).trans (.requestHold _ _)) (judged _ _ _ _ _)) (.releaseEvaluated ?_)
  split
  · exact (congrArg Compliance.engine (requestHold_logArchive _ _).cu_eq).trans ((entered _ _ _).engine.trans engine)
  · exact (entered _ _ _).engine.trans engine

theorem turnTally (timeSet : Bool) (s : State) (i : Nat) : Keeps s (turnTally timeSet s i) :=
  ((logTake _ _ s).trans (.closeCond _ _ _ _ _)).trans (.modSvc _ i _)

theorem turnTallies (timeSet : Bool) (s : State) : Keeps s (turnTallies timeSet s) :=
  (logReserve _ s).trans (.foldl (turnTally timeSet) _ _)

theorem limitChanged (i : Nat) (s : State) : Keeps s (limitChanged i s) :=
  .ite (.openCond _ _ _ _ s) (.closeCond _ _ _ _ s)

theorem accrueService (s : State) (i : Nat) : Keeps s (accrueService s i) := by
  unfold Machine.accrueService
  refine .trans (t := match s.target i with
    | none => s
    | some c => s.modCtx c fun x => x.accrue (s.svc i) (s.innermostUnmeasured i)) ?_ (.ite (.modSvc _ i _) (.refl _))
  split
  · exact .refl s
  · exact .modCtx s _ _

theorem advanceTick (s : State) : Keeps s (advanceTick s) := (foldl accrueService _ s).trans (.modTb _ _)

/-! ### The Recorder (chapter 8) -/

theorem recordLoss (i : Nat) (cause : GapCause) (opened : GapRecord) (s : State) :
    Keeps s (recordLoss i cause opened s) :=
  .ite ((openCond _ _ _ _ s).trans (.modSvc _ i _)) (.refl s)

theorem intakeLoss (i : Nat) (cause : GapCause) (s : State) : Keeps s (intakeLoss i cause s) :=
  (modSvc s i _).trans (.recordLoss i _ _ _)

theorem issueLoss (i : Nat) (cause : GapCause) (s : State) : Keeps s (issueLoss i cause s) :=
  (modSvc s i _).trans (.recordLoss i _ _ _)

theorem resumeRecording (i : Nat) (which : GapRecord) (s : State) : Keeps s (resumeRecording i which s) :=
  .ite ((closeCond _ _ _ _ s).trans (.modSvc _ i _)) (.refl s)

theorem queueFilling (i : Nat) (close : Bool) (s : State) : Keeps s (queueFilling i close s) := by
  unfold Machine.queueFilling
  split
  · exact .refl s
  · exact (modQueue s _).trans (.modSvc _ i _)

theorem beginBuffer {i : Nat} {s t : State} (h : beginBuffer i s = some t) : Keeps s t := by
  unfold Machine.beginBuffer at h
  split at h
  · cases h
  · obtain rfl := Option.some.inj h
    exact .modSvc s i _

theorem appendBytes (i : Nat) (bytes : List Byte) (s : State) : Keeps s (appendBytes i bytes s) := by
  unfold Machine.appendBytes
  split
  · exact .refl s
  · exact .ite ((modSvc s i _).trans (.queueFilling i _ _)) (.modSvc s i _)

theorem takeRest (i : Nat) (rest : List Byte) (shortage : GapCause) (s : State) :
    Keeps s (takeRest i rest shortage s) := by
  unfold Machine.takeRest
  split
  · exact .refl s
  · split
    · exact .intakeLoss i _ s
    · next begun => exact (beginBuffer begun).trans (.appendBytes i _ _)

theorem stageBytes (i : Nat) (bytes : List Byte) (shortage : GapCause) (s : State) :
    Keeps s (stageBytes i bytes shortage s) := by
  unfold Machine.stageBytes
  split
  · exact .intakeLoss i _ s
  · next t begun =>
    have filling : Keeps s t := by
      split at begun
      · exact Option.some.inj begun ▸ .refl s
      · exact .beginBuffer begun
    exact ((filling.trans (.appendBytes i _ _)).trans (.resumeRecording i _ _)).trans (.takeRest i _ _ _)

theorem takePayload (i : Nat) (bytes : List Byte) (shortage : GapCause) (s : State) :
    Keeps s (takePayload i bytes shortage s) := .grouped (stageBytes i bytes shortage) s

theorem payloadUnit (i : Nat) (bytes : List Byte) (s : State) : Keeps s (payloadUnit i bytes s) := by
  have queued := queueFilling i false s
  have lost (cause : GapCause) := queued.trans (.intakeLoss i cause _)
  exact .ite queued (.ite (lost _) (.ite (lost _) (.ite (lost _) (.takePayload i _ _ s))))

/-! ### The time base (chapter 1) -/

theorem leaveHoldover (s : State) : Keeps s (leaveHoldover s) := (modTb s _).trans (.ofLog (leaveHoldover_only s))

theorem restartDivider (s : State) : Keeps s (restartDivider s) := .modTb s _

theorem takeEdge (s : State) : Keeps s (takeEdge s) :=
  (((advanceTick s).trans (.modTb _ _)).trans (.leaveHoldover _)).trans (.restartDivider _)

theorem enterHoldover (s : State) : Keeps s (enterHoldover s) :=
  .ite (((modTb s _).trans (.openDevice _ _)).trans (.logTake _ _ _)) (.modTb s _)

theorem hourBoundary (s : State) : Keeps s (hourBoundary s) := by
  have turned : Keeps s (if s.part.state = .run then
      Machine.turnTallies false (s.modTb fun b => { b with hour := hourOf b.anchor b.stationTime })
      else s.modTb fun b => { b with hour := hourOf b.anchor b.stationTime }) :=
    .ite ((modTb s _).trans (.turnTallies _ _)) (.modTb s _)
  unfold Machine.hourBoundary
  dsimp only
  split
  · exact turned
  · exact turned.trans (.expireHolds _ _)

/-! ### The feed port (chapter 1) -/

theorem countDiscard (i : Nat) (s : State) : Keeps s (countDiscard i s) := .modSvc s i _

theorem goLost (i : Nat) (s : State) : Keeps s (goLost i s) := (modSvc s i _).trans (.ofLog (goLost_only i s))

theorem routeUnit {i : Nat} (hi : i < 16) (b : FeedBody) (s : State) : Keeps s (routeUnit i b s) := by
  cases b with
  | audio c frames => exact ((modSvc s i _).trans (.ofLog (audioLive_only i s))).trans (.audioUnit i frames _)
  | cue slot id offset duration chars => exact .cueUnit i _ s
  | clear slot id => exact .clearUnit i slot id s
  | carry slot => exact .carryUnit i slot s
  | markStart kind id req => exact .startMarker hi kind id req s
  | markEnd id => exact .endMarker i id s
  | payload bytes => exact .payloadUnit i bytes s

theorem feedInRun (h : FeedHeader) (body : List Byte) (s : State) : Keeps s (feedInRun h body s) := by
  unfold Machine.feedInRun
  split
  · exact .refl s
  · next known =>
    have inRange : h.service < 16 := ((knows_iff s h).mp (by simpa using known)).1
    split
    · exact .countDiscard _ s
    · split
      · exact .countDiscard _ s
      · exact .ite (.routeUnit inRange _ s) (.countDiscard _ s)

theorem takeUnit (unit : List Byte) (s : State) : Keeps s (takeUnit unit s) :=
  .ite (.besidePort s _ _ _) ((ite (.feedInRun _ _ s) (.ite (.takePayload _ _ _ s) (.refl s))).trans (.settle _))

theorem checkHeader (bytes : List Byte) (s : State) : Keeps s (checkHeader bytes s) :=
  .ite (.refl s) (((ite (.countDiscard _ s) (.refl s)).trans (.settle _)).trans (.besidePort _ _ _ _))

theorem takeUnits (fuel : Nat) (bytes : List Byte) (s : State) : Keeps s (takeUnits fuel bytes s) := by
  induction fuel generalizing bytes s with
  | zero => exact .besidePort s _ _ _
  | succ fuel ih =>
    unfold Machine.takeUnits
    dsimp only
    split
    · exact (checkHeader bytes s).trans (.besidePort _ _ _ _)
    · exact ((checkHeader bytes s).trans (.takeUnit _ _)).trans (ih _ _)

end Keeps

end Sys2Proof.Machine
end

section
/-! SUPPORT. AM's and SP's operations, resets, mount and format keep the table sizes and the context pool; the reset state
meets the invariants. -/

namespace Sys2Proof.Machine

set_option Elab.async false

/-! ### The reset state (R185) -/

theorem reset_sizesOk : State.reset.sizesOk where
  services := rfl
  slots v hv := by rw [List.eq_of_mem_replicate hv]; rfl
  entries v hv := by rw [List.eq_of_mem_replicate hv]; exact Nat.zero_le 4
  cues v hv := by rw [List.eq_of_mem_replicate hv]; exact Nat.zero_le 16
  contexts := rfl
  holds := Nat.zero_le 128
  holdRanges _ h := absurd h List.not_mem_nil
  triggers := rfl
  watches := rfl

/-- After a reset every context is on the free list (R58, R74). -/
theorem reset_poolOk : State.reset.poolOk := ⟨rfl, .of_eq rfl⟩

/-- Settles O54: the counts are 0 or the tables' own sizes, and every context is free. -/
theorem resetMeetsInvariants : Obligations.ResetMeetsInvariants :=
  ⟨⟨rfl, rfl, Nat.zero_le _, fun h => absurd h (by decide)⟩, ⟨Nat.zero_le _, Nat.zero_le _, Nat.zero_le _⟩, rfl,
    List.Pairwise.nil, reset_sizesOk, reset_poolOk⟩

namespace Keeps

theorem resetTo (cause : ResetCause) (s : State) : Keeps s (resetTo cause s) := by
  have kept : Keeps State.reset (Machine.resetTo cause s) := .ofSame ⟨rfl, id, id, id⟩ rfl rfl
  exact ⟨fun _ => kept.sizes reset_sizesOk, fun _ => kept.pool reset_poolOk⟩

/-! ### Extents and grants (R134, R140 to R147) -/

theorem finishExtent (e : Nat) (state : ExtentState) (s : State) : Keeps s (finishExtent e state s) :=
  ((setExtent s _ _).trans (.modAm _ _)).trans (.markDirty _ _)

theorem reclaimExtent (e : Nat) (s : State) : Keeps s (reclaimExtent e s) := by
  have left : Keeps s _ := (modAm s fun a => { a with order := a.order.filter fun n => decide (n ≠ e) }).trans
    (.markDirty _ (extentPage e))
  unfold Machine.reclaimExtent
  dsimp only
  split
  · exact left.trans (.setExtent _ _ _)
  · exact (left.trans (.setExtent _ _ _)).trans (.modAm _ _)

theorem reclaimRun (goal fuel : Nat) (s : State) : Keeps s (reclaimRun goal fuel s) := by
  induction fuel generalizing s with
  | zero => exact .refl s
  | succ fuel ih =>
    unfold Machine.reclaimRun
    split
    · exact .refl s
    · split
      · exact .refl s
      · exact (reclaimExtent _ s).trans (ih _)

theorem placePage (i : Nat) (s : State) : Keeps s (placePage i s).1 := by
  unfold Machine.placePage
  split
  · exact .refl s
  · have reclaimed : Keeps s (if s.am.free.isEmpty then reclaim 1 s else s) := .ite (.reclaimRun _ _ s) (.refl s)
    dsimp only
    split
    · exact reclaimed
    · next e rest _ =>
      have placed := ((reclaimed.trans (.modAm _ fun a => { a with free := rest })).trans
        (.setExtent _ e ⟨.filling, i, 0, none, 0, false⟩)).trans (.markDirty _ (extentPage e))
      exact .ite (placed.trans (.reclaimRun _ _ _)) placed

theorem startOperation (op : Operation) (s : State) : Keeps s (startOperation op s) := .modSp s _

theorem grantRecorded (b : Buffer) (e page : Nat) (s : State) : Keeps s (grantRecorded b e page s) :=
  ((modSvc s b.service _).trans (.ite (.setExtent _ _ _) (.refl _))).trans (.startOperation _ _)

theorem grantFirst (fuel : Nat) (s : State) : Keeps s (grantFirst fuel s) := by
  induction fuel generalizing s with
  | zero => exact .refl s
  | succ fuel ih =>
    unfold Machine.grantFirst
    split
    · exact (modAm s _).trans (.startOperation _ _)
    · split
      · exact (modCl s _).trans (.startOperation _ _)
      · split
        · next b rest _ =>
          have placed := (modQueue s fun _ => rest).trans (.placePage b.service _)
          split
          · next placing => rw [placing] at placed; exact placed.trans (.grantRecorded _ _ _ _)
          · next placing => rw [placing] at placed; exact (placed.trans (.issueLoss _ _ _)).trans (ih _)
        · split
          · exact .ite ((modEe s _).trans (.startOperation _ _)) (.refl s)
          · exact .refl s

theorem grantNext (fuel : Nat) (s : State) : Keeps s (grantNext fuel s) := .grouped (grantFirst fuel) s

/-! ### Completions (R127, R139, R142 to R144, R148) -/

theorem endOperation (s : State) : Keeps s (endOperation s) := .modSp s _
theorem writeSucceeded (s : State) : Keeps s (writeSucceeded s) := .modSp s _
theorem countFailure (s : State) : Keeps s (countFailure s) := .modSp s _

theorem latchSteps (target : WriteTarget) (failed : Option Buffer) (s : State) :
    Keeps s (latchSteps target failed s) := by
  have latched := ((modSp s fun p => { p with faultLatched := true }).trans (.openDevice .storageFault _)).trans
    (.logTake none (.storageFault target) _)
  have emptied := (latched.trans (.foldl (fun t i => modSvc t i fun v => { v with rc := { v.rc with filling := none } })
    allServices _)).trans (.modQueue _ fun _ => [])
  exact ((emptied.trans (.foldl (fun t i => .issueLoss i .fault t) _ _)).trans
    (.foldl (fun t i => .recordLoss i .fault .placement t) _ _)).trans (.abortExport _ _)

theorem latchIfDue (target : WriteTarget) (failed : Option Buffer) (s : State) :
    Keeps s (latchIfDue target failed s) :=
  .ite ((logReserve _ s).trans (.latchSteps _ _ _)) (.refl s)

theorem recordedSucceeded (e : Nat) (b : Buffer) (s : State) : Keeps s (recordedSucceeded e b s) := by
  have written (x : Extent) (c : Prop) [Decidable c] :
      Keeps s (if c then Machine.finishExtent e .complete (s.setExtent e x) else s.setExtent e x) :=
    .ite ((setExtent s _ _).trans (.finishExtent _ _ _)) (.setExtent s _ _)
  exact (((written _ _).trans (.endOperation _)).trans (.writeSucceeded _)).trans (.resumeRecording _ _ _)

theorem failRecorded (e page : Nat) (b : Buffer) (s : State) : Keeps s (failRecorded e page b s) := by
  have counted := (((finishExtent e .damaged s).trans
    (.logTake (some (s.extent e).service) (.extentDamaged e (s.extent e).pages page) _)).trans (.endOperation _)).trans
    (.countFailure _)
  exact .ite (counted.trans (.latchIfDue _ _ _)) (.ite (counted.trans (.issueLoss _ _ _)) (counted.trans (.modQueue _ _)))

theorem recordedFailed (e page : Nat) (b : Buffer) (s : State) : Keeps s (recordedFailed e page b s) :=
  .grouped (failRecorded e page b) s

theorem logWriteEnded (ok : Bool) (position : Nat) (s : State) : Keeps s (logWriteEnded ok position s) := by
  have ended := (endOperation s).trans (.modCl _ fun c => { c with nextPage := (c.nextPage + 1) % Config.logPages })
  exact .ite ((ended.trans (.writeSucceeded _)).trans (.markDirty _ _))
    (((ended.trans (.modCl _ _)).trans (.countFailure _)).trans (.latchIfDue _ _ _))

theorem directoryWriteEnded (ok : Bool) (page : Nat) (image : DirectoryImage) (s : State) :
    Keeps s (directoryWriteEnded ok page image s) := by
  have written := (endOperation s).trans (.writeSucceeded _)
  exact .ite (.ite (written.trans (.endFlush _ _)) written)
    ((((endOperation s).trans (.markDirty _ _)).trans (.countFailure _)).trans (.latchIfDue _ _ _))

theorem exportReadEnded (page : Option (List Byte)) (s : State) : Keeps s (exportReadEnded page s) := by
  unfold Machine.exportReadEnded
  dsimp only
  split
  · exact .endOperation s
  · exact .ite ((endOperation s).trans (.endExport _ _)) ((endOperation s).trans (.modEe _ _))

theorem exportFrameEnded (x : Export) (f : Frame) (s : State) : Keeps s (exportFrameEnded x f s) := by
  have sent (o : ExportOutcome) :=
    (modEe s fun e => { e with current := some { x with frames := x.frames + 1, frame := none } }).trans (.endExport o _)
  unfold Machine.exportFrameEnded
  dsimp only
  split
  · exact sent _
  · split
    · exact sent _
    · split
      · exact sent _
      · split
        · exact sent _
        · exact .modEe s _

/-! ### Enabling and disabling (R16, R17) -/

theorem enableService (i : Nat) (s : State) : Keeps s (enableService i s) :=
  (modSvc s i _ (by rfl) (by exact fun _ => ⟨rfl, Nat.zero_le 16⟩)).trans (.logTake _ _ _)

theorem clearMarks (i : Nat) (s : State) : Keeps s (clearMarks i s) := .modSvc s i _

theorem completeIdle (i : Nat) (s : State) : Keeps s (completeIdle i s) := by
  unfold Machine.completeIdle
  split
  · split
    · exact .finishExtent _ _ s
    · exact .refl s
  · exact .refl s

theorem closeRecording (i : Nat) (s : State) : Keeps s (closeRecording i s) := by
  unfold Machine.closeRecording
  split
  · exact .queueFilling i _ s
  · split
    · exact .modQueue s _
    · split
      · exact .ite (.modSp s _) (.completeIdle i s)
      · exact .completeIdle i s

theorem disableService (i : Nat) (s : State) : Keeps s (disableService i s) := by
  have off : Keeps s (s.modSvc i (Service.disabledAt s.now)) :=
    .modSvc s i _ rfl fun h => ⟨(List.length_map _).trans h.1, Nat.zero_le 16⟩
  rw [disableService_eq]
  exact (((off.trans (.ofLog (metersDisabled_only i s))).trans (.disableSegments i _)).trans
    (.closeRecording i _)).trans (.clearMarks i _)

/-! ### Supply (R190, R191) -/

theorem supplyLosses (s : State) : Keeps s (supplyLosses s) := .foldl (fun t i => .intakeLoss i .supply t) _ s

theorem queueAllFilling (s : State) : Keeps s (queueAllFilling s) := .foldl (fun t i => .queueFilling i false t) _ s

theorem startSupplyFlush (s : State) : Keeps s (startSupplyFlush s) :=
  (((modAm s _).trans (.queueAllFilling _)).trans (.supplyLosses _)).trans (.flushStep _)

theorem assertSupply (s : State) : Keeps s (assertSupply s) := .ite (.grouped startSupplyFlush s) (.refl s)

theorem cancelFlush (cancelled dirty : Bool) (s : State) : Keeps s (cancelFlush cancelled dirty s) :=
  ((modAm s _).trans (.ite (.markDirty _ _) (.refl _))).trans (.logTake _ _ _)

theorem deassertSupply (s : State) : Keeps s (deassertSupply s) := by
  unfold Machine.deassertSupply
  split
  · exact .refl s
  · exact .ite (.ite ((cancelFlush _ _ s).trans (.modAm _ _)) (.cancelFlush _ _ s)) (.refl s)
  · exact .cancelFlush _ _ s

end Keeps

/-! ### What a mount reads (R186) -/

theorem decodeRecords_length {α : Type} {f : List Byte → Option α} {size n : Nat} {bytes : List Byte} {l : List α}
    (h : decodeRecords f size n bytes = some l) : l.length = n := by
  induction n generalizing bytes l with
  | zero => rw [← Option.some.inj h]; rfl
  | succ n ih =>
    unfold decodeRecords at h
    split at h
    · next rest => rw [← Option.some.inj h, List.length_cons, ih rest]
    · cases h

theorem decodeHold_ordered {bytes : List Byte} {x : Hold} (h : decodeHold bytes = some x) : x.lo ≤ x.hi := by
  unfold decodeHold at h
  dsimp only at h
  split at h
  · cases h
  · split at h
    · next fields => rw [← Option.some.inj h]; exact fields.2.2.1
    · cases h

theorem decodeHoldList_spec {n : Nat} {bytes : List Byte} {l : List Hold} (h : decodeHoldList n bytes = some l) :
    l.length = n ∧ ∀ x ∈ l, x.lo ≤ x.hi := by
  induction n generalizing bytes l with
  | zero => rw [← Option.some.inj h]; exact ⟨rfl, fun x hx => absurd hx List.not_mem_nil⟩
  | succ n ih =>
    unfold decodeHoldList at h
    split at h
    · next x xs first rest =>
      obtain ⟨length, ordered⟩ := ih rest
      rw [← Option.some.inj h]
      refine ⟨congrArg Nat.succ length, fun y hy => ?_⟩
      rcases List.mem_cons.mp hy with rfl | hy
      · exact decodeHold_ordered first
      · exact ordered y hy
    · cases h

theorem decodeHolds_sized {bytes : List Byte} {next : Nat} {l : List Hold} (h : decodeHolds bytes = some (next, l)) :
    holdsSized l := by
  unfold decodeHolds at h
  dsimp only at h
  split at h
  · cases h
  · next hs read =>
    obtain ⟨length, ordered⟩ := decodeHoldList_spec read
    split at h
    · next fields =>
      obtain ⟨-, rfl⟩ := Prod.mk.inj (Option.some.inj h)
      exact holdsSized_perm (sortByKey_perm _ _) ⟨length.trans_le fields.2.1, ordered⟩
    · cases h

theorem decodeSettings_lengths {bytes : List Byte} {ps : List Profile} {ts : List (Option Trigger)}
    (h : decodeSettings bytes = some (ps, ts)) : ps.length = 16 ∧ ts.length = 8 := by
  unfold decodeSettings at h
  split at h
  · next profiles triggers =>
    obtain ⟨rfl, rfl⟩ := Prod.mk.inj (Option.some.inj h)
    exact ⟨decodeRecords_length profiles, decodeRecords_length triggers⟩
  · cases h

/-- A mount gives 16 profiles, 8 trigger slots and a hold table within its bounds. -/
theorem mountTables_sized {n : Nat} {pages : DevicePages} {t : MountTables} (h : mountTables n pages = some t) :
    t.profiles.length = 16 ∧ t.triggers.length = 8 ∧ holdsSized t.holds := by
  unfold mountTables at h
  split at h
  · next holds settings =>
    rw [← Option.some.inj h]
    exact ⟨(decodeSettings_lengths settings).1, (decodeSettings_lengths settings).2, decodeHolds_sized holds⟩
  · cases h

/-- What a mount takes to step 8 are the tables of steps 1 to 6 (R186). -/
theorem tables_of_mountNext {n : Nat} {pages : DevicePages} {t : MountTables} (h : mountNext n pages = .write t) :
    mountTables n pages = some t := by
  unfold mountNext at h
  split at h
  · cases h
  · split at h
    · cases h
    · split at h
      · cases h
      · split at h
        · cases h
        · next tables => rw [tables, MountNext.write.inj h]

theorem holdsSized_nil : holdsSized [] := ⟨Nat.zero_le 128, fun _ h => absurd h List.not_mem_nil⟩

namespace Keeps

/-! ### Mount and format (R186 to R188) -/

/-- The directory's profiles, one for each service, leave the stacks and SC's state. -/
theorem loadProfiles {ps : List Profile} {ts : List (Option Trigger)} (profiles : ps.length = 16) (triggers : ts.length = 8)
    (s : State) : Keeps s { s with
      services := List.zipWith (fun (v : Service) p => { v with profile := p }) s.services ps
      triggers := ts } := by
  refine .ofServices fun sixteen => .ofParts ⟨rfl, id, fun _ => triggers, id⟩ ?_ rfl
  exact List.ext_getElem (by simp [sixteen, profiles]) fun j _ _ => by simp [Service.parts]

theorem loadSettings {t : MountTables} (profiles : t.profiles.length = 16) (triggers : t.triggers.length = 8)
    (s : State) : Keeps s (loadSettings t s) := by
  have marked (u : State) (i : Nat) : Keeps u (u.modRc i fun r => { r with intakeMark := some .mount }) := .modSvc u i _
  exact ((loadProfiles profiles triggers s).trans (.foldl marked _ _)).trans
    (.modAm _ fun a => { a with profilesLoaded := true })

theorem defaultSettings (s : State) : Keeps s (defaultSettings s) :=
  .ofParts ⟨rfl, id, fun _ => rfl, id⟩ (by rw [Machine.defaultSettings, List.map_map]; rfl) rfl

theorem takeBoot (boot : Nat) (s : State) : Keeps s (takeBoot boot s) :=
  .ofParts ⟨rfl, id, id, id⟩ (by rw [Machine.takeBoot, State.modCl_services, List.map_map]; rfl) rfl

theorem startUpGap (s : State) (i : Nat) : Keeps s (startUpGap s i) := (openCond _ _ _ _ s).trans (.modSvc _ i _)

theorem enterRun (shutdown : Shutdown) (outcome : MountOutcome) (s : State) : Keeps s (enterRun shutdown outcome s) := by
  have started := (modPart s fun p => { p with state := .run }).trans
    (.logTake none (.reset s.part.cause shutdown outcome (elapsed s.now s.am.mountStart)) _)
  have lost (t : State) : Keeps t (if t.tb.refState = .holdover then
      Machine.logTake none (.refLost t.tb.lastEdge) (Machine.openDevice .refLost t) else t) :=
    .ite ((openDevice _ t).trans (.logTake _ _ _)) (.refl t)
  have supplied (t : State) : Keeps t (if t.part.lowSupply then Machine.assertSupply t else t) :=
    .ite (.assertSupply t) (.refl t)
  exact (((started.trans (lost _)).trans (.foldl (fun t i => .enableService i t) _ _)).trans
    (.foldl startUpGap _ _)).trans (supplied _)

theorem mountWithout (state : ArchiveState) (outcome : MountOutcome) (s : State) :
    Keeps s (mountWithout state outcome s) :=
  (((modAm s _ fun _ => holdsSized_nil).trans (.defaultSettings _)).trans (.takeBoot _ _)).trans (.enterRun _ _ _)

theorem mountDone (n : Nat) (pages : DevicePages) (s : State) : Keeps s (mountDone n pages s) := by
  unfold Machine.mountDone
  split
  · exact .mountWithout _ _ s
  · next t tables =>
    obtain ⟨profiles, triggers, holds⟩ := mountTables_sized tables
    have loaded : Keeps s (if s.am.profilesLoaded then s else Machine.loadSettings t s) :=
      .ite (.refl s) (.loadSettings profiles triggers s)
    exact ((((loaded.trans (.modAm _ _ fun _ => holds)).trans (.writeSucceeded _)).trans (.modCl _ _)).trans
      (.takeBoot _ _)).trans (.enterRun _ _ _)

theorem reportMount (outcome : MountOutcome) (s : State) : Keeps s (reportMount outcome s) :=
  .ite ((logTake _ _ s).trans (.logTake _ _ _)) (.logTake _ _ s)

theorem remountWithout (state : ArchiveState) (outcome : MountOutcome) (s : State) :
    Keeps s (remountWithout state outcome s) :=
  (modAm s _ fun _ => holdsSized_nil).trans (.grouped (reportMount outcome) _)

theorem remountDone (n : Nat) (pages : DevicePages) (s : State) : Keeps s (remountDone n pages s) := by
  unfold Machine.remountDone
  split
  · exact .remountWithout _ _ s
  · next t tables =>
    obtain ⟨-, -, holds⟩ := mountTables_sized tables
    exact (((modAm s _ fun _ => holds).trans (.writeSucceeded _)).trans (.modCl _ _)).trans
      (.grouped (reportMount _) _)

theorem mountEndsWithout (state : ArchiveState) (outcome : MountOutcome) (s : State) :
    Keeps s (mountEndsWithout state outcome s) := .ite (.remountWithout _ _ s) (.mountWithout _ _ s)

theorem mountGoesOn (n : Nat) (pages : DevicePages) (s : State) : Keeps s (mountGoesOn n pages s) := by
  have reading := modAm s fun a => { a with mount := .reading pages }
  unfold Machine.mountGoesOn
  dsimp only
  split
  · exact reading.trans (.startOperation _ _)
  · exact (reading.trans (.endOperation _)).trans (.mountEndsWithout _ _ _)
  · next t next =>
    obtain ⟨profiles, triggers, -⟩ := mountTables_sized (tables_of_mountNext next)
    exact ((Keeps.ite reading (reading.trans (.loadSettings profiles triggers _))).trans (.modAm _ _)).trans
      (.startOperation _ _)

theorem mountAnswered (s : State) (answer : PageAnswer) : Keeps s (mountAnswered s answer) := by
  unfold Machine.mountAnswered
  dsimp only
  split
  · exact .mountGoesOn _ _ s
  · exact .ite ((endOperation s).trans (.remountDone _ _ _)) ((endOperation s).trans (.mountDone _ _ _))
  · exact (endOperation s).trans (.mountEndsWithout _ _ _)
  · exact (endOperation s).trans (.mountEndsWithout _ _ _)
  · exact .refl s

theorem writeFormatPage (page : Nat) (s : State) : Keeps s (writeFormatPage page s) := .startOperation _ s

theorem formatted (s : State) : Keeps s s.formatted := (modAm s _ fun _ => holdsSized_nil).trans (.modCl _ _)

theorem formatAnswered (s : State) (ok : Bool) : Keeps s (formatAnswered s ok) := by
  have failed (page : Nat) : Keeps s (formatFailed page (Machine.endOperation s)) :=
    ((((endOperation s).trans (.countFailure _)).trans (.modAm _ _ fun _ => holdsSized_nil)).trans
      (.grouped (reportMount _) _)).trans (.latchIfDue _ _ _)
  have written := (endOperation s).trans (.writeSucceeded _)
  unfold Machine.formatAnswered
  split
  · dsimp only
    split
    · split
      · exact written.trans (.writeFormatPage _ _)
      · exact (written.trans (.formatted _)).trans (.grouped (reportMount _) _)
    · exact failed _
  · exact .refl s

theorem probeEnds (capacity : Option Nat) (s : State) : Keeps s (probeEnds capacity s) := by
  have entered : Keeps s (if s.part.state = .run then s else enterMount s) :=
    .ite (.refl s) ((modPart s _).trans (.modAm _ _))
  unfold Machine.probeEnds
  dsimp only
  split
  · exact (entered.trans (.modAm _ _)).trans (.mountGoesOn _ _ _)
  · exact entered.trans (.mountEndsWithout _ _ _)

end Keeps

end Sys2Proof.Machine
end

section
/-! SUPPORT. Every command keeps the table sizes and the context pool (R55, R57, R80, R155, R163, R178), with the
obligations of both. -/

namespace Sys2Proof.Machine

set_option Elab.async false

namespace Keeps

/-! ### What the verbs do (section 10.7) -/

theorem inRange {verb : String} {ok : Bool} {sent : List Text} {k : Nat} {s : State} {rest : Answer}
    (h : Keeps s rest.1) : Keeps s (inRange verb ok sent k s rest).1 := by
  cases ok
  · exact .refl s
  · exact h

/-- An answer chosen by a condition. -/
theorem answer {c : Prop} [Decidable c] {s : State} {a b : Answer} (h : Keeps s a.1) (k : Keeps s b.1) :
    Keeps s (if c then a else b).1 := by
  split
  · exact h
  · exact k

theorem said {verb : String} {fields : List Text} {s t : State} (h : Keeps s t) : Keeps s (say verb fields t).1 := h

theorem opSta (group : Option Text) (s : State) : Keeps s (opSta group s).1 := by
  have shown : Keeps s (s.modLc fun l => { l with dropped := false }) := .modLc s _
  unfold Machine.opSta
  split
  · exact shown
  · exact .answer shown (.answer shown (.refl s))

theorem opSvs (svc : Nat) (group : Option Text) (k : Option Nat) (sent : List Text) (s : State) :
    Keeps s (opSvs svc group k sent s).1 := by
  have conditions (k : Nat) : Keeps s (opSvsCond svc k sent s).1 := by
    refine .inRange ?_
    split <;> exact .refl s
  refine .inRange ?_
  split
  · exact .refl s
  · exact .answer (conditions _) (.answer (.refl s) (.answer (.refl s) (.refl s)))

theorem opSve (svc : Nat) (sent : List Text) (s : State) : Keeps s (opSve svc sent s).1 :=
  .inRange (.answer (.refl s) (.answer (.refl s) ((enableService svc s).trans (.clearMarks svc _))))

theorem opSvd (svc : Nat) (sent : List Text) (s : State) : Keeps s (opSvd svc sent s).1 :=
  .inRange (.answer (.disableService svc s) (.refl s))

theorem profileSet (i : Nat) (p : Profile) (s : State) : Keeps s (profileSet i p s) := by
  have written : Keeps s (s.modProfile i fun _ => p) := .modSvc s i _
  have masked (c : Prop) [Decidable c] (old : Nat) (t : State) : Keeps t (if c then t else Machine.maskChanged i old t) :=
    .ite (.refl t) (.maskChanged i old t)
  have derived (c : Prop) [Decidable c] (t : State) : Keeps t (if c then t else Machine.deriveActive i t) :=
    .ite (.refl t) (.deriveActive i t)
  have limited (c : Prop) [Decidable c] (t : State) : Keeps t (if c then t else Machine.limitChanged i t) :=
    .ite (.refl t) (.limitChanged i t)
  exact .ite ((((written.trans (.modSvc _ i _)).trans (masked _ _ _)).trans (derived _ _)).trans (limited _ _)) written

theorem opPrf (svc : Nat) (settings : List (Text × Text)) (sent : List Text) (s : State) :
    Keeps s (opPrf svc settings sent s).1 := by
  refine .inRange ?_
  split
  · exact .refl s
  · exact .answer (.refl s) (.profileSet _ _ s)

theorem opPrq (svc : Nat) (keys : List Text) (sent : List Text) (s : State) : Keeps s (opPrq svc keys sent s).1 := by
  refine .inRange ?_
  split <;> exact .refl s

theorem opWgt (svc sec : Nat) (c : Coefficients) (sent : List Text) (s : State) : Keeps s (opWgt svc sec c sent s).1 :=
  .inRange (.inRange (.answer (.refl s) (.modSvc s svc _)))

theorem opAck (svc : Nat) (sent : List Text) (s : State) : Keeps s (opAck svc sent s).1 :=
  .inRange (.modSvc s svc _)

theorem withContext (svc d : Nat) (s : State) (f : Nat → List Text) : Keeps s (withContext svc d s f).1 := by
  unfold Machine.withContext
  refine .answer (.refl s) ?_
  split <;> exact .refl s

theorem opCtq (svc : Nat) (form : ContextForm) (sent : List Text) (s : State) : Keeps s (opCtq svc form sent s).1 := by
  refine .inRange ?_
  split
  · exact .refl s
  · exact .inRange (.inRange (.withContext _ _ s _))
  · exact .inRange (.inRange (.withContext _ _ s _))

theorem opTim (second : Nat) (s : State) : Keeps s (opTim second s).1 := by
  have applied (t : State) : Keeps t (applyTime (clampNat 0 lastSecond second) t) :=
    (((modTb t _).trans (.logTake _ _ _)).trans (.modTb _ _)).trans (.turnTallies _ _)
  exact .grouped applied s

theorem withEntry {verb : String} {n : Nat} {s gone : State} {f : Entry → Answer} (h : Keeps s gone)
    (k : ∀ e, Keeps s (f e).1) : Keeps s (withEntry verb n s gone f).1 := by
  unfold Machine.withEntry
  refine .answer (.refl s) ?_
  split
  · exact h
  · exact h
  · exact k _

theorem opLog (n : Nat) (part : Option Nat) (sent : List Text) (s : State) : Keeps s (opLog n part sent s).1 :=
  .inRange (.inRange (.withEntry (.refl s) fun _ => .answer (.refl s) (.refl s)))

theorem opLgc (n : Nat) (sent : List Text) (s : State) : Keeps s (opLgc n sent s).1 :=
  .inRange (.said (.modCl s _))

theorem opLgn (s : State) : Keeps s (opLgn s).1 :=
  .withEntry (.modCl s _) fun e => .modCl s fun c => c.advance e.parts.length

/-- A watch slot takes a watch or is cleared (R178). -/
theorem setWatch (slot : Nat) (w : Option Watch) (s : State) : Keeps s (setWatch slot w s) :=
  .modLc s _ fun h => (List.length_modify ..).trans h

theorem opWch (slot svc : Nat) (meter : Text) (interval : Nat) (sent : List Text) (s : State) :
    Keeps s (opWch slot svc meter interval sent s).1 := by
  refine .inRange (.inRange ?_)
  split
  · exact .refl s
  · exact .setWatch _ _ s

theorem opWcx (slot : Nat) (sent : List Text) (s : State) : Keeps s (opWcx slot sent s).1 := .inRange (.setWatch _ _ s)

theorem holdRefusedReply {verb : String} {x : HoldRefusal} {s before after : State} (h : Keeps s after) :
    Keeps s (holdRefusedReply verb x before after).1 := by
  cases x <;> exact h

theorem opHld (svc lo hi keep : Nat) (sent : List Text) (s : State) : Keeps s (opHld svc lo hi keep sent s).1 := by
  refine .inRange (.inRange ?_)
  have requested := requestHold ⟨svc, clampNat 0 lastSecond lo, clampNat 0 lastSecond hi, .host, none,
    clampNat 0 3650 keep, false⟩ s
  split
  · next answered => rw [answered] at requested; exact requested
  · next answered => rw [answered] at requested; exact .holdRefusedReply requested

theorem opHlr (id : Nat) (sent : List Text) (s : State) : Keeps s (opHlr id sent s).1 := by
  refine .inRange ?_
  split
  · exact .holdRefusedReply (.refl s)
  · split
    · exact .refl s
    · exact .dropHold _ _ s

theorem opHlq (id : Option Nat) (sent : List Text) (s : State) : Keeps s (opHlq id sent s).1 := by
  refine .inRange ?_
  split <;> exact .refl s

/-- A trigger slot is set or cleared (R163). -/
theorem setTrigger (slot : Nat) (t : Option Trigger) (s : State) : Keeps s (s.modTriggers fun l => setAt l slot t) :=
  .modTriggers s _ fun h => (List.length_modify ..).trans h

theorem opTrg (slot : Nat) (event svc action : Text) (pre post : Nat) (sent : List Text) (s : State) :
    Keeps s (opTrg slot event svc action pre post sent s).1 := by
  refine .inRange ?_
  split
  · exact .refl s
  · split
    · exact .refl s
    · exact .refl s
    · exact .setTrigger _ _ s

theorem opTrx (slot : Nat) (sent : List Text) (s : State) : Keeps s (opTrx slot sent s).1 :=
  .inRange (.setTrigger _ _ s)

theorem acceptExport (kind : ExportKind) (service : Option Nat) (items : List ExportItem) (marks : List Text) (s : State) :
    Keeps s (acceptExport kind service items marks s).1 := by
  have started : Keeps s (startExport kind service items s) :=
    .ite ((modEe s _).trans (.endExport _ _)) (.modEe s _)
  unfold Machine.acceptExport exportAllowed
  split
  · exact .refl s
  · exact .answer (.refl s) (.answer (.refl s) (.answer (.refl s) (.answer (.refl s) started)))

theorem opExp (form : ExportForm) (sent : List Text) (s : State) : Keeps s (opExp form sent s).1 := by
  cases form <;> exact .inRange (.inRange (.acceptExport _ _ _ _ s))

theorem opXab (s : State) : Keeps s (opXab s).1 := by
  unfold Machine.opXab
  split
  · exact .refl s
  · exact .ite ((modEe s _).trans (.endExport _ _)) (.modEe s _)

theorem archiveAllowed {verb : String} {latchFirst ok : Bool} {s : State} {rest : Answer} (h : Keeps s rest.1) :
    Keeps s (archiveAllowed verb latchFirst ok s rest).1 :=
  .answer (.refl s) (.answer (.refl s) (.answer (.refl s) (.answer (.refl s) h)))

theorem opOfl (s : State) : Keeps s (opOfl s).1 := .archiveAllowed (.said (.modAm s _))

theorem opOnl (s : State) : Keeps s (opOnl s).1 := .archiveAllowed (.said (.modAm s _))

theorem opSav (s : State) : Keeps s (opSav s).1 :=
  .answer (.refl s) (.answer (.refl s) (.answer (.refl s) ((markDirty s _).trans (.logTake _ _ _))))

theorem opFmt (low : Option Nat) (s : State) : Keeps s (opFmt low s).1 :=
  .archiveAllowed ((modAm s _).trans (.writeFormatPage _ _))

theorem opRst (s : State) : Keeps s (opRst s).1 := by
  have flushing (c : Prop) [Decidable c] (t : State) : Keeps t (if c then t.modAm (Archive.startRstFlush s.now) else t) :=
    .ite (.modAm t _) (.refl t)
  exact .answer (((modAm s _).trans (.queueAllFilling _)).trans (flushing _ _)) (.resetTo _ s)

/-- What a command record does keeps both invariants, verb by verb. -/
theorem operate (i : Instr) (sent : List Text) (s : State) : Keeps s (operate i sent s).1 := by
  cases i with
  | sta group => exact .opSta group s
  | svs svc group k => exact .opSvs svc group k sent s
  | sve svc => exact .opSve svc sent s
  | svd svc => exact .opSvd svc sent s
  | prf svc settings => exact .opPrf svc settings sent s
  | prq svc keys => exact .opPrq svc keys sent s
  | wgt svc sec b0 b1 b2 a1 a2 => exact .opWgt svc sec _ sent s
  | tim second => exact .opTim second s
  | mtr svc => exact .inRange (.refl s)
  | log n part => exact .opLog n part sent s
  | lgc n => exact .opLgc n sent s
  | lgn => exact .opLgn s
  | ack svc => exact .opAck svc sent s
  | wch slot svc meter interval => exact .opWch slot svc meter interval sent s
  | wcx slot => exact .opWcx slot sent s
  | hld svc lo hi keep => exact .opHld svc lo hi keep sent s
  | hlr id => exact .opHlr id sent s
  | hlq id => exact .opHlq id sent s
  | trg slot event svc action pre post => exact .opTrg slot event svc action pre post sent s
  | trx slot => exact .opTrx slot sent s
  | exp form => exact .opExp form sent s
  | xab => exact .opXab s
  | ofl => exact .opOfl s
  | onl => exact .opOnl s
  | sav => exact .opSav s
  | fmt low => exact .opFmt low s
  | rst => exact .opRst s
  | ctq svc form => exact .opCtq svc form sent s
  | _ => exact .refl s

/-! ### The line (R171 to R173, R176 to R179) -/

theorem putReply {s : State} {a : Answer} (h : Keeps s a.1) : Keeps s (putReply a) := by
  unfold Machine.putReply
  split
  · exact h
  · exact h.trans (.modLc _ _)

theorem runRecord {op : State → Answer} {s : State} (h : Keeps s (op s).1) (verb : Text) (fault : Option Nat) :
    Keeps s (runRecord verb fault op s) := by
  unfold Machine.runRecord
  split
  · exact .putReply (.refl s)
  · split
    · exact .putReply (.refl s)
    · refine .putReply ?_
      unfold fitReply
      split
      · exact h
      · exact .answer (.refl s) h

theorem runText (t : Text) (s : State) : Keeps s (runText t s) := by
  unfold Machine.runText
  split
  · exact .refl s
  · split
    · exact .putReply (.refl s)
    · split
      · exact .putReply (.refl s)
      · split
        · exact .runRecord (.refl s) _ _
        · exact .runRecord (.operate _ _ s) _ _

end Keeps

theorem receiveFaulted_watches (l : Line) (f : LineFault) (c : LineChar) : (l.receiveFaulted f c).watches = l.watches := by
  unfold Line.receiveFaulted Line.queueError
  split
  · dsimp only
    split
    · rfl
    · split <;> rfl
  · rfl

theorem receiveFull_watches (l : Line) (c : LineChar) : (l.receiveFull c).watches = l.watches := by
  unfold Line.receiveFull Line.queueError
  split
  · split
    · rfl
    · split <;> rfl
  · rfl

namespace Keeps

theorem completeRecord (r : List LineChar) (s : State) : Keeps s (completeRecord r s) := by
  have taken := modLc s fun l => { l with current := [] }
  exact .ite taken (.ite (taken.trans (.runText _ _)) (taken.trans (.modLc _ _)))

theorem receive (c : LineChar) (s : State) : Keeps s (receive c s) := by
  unfold Machine.receive
  split
  · exact .modLc s _ fun h => (congrArg List.length (receiveFaulted_watches ..)).trans h
  · exact .ite (.modLc s _ fun h => (congrArg List.length (receiveFull_watches ..)).trans h)
      (.ite (.completeRecord _ s) (.ite (.modLc s _) (.modLc s _)))

theorem takeCharacter (s : State) (c : LineChar) : Keeps s (takeCharacter s c) := (receive c s).trans (.settle _)

theorem deliver (t : Text) (s : State) : Keeps s (deliver t s) := .foldl (fun u c => .takeCharacter u ⟨c, false⟩) _ s

theorem verbRow {op : State → Answer} {s : State} (h : Keeps s (op s).1) (i : Instr) : Keeps s (verbRow i op s) :=
  .ite ((runRecord h _ _).trans (.settle _)) (.deliver _ s)

/-- A record of the line is its verb's operation (R173). -/
theorem record (i : Instr) (s : State) : Keeps s (Machine.verbRow i (Machine.operate i (fieldsOf i)) s) :=
  .verbRow (.operate i _ s) i

theorem executeNext (s : State) : Keeps s (executeNext s) := by
  unfold Machine.executeNext
  split
  · exact (modLc s _).trans (.runText _ _)
  · exact .refl s

/-- The end of `=RST`, or a line break in its stead, is marked while an RST is pending (R192). -/
theorem markReplyEnded (c : Prop) [Decidable c] (s : State) :
    Keeps s (if c then s.modAm fun a => { a with rstReplyEnded := true } else s) := .ite (.modAm s _) (.refl s)

theorem endTransmission (s : State) : Keeps s (endTransmission s) := by
  unfold Machine.endTransmission
  split
  · exact .refl s
  · have idle (t : State) : Keeps t (t.modLc fun l => { l with sending := none }.startSending) :=
      (modLc t fun l => { l with sending := none }).trans (.startSending _)
    exact ((markReplyEnded _ s).trans (idle _)).trans (.executeNext _)

theorem breakLine (s : State) : Keeps s (breakLine s) :=
  (markReplyEnded _ s).trans (.modLc _ (fun l => { Line.reset with sending := l.sending }) fun _ => rfl)

theorem watchFallsDue (k : Nat) (s : State) : Keeps s (watchFallsDue k s) := by
  unfold Machine.watchFallsDue
  split
  · exact .refl s
  · exact .ite ((ite (.modLc s _) (.refl s)).trans (.setWatch _ _ _)) (.refl s)

/-! ### Every command -/

/-- An operation that fails is one of the port's (R139). -/
theorem operationFails (op : Operation) (s : State) : Keeps s (operationFails op s) := by
  cases op with
  | directory page image => exact .directoryWriteEnded false page image s
  | log position boot entries overflowed => exact .logWriteEnded false position s
  | recorded e page b => exact .recordedFailed _ _ _ s
  | exportRead e page => exact .exportReadEnded _ s
  | mountRead address => exact .mountAnswered s _
  | mountWrite image => exact .mountAnswered s _
  | formatWrite page image => exact .formatAnswered s _

theorem settled {s t : State} (h : Keeps s t) : Keeps s (Machine.settle t) := h.trans (.settle t)

end Keeps

/-- A command's outcome: a next state that keeps both invariants. -/
def Result.Keeps (s : State) (r : Result) : Prop := ∀ t, r = .next t → Machine.Keeps s t

theorem Result.keeps_next {s t : State} (h : Machine.Keeps s t) : Result.Keeps s (.next t) :=
  fun _ same => Host.Outcome.next.inj same ▸ h

/-- Every command keeps the table sizes and the context pool. -/
theorem exec_keeps (i : Instr) (s : State) : Result.Keeps s (exec i s) := by
  cases i <;> refine Result.keeps_next ?_
  case wordClockEdge near => exact .settled (.ite ((Keeps.leaveHoldover s).trans (.restartDivider _)) (.takeEdge s))
  case dividerTick => exact (Keeps.advanceTick s).trans (.modTb _ _)
  case holdoverEntry => exact .ite (.settled (.enterHoldover s)) (.refl s)
  case hourBoundary => exact .ite (.settled (.hourBoundary s)) (.refl s)
  case feedUnit bytes => exact .takeUnits _ _ s
  case waitExpiry svc => exact .ite (.settled (.goLost svc s)) (.refl s)
  case audioTimeoutExpiry svc => exact .ite (.settled (.goLost svc s)) (.refl s)
  case acquisitionWindowExpiry svc slot => exact .ite (.modSlot s svc slot _) (.refl s)
  case carriageTimeoutExpiry svc slot => exact .ite (.settled (.lapseSlot svc slot s)) (.refl s)
  case cueShow svc => exact .settled (.showHead svc s)
  case cueEnd svc slot =>
    split
    · exact .refl s
    · exact .ite (.uncover svc slot s) (.refl s)
  case subGapOpen svc slot =>
    exact .ite (.settled ((Keeps.modSlot s svc slot _).trans (.openCond _ _ _ _ _))) (.refl s)
  case adTimeOpen svc => exact .ite (.settled (.openCond _ _ _ _ s)) (.refl s)
  case logBufferDue => exact .ite (.modCl s _) (.refl s)
  case verdictCompletion =>
    split
    · exact .refl s
    · next engine => exact .ite (.settled (.completeVerdict engine)) (.refl s)
  case spGrant => exact .ite (.settled (.grantNext _ s)) (.refl s)
  case recordedWriteSuccess =>
    split
    · exact .settled (.recordedSucceeded _ _ s)
    · exact .refl s
  case recordedWriteFailure =>
    split
    · exact .settled (.recordedFailed _ _ _ s)
    · exact .refl s
  case logPageWriteDone ok =>
    split
    · exact .settled (.logWriteEnded _ _ s)
    · exact .refl s
  case directoryWriteDone ok =>
    split
    · exact .settled (.directoryWriteEnded _ _ _ s)
    · exact .refl s
  case storageOperationTimeout =>
    split
    · exact .refl s
    · exact .ite (.settled (.operationFails _ s)) (.refl s)
  case exportReadDone page =>
    split
    · exact .settled (.exportReadEnded _ s)
    · exact .refl s
  case exportFrameEnd =>
    split
    · exact .refl s
    · split
      · exact .settled (.exportFrameEnded _ _ s)
      · exact .refl s
  case lowSupplyAssert =>
    have level := Keeps.modPart s fun p => { p with lowSupply := true }
    exact .ite (.refl s) (.ite (.settled (level.trans (.assertSupply _))) level)
  case lowSupplyDeassert =>
    have level := Keeps.modPart s fun p => { p with lowSupply := false }
    exact .ite (.ite (.settled (level.trans (.deassertSupply _))) level) (.refl s)
  case powerOnReset => exact .resetTo _ s
  case pinReset => exact .resetTo _ s
  case rstResetApplied => exact .ite (.resetTo _ s) (.refl s)
  case probeEnd capacity => exact .ite (.settled (.probeEnds _ s)) (.refl s)
  case mountEnd answers =>
    split
    · exact .settled (.foldl Keeps.mountAnswered _ s)
    · exact .settled (.foldl Keeps.mountAnswered _ s)
    · exact .refl s
  case formatEnd answers =>
    split
    · exact .settled (.foldl Keeps.formatAnswered _ s)
    · exact .refl s
  case lineCharacter code framing => exact .takeCharacter s _
  case lineBreak => exact .breakLine s
  case transmitEnd => exact .settled (.endTransmission s)
  case watchDue slot => exact .settled (.watchFallsDue slot s)
  case unknownVerb text => exact .ite (.settled (.runText _ s)) (.deliver _ s)
  all_goals exact .record _ s

theorem step_keeps {s t : State} (h : step s = .next t) : Keeps s t := by
  unfold step at h
  split at h
  · exact Host.Outcome.next.inj h ▸ .refl s
  · exact (Keeps.besidePort s s.feedBytes s.feedLost s.pending.tail).trans (exec_keeps _ _ t h)

/-- Settles O58: no command of any kind leaves a table with another size. -/
theorem stepKeepsTableSizes : Obligations.StepKeepsTableSizes :=
  fun _ _ sizes runs => (step_keeps runs).sizes sizes

/-- Settles O59: no command of any kind loses a context, or puts one in two places. -/
theorem stepKeepsContextPool : Obligations.StepKeepsContextPool :=
  fun _ _ pool runs => (step_keeps runs).pool pool

end Sys2Proof.Machine
end

section
/-! SUPPORT. What ST hands on after a stack has changed, the end of an event that matches no trigger, and the obligation
of a START marker (R55 to R63, R70). -/

namespace Sys2Proof.Machine

set_option Elab.async false

/-! ### The end of an event that starts no evaluation, or matches no trigger -/

/-- With the engine busy or no context waiting, the end of an event is CL's, AM's, EE's and LC's (R102). -/
theorem settle_logArchive_of_noStart {s : State} (h : s.cu.engine.isSome = true ∨ s.cu.queue = []) :
    OnlyLogArchive s (settle s) := by
  have idle : startVerdict s = s := by
    unfold startVerdict
    split
    · next engine queue => simp [engine, queue] at h
    · rfl
  have ended := settle_logArchive s
  rwa [idle] at ended

/-- A settled part starts no evaluation. -/
theorem noStart_of_settled {s : State} (h : s.settled = true) : s.cu.engine.isSome = true ∨ s.cu.queue = [] := by
  simp only [State.settled, Bool.and_eq_true, Bool.or_eq_true, List.isEmpty_iff] at h
  exact h.1.1.2

/-- An entry whose body is of no trigger's event matches nothing (R164). -/
theorem matchEntry_unfit {e : Entry} (h : ∀ v, eventFits v e.body = false) (s : State) : matchEntry s e = s := by
  have unmatched (t : Trigger) : triggerMatches t e = false := by
    unfold triggerMatches
    split
    · rfl
    · rw [h, Bool.and_false]
  have one (t : State) (k : Nat) : actOnSlot e t k = t := by
    unfold actOnSlot
    split
    · rfl
    · rw [unmatched]; rfl
  have all (l : List Nat) (t : State) : l.foldl (actOnSlot e) t = t := by
    induction l with
    | nil => rfl
    | cons k l ih => rw [List.foldl_cons, one, ih]
  have none_made : entriesOf (fun t => (List.range 8).foldl (actOnSlot e) t) s = 0 := by rw [entriesOf, all]; rfl
  rw [matchEntry, grouped_fits _ _ (by rw [none_made]; exact Nat.zero_le _), all]

/-- The ring after one entry of a settled part that no trigger's event fits (R120, R164). -/
theorem settle_ring_of_unfit {s : State} (settled : s.settled = true) (room : s.cl.exhausted = false) (i : Nat) (b : Body)
    (unfit : ∀ v, eventFits v b = false) :
    (settle (logTake (some i) b s)).cl.ring = ringJoin s.cl.ring (s.entryFor (some i) b) := by
  have taken := logTake_cl (some i) b s room
  have handed : (logTake (some i) b s).cl.handed = [s.entryFor (some i) b] := by
    rw [taken, LogState.take, handed_of_settled settled, List.nil_append]
  have once : fanOut (logTake (some i) b s) = (logTake (some i) b s).modCl fun c => { c with handed := [] } := by
    rw [fanOut, handed, List.foldl_cons, matchEntry_unfit unfit, List.foldl_nil]
  have twice (u : State) : fanOut (u.modCl fun c => { c with handed := [] }) = u.modCl fun c => { c with handed := [] } :=
    fanOut_device (by simp)
  have ended : settle (logTake (some i) b s) = settle ((logTake (some i) b s).modCl fun c => { c with handed := [] }) := by
    simp only [settle, once, twice]
  rw [ended, settle_eq _ (settled_ofLog (logTake_only _ _ s) settled)]
  exact congrArg LogState.ring taken

/-! ### What ST hands on (R70, R92, R114) -/

/-- What the closing of SUB_GAPs keeps of a service. -/
def Service.besideGaps (v : Service) : Segments × Option Requirement × Tally := (v.st, v.sc.requirement, v.tally)

/-- An operation that changes service `i`, keeping `keep` of it, and else the log and the condition table alone. -/
def OnlyService {α : Type} (keep : Service → α) (i : Nat) (s t : State) : Prop :=
  ∃ f : Service → Service, (∀ v, keep (f v) = keep v) ∧ OnlyLog (s.modSvc i f) t

namespace OnlyService

variable {α : Type} {keep : Service → α} {i : Nat} {s t u : State}

theorem refl (s : State) : OnlyService keep i s s := ⟨id, fun _ => rfl, by rw [State.modSvc_id]; exact .refl s⟩

theorem ofLog (h : OnlyLog s t) : OnlyService keep i s t := ⟨id, fun _ => rfl, by rw [State.modSvc_id]; exact h⟩

theorem trans (h : OnlyService keep i s t) (k : OnlyService keep i t u) : OnlyService keep i s u := by
  obtain ⟨f, kept, first⟩ := h
  obtain ⟨g, kept', second⟩ := k
  refine ⟨g ∘ f, fun v => (kept' _).trans (kept v), ?_⟩
  rw [← State.modSvc_modSvc]
  exact (first.modSvc i g).trans second

theorem foldl {γ : Type} {f : State → γ → State} (h : ∀ s a, OnlyService keep i s (f s a)) (l : List γ) (s : State) :
    OnlyService keep i s (l.foldl f s) := by
  induction l generalizing s with
  | nil => exact refl s
  | cons a l ih => exact (h s a).trans (ih _)

end OnlyService

theorem closeGap_onlyService (i k : Nat) (cause : CloseCause) (s : State) :
    OnlyService Service.besideGaps i s (closeGap i k cause s) := by
  unfold closeGap
  split
  · exact ⟨fun v => { v with sc := { v.sc with slots := v.sc.slots.modify k fun t => { t with gapOpen := false } } },
      fun _ => rfl, closeCond_only _ _ _ _ _⟩
  · exact .refl s

theorem closeGaps_onlyService (i : Nat) (s : State) : OnlyService Service.besideGaps i s (closeGaps i s) :=
  (OnlyService.ofLog (logReserve_only _ s)).trans (.foldl (fun t k => closeGap_onlyService i k _ t) _ _)

/-- What a service and the rest hold once ST has handed on a changed stack and the event has ended (R70). -/
structure HandedOff (i : Nat) (u t : State) : Prop where
  pool : t.pool = u.pool
  queue : t.cu.queue = u.cu.queue
  tb : t.tb = u.tb
  sp : t.sp = u.sp
  st : (t.svc i).st = (u.svc i).st
  requirement : (t.svc i).sc.requirement = (u.svc i).st.stack.head?.map StackEntry.requirement
  adverts : (t.svc i).tally.advertCount = kindCount .advert (u.svc i).st.stack
  promos : (t.svc i).tally.promoCount = kindCount .promo (u.svc i).st.stack
  others : ∀ j, j ≠ i → t.svc j = u.svc j

theorem HandedOff.portEmpty {i : Nat} {u t : State} (h : HandedOff i u t) : HandedOff i u { t with feedBytes := [] } :=
  { h with }

/-- SC is handed the innermost requirement, and no stack or tally changes (R70, R92). -/
theorem handRequirement_only (i : Nat) (s : State) : ∃ f : Service → Service, OnlyLog (s.modSvc i f) (handRequirement i s) ∧
    ∀ v, (f v).besideGaps = (v.st, (s.svc i).st.stack.head?.map StackEntry.requirement, v.tally) := by
  have given : OnlyLog (s.modSvc i fun v => { v with sc := { v.sc with
      requirement := (s.svc i).st.stack.head?.map StackEntry.requirement } }) (s.modSc i fun c => { c with
      requirement := (s.svc i).st.stack.head?.map StackEntry.requirement }) := .refl _
  unfold handRequirement
  dsimp only
  split
  · exact ⟨_, given, fun _ => rfl⟩
  · obtain ⟨g, kept, closed⟩ := closeGaps_onlyService i (s.modSc i fun c => { c with
      requirement := (s.svc i).st.stack.head?.map StackEntry.requirement })
    have both := (given.modSvc i g).trans closed
    rw [State.modSvc_modSvc] at both
    exact ⟨_, both, fun v => kept _⟩

/-- A service whose tally has the counts of a stack's ADVERT and PROMO entries (R70, R114). -/
def Service.counted (stack : List StackEntry) (countPromos : Bool) (v : Service) : Service :=
  let tally := { v.tally with advertCount := kindCount .advert stack, promoCount := kindCount .promo stack }
  { v with tally := { tally with active := advertActive tally countPromos } }

theorem handCounts_eq (i : Nat) (s : State) : ∃ countPromos, handCounts i s =
    s.modSvc i (Service.counted (s.svc i).st.stack countPromos) := by
  unfold handCounts deriveActive
  dsimp only
  rw [State.modTally, State.modTally, State.modSvc_modSvc]
  exact ⟨_, rfl⟩

/-- ST's hand-offs and the end of the event leave the pool and the verdict queue when no evaluation starts. -/
theorem settle_handOff {i : Nat} {u : State} (there : i < u.services.length)
    (noStart : u.cu.engine.isSome = true ∨ u.cu.queue = []) : HandedOff i u (settle (handOff i u)) := by
  obtain ⟨f, required, handed⟩ := handRequirement_only i u
  obtain ⟨countPromos, counted⟩ := handCounts_eq i (handRequirement i u)
  have requiredSvc (j : Nat) : (handRequirement i u).svc j = (u.modSvc i f).svc j := by
    rw [State.svc, required.services]; rfl
  have here : (handRequirement i u).svc i = f (u.svc i) := by
    rw [requiredSvc, State.modSvc_svc_same _ _ _ there]
  obtain ⟨st, requirement, -⟩ : (f (u.svc i)).st = (u.svc i).st ∧
      (f (u.svc i)).sc.requirement = (u.svc i).st.stack.head?.map StackEntry.requirement ∧
      (f (u.svc i)).tally = (u.svc i).tally := by
    simpa only [Service.besideGaps, Prod.mk.injEq] using handed (u.svc i)
  have off : handOff i u = handCounts i (handRequirement i u) := rfl
  have noStart' : (handOff i u).cu.engine.isSome = true ∨ (handOff i u).cu.queue = [] := by
    rw [off, counted, State.modSvc_cu, required.engine, required.queue]
    exact noStart
  have ended := settle_logArchive_of_noStart noStart'
  have svc (j : Nat) : (settle (handOff i u)).svc j = (handOff i u).svc j := by
    rw [State.svc, ended.services_eq]; rfl
  have changed : (handOff i u).svc i = (f (u.svc i)).counted (u.svc i).st.stack countPromos := by
    have length : i < (handRequirement i u).services.length := by rw [required.services]; simpa using there
    rw [off, counted, State.modSvc_svc_same _ _ _ length, here, st]
  refine ⟨?_, ?_, ?_, ?_, ?_, ?_, ?_, ?_, fun j other => ?_⟩
  · rw [ended.pool_eq, off, counted, State.modSvc_pool, required.pool, State.modSvc_pool]
  · rw [ended.cu_eq, off, counted, State.modSvc_cu, required.queue, State.modSvc_cu]
  · rw [ended.tb_eq, off, counted, State.modSvc_tb, required.tb, State.modSvc_tb]
  · rw [ended.sp_eq, off, counted, State.modSvc_sp, required.sp, State.modSvc_sp]
  · rw [svc, changed]; exact st
  · rw [svc, changed]; exact requirement
  · rw [svc, changed]; rfl
  · rw [svc, changed]; rfl
  · rw [svc, off, counted, State.modSvc_svc_other _ _ (Ne.symm other), requiredSvc,
      State.modSvc_svc_other _ _ (Ne.symm other)]

/-! ### START markers (R61 to R63) -/

/-- A START marker whose id stands in the stack is a fault (R61). -/
theorem startMarker_again {i id : Nat} {s : State} (h : ∃ e ∈ (s.svc i).st.stack, e.id = id) (kind : SegmentKind)
    (req : Option Requirement) : startMarker i kind id req s = logTake (some i) (.markerFaultStart kind id) s := by
  obtain ⟨e, mem, same⟩ := h
  exact if_pos (List.any_eq_true.mpr ⟨e, mem, decide_eq_true same⟩)

theorem not_any_id {stack : List StackEntry} {id : Nat} (h : ∀ e ∈ stack, e.id ≠ id) :
    ¬ stack.any (fun e => decide (e.id = id)) = true := by
  simpa using h

/-- A fifth entry is counted and not pushed (R61). -/
theorem startMarker_full {i id : Nat} {s : State} (new : ∀ e ∈ (s.svc i).st.stack, e.id ≠ id)
    (full : 4 ≤ (s.svc i).st.stack.length) (kind : SegmentKind) (req : Option Requirement) :
    startMarker i kind id req s = logTake (some i) (.nestFault kind id (min 255 ((s.svc i).st.overflow + 1)))
      (s.modSt i fun x => { x with overflow := min 255 ((s.svc i).st.overflow + 1) }) :=
  (if_neg (not_any_id new)).trans (if_pos full)

/-- The requirement that the marker names, or its kind's default (R62). -/
theorem resolveRequirement_eq (p : Profile) (kind : SegmentKind) (req : Option Requirement) :
    resolveRequirement p kind req = req.getD (p.kindDefaults.getD
      ([SegmentKind.programme, .brk, .advert, .promo, .sponsor, .other].idxOf kind) .exempt) := by
  cases req with
  | some r => rfl
  | none => cases kind <;> rfl

/-- The entry that a START marker opens, with its context (R59, R62). -/
def State.newEntry (s : State) (i : Nat) (kind : SegmentKind) (id : Nat) (req : Option Requirement) (c : Option Nat) :
    StackEntry where
  id := id
  kind := kind
  requirement := req.getD ((s.svc i).profile.kindDefaults.getD
    ([SegmentKind.programme, .brk, .advert, .promo, .sponsor, .other].idxOf kind) .exempt)
  openTick := s.tb.stationTime
  openWall := s.wallNow
  context := c

/-- Any other START marker opens a context for an entry that it pushes (R61). -/
theorem startMarker_pushes {i id : Nat} {s : State} (new : ∀ e ∈ (s.svc i).st.stack, e.id ≠ id)
    (room : (s.svc i).st.stack.length < 4) (kind : SegmentKind) (req : Option Requirement) :
    startMarker i kind id req s =
      let r := openContext i ((s.svc i).st.stack.length + 1) (s.newEntry i kind id req none) false s
      handOff i (r.1.modSt i fun x => { x with stack := s.newEntry i kind id req r.2 :: x.stack }) := by
  unfold State.newEntry
  rw [← resolveRequirement_eq]
  exact (if_neg (not_any_id new)).trans (if_neg (Nat.not_le.mpr room))

/-- The pushed entry once it has been handed on: the service's stack, SC's requirement, CU's counts, and the rest. -/
theorem HandedOff.pushed {i : Nat} {s b t : State} {e : StackEntry} (there : i < s.services.length)
    (services : b.services = s.services) (tb : b.tb = s.tb) (sp : b.sp = s.sp)
    (h : HandedOff i (b.modSt i fun x => { x with stack := e :: x.stack }) t) :
    (t.svc i).st = { (s.svc i).st with stack := e :: (s.svc i).st.stack } ∧
      (t.svc i).sc.requirement = some e.requirement ∧
      (t.svc i).tally.advertCount = kindCount .advert (e :: (s.svc i).st.stack) ∧
      (t.svc i).tally.promoCount = kindCount .promo (e :: (s.svc i).st.stack) ∧
      (∀ j, j ≠ i → t.svc j = s.svc j) ∧ t.tb = s.tb ∧ t.sp = s.sp := by
  have before (j : Nat) : b.svc j = s.svc j := by rw [State.svc, services]; rfl
  have st : ((b.modSt i fun x => { x with stack := e :: x.stack }).svc i).st =
      { (s.svc i).st with stack := e :: (s.svc i).st.stack } := by
    rw [State.modSt, State.modSvc_svc_same _ _ _ (services ▸ there), before]
  obtain ⟨-, -, sameTb, sameSp, sameSt, requirement, adverts, promos, others⟩ := h
  rw [st] at sameSt requirement adverts promos
  exact ⟨sameSt, requirement, adverts, promos,
    fun j other => (others j other).trans ((State.modSvc_svc_other _ _ (Ne.symm other)).trans (before j)),
    sameTb.trans tb, sameSp.trans sp⟩

theorem routeUnit_markStart (i id : Nat) (kind : SegmentKind) (req : Option Requirement) (s : State) :
    routeUnit i (.markStart kind id req) s = startMarker i kind id req s := rfl

/-- The port holds nothing once a whole unit has been taken. -/
theorem SameCore.portEmpty {s t : State} (h : SameCore s t) (empty : s.feedBytes = []) :
    SameCore s { t with feedBytes := [] } := { h with feedBytes := empty.symm }

/-- Settles O13: a fault and a fifth entry leave one entry in the log; else the pushed entry is handed on, and the pool is
as its context's opening leaves it. -/
theorem startMarkersOpenEntries : Obligations.StartMarkersOpenEntries := by
  unfold Obligations.StartMarkersOpenEntries
  intro bytes s i kind id req takes settled
  have taken := unitTaken_of_takes takes
  have there : i < s.services.length := by rw [taken.sixteen]; exact taken.inRange
  have runs := exec_feedUnit_takes takes
  rw [routeUnit_markStart] at runs
  have noStart := noStart_of_settled settled
  intro stack resolved pushed handed
  refine ⟨fun again => ?_, fun new full => ?_, fun new room => ⟨fun empty => ?_, fun c rest top exists_ctx => ?_⟩⟩
  · rw [startMarker_again again] at runs
    exact ⟨_, runs, ((logTake_same _ _ s).trans (settle_same _)).portEmpty taken.portEmpty, fun unmarked =>
      settle_ring_of_unfit settled unmarked _ _ fun v => by cases v <;> rfl⟩
  · rw [startMarker_full new full] at runs
    exact ⟨_, runs, ((logTake_same _ _ _).trans (settle_same _)).portEmpty taken.portEmpty, fun unmarked =>
      settle_ring_of_unfit (s := s.modSt i _) settled unmarked _ _ fun v => by cases v <;> rfl⟩
  · rw [startMarker_pushes new room, openContext_empty empty] at runs
    dsimp only at runs
    have entered := logTake_only (some i) (.poolEmpty (s.newEntry i kind id req none).kind
      (s.newEntry i kind id req none).id ((s.svc i).st.stack.length + 1) false) s
    generalize logTake (some i) (.poolEmpty (s.newEntry i kind id req none).kind _ _ false) s = b at runs entered
    have off : HandedOff i (b.modSt i fun x => { x with stack := s.newEntry i kind id req none :: x.stack }) _ :=
      settle_handOff (by rw [State.modSt, State.modSvc_services, List.length_modify, entered.services]; exact there)
        (by rw [State.modSt, State.modSvc_cu, entered.engine, entered.queue]; exact noStart)
    generalize settle (handOff i _) = t at runs off
    have entry := off.portEmpty.pushed there entered.services entered.tb entered.sp
    exact ⟨_, runs, off.pool.trans entered.pool, entry⟩
  · rw [startMarker_pushes new room, openContext_fresh top] at runs
    dsimp only at runs
    have off := settle_handOff (u := (((s.modPool fun p => { p with free := rest }).modCtx c fun _ =>
        freshContext i ((s.svc i).st.stack.length + 1) s.now s.wallNow (s.newEntry i kind id req none) false).modSt i
        fun x => { x with stack := s.newEntry i kind id req (some c) :: x.stack }))
      (by rw [State.modSt, State.modSvc_services, List.length_modify]; exact there) noStart
    generalize settle (handOff i _) = t at runs off
    have entry := off.portEmpty.pushed (s := s) there (by rfl) (by rfl) (by rfl)
    have ctx (d : Nat) := congrArg (fun p : Pool => p.contexts.getD d .reset) off.pool
    refine ⟨_, runs, congrArg Pool.free off.pool, entry, fun d other => (ctx d).trans ?_, (ctx c).trans ?_⟩
    · exact State.modCtx_ctx_other _ _ (Ne.symm other)
    · exact State.modCtx_ctx_same _ exists_ctx

end Sys2Proof.Machine
end

section
/-! SUPPORT. The closing of several entries, innermost first, and the obligation of an END marker (R64 to R70). -/

namespace Sys2Proof.Machine

set_option Elab.async false

/-! ### Entries that close one after another (R65, R67) -/

/-- The innermost entries close in turn, each with its own cause. -/
def closings (i : Nat) (causes : List SegmentCause) (s : State) : State :=
  causes.foldl (fun t cause => closeInnermost i cause t) s

theorem closeInner_eq_closings (i : Nat) (cause : SegmentCause) (n : Nat) (s : State) :
    closeInner i cause n s = closings i (List.replicate n cause) s := by
  induction n generalizing s with
  | zero => rfl
  | succ n ih => exact ih _

/-- The causes with which an END marker closes the entries from the innermost to the one at `k` (R65). -/
def endCauses (k : Nat) : List SegmentCause := List.replicate k .cascade ++ [.ended]

theorem endCauses_length (k : Nat) : (endCauses k).length = k + 1 := by simp [endCauses]

theorem endCauses_getElem? {j k : Nat} (h : j ≤ k) :
    (endCauses k)[j]? = some (if j = k then .ended else .cascade) := by
  rcases Nat.lt_or_ge j k with inner | outer
  · rw [endCauses, List.getElem?_append_left (by simpa using inner), if_neg (Nat.ne_of_lt inner)]
    simp [inner]
  · obtain rfl := Nat.le_antisymm h outer
    simp [endCauses]

/-- The contexts of the `n` innermost entries of service `i`. -/
def State.innerContexts (s : State) (i n : Nat) : List Nat := ((s.svc i).st.stack.take n).filterMap StackEntry.context

/-- What the closing of a service's innermost entries, with one cause each, makes of a state. -/
structure EntriesClosed (i : Nat) (causes : List SegmentCause) (s t : State) : Prop where
  st : (t.svc i).st = { (s.svc i).st with stack := (s.svc i).st.stack.drop causes.length }
  others : ∀ j, j ≠ i → t.svc j = s.svc j
  length : t.services.length = s.services.length
  tb : t.tb = s.tb
  sp : t.sp = s.sp
  free : t.pool.free = s.pool.free
  contexts : t.pool.contexts.length = s.pool.contexts.length
  engine : t.cu.engine = s.cu.engine
  queue : t.cu.queue = s.cu.queue ++ s.innerContexts i causes.length
  running : ∀ d, (t.ctx d).running = (s.ctx d).running
  untouched : ∀ d, d ∉ s.innerContexts i causes.length → t.ctx d = s.ctx d
  closed : (s.innerContexts i causes.length).Nodup →
    (∀ c ∈ s.innerContexts i causes.length, c < s.pool.contexts.length) →
    ∀ (j : Nat) (e : StackEntry) (c : Nat) (cause : SegmentCause),
      (s.svc i).st.stack[j]? = some e → e.context = some c → causes[j]? = some cause →
      ∃ gaps, t.ctx c = (s.ctx c).closed s.now s.wallNow cause
        (s.referenceFor (s.ctx c).kind ((s.svc i).st.stack.drop (j + 1))) gaps

/-- No entry closes from an empty stack. -/
theorem closeInnermost_empty {i : Nat} {s : State} (h : (s.svc i).st.stack = []) (cause : SegmentCause) :
    closeInnermost i cause s = s := by
  rw [closeInnermost, h]

theorem closeInnermost_cons {i : Nat} {s : State} {e : StackEntry} {outward : List StackEntry}
    (h : (s.svc i).st.stack = e :: outward) (cause : SegmentCause) : closeInnermost i cause s =
      (closeEntry i e (outward.length + 1) outward cause s).modSt i fun t => { t with stack := outward } := by
  rw [closeInnermost, h]

/-- The reference reads the running values alone (R68). -/
theorem referenceFor_congr {s t : State} (h : ∀ d, (t.ctx d).running = (s.ctx d).running) (kind : SegmentKind)
    (outward : List StackEntry) : t.referenceFor kind outward = s.referenceFor kind outward := by
  simp only [State.referenceFor, h]

namespace EntriesClosed

variable {i : Nat} {s t u : State}

theorem none (i : Nat) (s : State) : EntriesClosed i [] s s := by
  constructor <;> intros <;> simp_all [State.innerContexts]

/-- One entry closes: its context, if it has one, closes and joins the verdict queue (R64, R67, R69). -/
theorem one {e : StackEntry} {outward : List StackEntry} (h : (s.svc i).st.stack = e :: outward) (cause : SegmentCause) :
    EntriesClosed i [cause] s (closeInnermost i cause s) := by
  have there := lt_of_stack_ne_nil (i := i) (s := s) (by simp [h])
  have within := closeInnermost_within i cause s
  have st : ((closeInnermost i cause s).svc i).st = { (s.svc i).st with stack := (s.svc i).st.stack.drop 1 } := by
    rw [closeInnermost_st i cause s there, List.drop_one]
  have inner : s.innerContexts i 1 = e.context.toList := by
    rw [State.innerContexts, h]
    cases context : e.context <;> simp [context]
  have first {j : Nat} {f : StackEntry} {c : Nat} {other : SegmentCause} (entry : (s.svc i).st.stack[j]? = some f)
      (context : f.context = some c) (caused : [cause][j]? = some other) :
      j = 0 ∧ e.context = some c ∧ other = cause := by
    obtain rfl : j = 0 := by
      have := (List.getElem?_eq_some_iff.mp caused).1
      simpa using this
    rw [h] at entry
    simp_all
  rw [closeInnermost_cons h] at st within ⊢
  cases context : e.context with
  | none =>
    have entered := logTake_only (some i) (.segUnmeasured e.kind e.id (outward.length + 1) e.openTick e.openWall s.now
      cause) s
    rw [closeEntry_unmeasured context] at st within ⊢
    have pool := entered.pool
    have ctx (d : Nat) := congrArg (fun p : Pool => p.contexts.getD d .reset) pool
    refine ⟨st, within.others, within.length, within.tb, within.sp, congrArg Pool.free pool,
      congrArg (fun p : Pool => p.contexts.length) pool, entered.engine, ?_, fun d => congrArg Context.running (ctx d),
      fun d _ => ctx d, fun _ _ j f c other entry measured caused => ?_⟩
    · rw [List.length_singleton, inner, context, Option.toList_none, List.append_nil]
      exact entered.queue
    · rw [(first entry measured caused).2.1] at context
      cases context
  | some c =>
    obtain ⟨gaps, closed⟩ := closeEntry_measured_eq context i (outward.length + 1) outward cause s
    rw [closed] at st within ⊢
    rw [context, Option.toList_some] at inner
    refine ⟨st, within.others, within.length, within.tb, within.sp, rfl, List.length_modify .., rfl, ?_,
      fun d => State.modCtx_ctx_keeps Context.running s c d fun _ => rfl, fun d other => ?_,
      fun _ exists_ctx j f d other entry measured caused => ?_⟩
    · rw [List.length_singleton, inner]
      rfl
    · rw [List.length_singleton, inner, List.mem_singleton] at other
      exact State.modCtx_ctx_other _ _ (Ne.symm other)
    · obtain ⟨rfl, same, rfl⟩ := first entry measured caused
      obtain rfl := Option.some.inj (context.symm.trans same)
      rw [List.length_singleton, inner] at exists_ctx
      rw [h]
      exact ⟨_, State.modCtx_ctx_same _ (exists_ctx c List.mem_cons_self)⟩

/-- The closing of one entry, and of those outside it. -/
theorem cons {cause : SegmentCause} {causes : List SegmentCause} (h : EntriesClosed i [cause] s t)
    (k : EntriesClosed i causes t u) : EntriesClosed i (cause :: causes) s u := by
  have stack : (t.svc i).st.stack = (s.svc i).st.stack.drop 1 := congrArg Segments.stack h.st
  have inner : s.innerContexts i (cause :: causes).length = s.innerContexts i 1 ++ t.innerContexts i causes.length := by
    rw [State.innerContexts, State.innerContexts, State.innerContexts, stack, ← List.filterMap_append, ← List.take_add,
      List.length_cons, Nat.add_comm]
  have wall : t.wallNow = s.wallNow := by rw [State.wallNow, State.wallNow, State.now, State.now, h.tb]
  refine
    { st := by rw [k.st, h.st, List.drop_drop, List.length_singleton, Nat.add_comm 1]; rfl
      others := fun j other => (k.others j other).trans (h.others j other)
      length := k.length.trans h.length
      tb := k.tb.trans h.tb
      sp := k.sp.trans h.sp
      free := k.free.trans h.free
      contexts := k.contexts.trans h.contexts
      engine := k.engine.trans h.engine
      queue := by rw [k.queue, h.queue, inner, List.append_assoc]; rfl
      running := fun d => (k.running d).trans (h.running d)
      untouched := fun d outside => ?_
      closed := fun distinct exists_ctx j e c cause' entry context caused => ?_ }
  · rw [inner, List.mem_append, not_or] at outside
    exact (k.untouched d outside.2).trans (h.untouched d outside.1)
  · rw [inner] at distinct exists_ctx
    obtain ⟨distinct1, distinct2, disjoint⟩ := List.nodup_append.mp distinct
    cases j with
    | zero =>
      have mem : c ∈ s.innerContexts i 1 := by
        refine List.mem_filterMap.mpr ⟨e, ?_, context⟩
        exact List.mem_of_getElem? (i := 0) (by simpa using entry)
      have later : c ∉ t.innerContexts i causes.length := fun again => disjoint c mem c again rfl
      rw [k.untouched c later]
      exact h.closed distinct1 (fun d hd => exists_ctx d (List.mem_append_left _ hd)) 0 e c cause' entry context caused
    | succ j =>
      have entry' : (t.svc i).st.stack[j]? = some e := by rw [stack]; simpa [Nat.add_comm] using entry
      have caused' : causes[j]? = some cause' := by simpa using caused
      have mem : c ∈ t.innerContexts i causes.length := by
        refine List.mem_filterMap.mpr ⟨e, List.mem_of_getElem? (i := j) ?_, context⟩
        rw [List.getElem?_take_of_lt (List.getElem?_eq_some_iff.mp caused').1]
        exact entry'
      have before : c ∉ s.innerContexts i 1 := fun again => disjoint c again c mem rfl
      obtain ⟨gaps, closed⟩ := k.closed distinct2
        (fun d hd => h.contexts ▸ exists_ctx d (List.mem_append_right _ hd)) j e c cause' entry' context caused'
      rw [referenceFor_congr h.running, h.untouched c before, stack, List.drop_drop, wall, State.now, h.tb,
        Nat.add_comm 1] at closed
      exact ⟨gaps, closed⟩

/-- Numbers reserved for a group are the log's alone (R121). -/
theorem ofReserve {causes : List SegmentCause} {n : Nat} (h : EntriesClosed i causes (logReserve n s) t) :
    EntriesClosed i causes s t := by
  unfold logReserve at h
  split at h
  · exact ⟨h.st, h.others, h.length, h.tb, h.sp, h.free, h.contexts, h.engine, h.queue, h.running, h.untouched, h.closed⟩
  · exact h

end EntriesClosed

/-- The closings of no more entries than stand in the stack. -/
theorem closings_spec (i : Nat) (causes : List SegmentCause) (s : State)
    (enough : causes.length ≤ (s.svc i).st.stack.length) : EntriesClosed i causes s (closings i causes s) := by
  induction causes generalizing s with
  | nil => exact .none i s
  | cons cause causes ih =>
    cases stack : (s.svc i).st.stack with
    | nil => simp [stack] at enough
    | cons e outward =>
      have first := EntriesClosed.one stack cause
      refine first.cons (ih _ ?_)
      rw [first.st, stack]
      simpa [stack] using enough

/-! ### END markers (R64 to R66) -/

/-- An END marker whose id stands in the stack closes the entries down to it (R64, R65). -/
theorem endMarker_found {i id k : Nat} {s : State}
    (h : (s.svc i).st.stack.findIdx? (fun e => decide (e.id = id)) = some k) : ∃ n,
    endMarker i id s = handOff i (closings i (endCauses k) (logReserve n s)) := by
  unfold endMarker
  simp only [h]
  rw [closeInner_eq_closings]
  refine ⟨unmeasuredCount ((s.svc i).st.stack.take (k + 1)), congrArg (handOff i) ?_⟩
  rw [endCauses, closings, closings, List.foldl_append]
  rfl

theorem endMarker_unfound {i id : Nat} {s : State} (h : ∀ e ∈ (s.svc i).st.stack, e.id ≠ id) : endMarker i id s =
    if 0 < (s.svc i).st.overflow then s.modSt i fun x => { x with overflow := x.overflow - 1 }
    else logTake (some i) (.markerFaultEnd id) s := by
  have none_found : (s.svc i).st.stack.findIdx? (fun e => decide (e.id = id)) = none := by
    rw [List.findIdx?_eq_none_iff]
    exact fun e he => decide_eq_false (h e he)
  unfold endMarker
  simp only [none_found]

theorem routeUnit_markEnd (i id : Nat) (s : State) : routeUnit i (.markEnd id) s = endMarker i id s := rfl

/-- What the model's reference is, kind by kind (R68). -/
theorem referenceFor_eq (s : State) (kind : SegmentKind) (outward : List StackEntry) :
    s.referenceFor kind outward = (match kind with
      | .advert | .promo | .sponsor =>
        (outward.findSome? fun o => if o.kind = .programme then o.context else none).bind fun o => (s.ctx o).running
      | _ => none) := by
  cases kind <;> rfl

/-- A close's cause sets TRUNCATED of the entries inside, and no flag of the entry itself (R67). -/
theorem closedBy_endCause (f : ContextFlags) {j k : Nat} (h : j ≤ k) :
    f.closedBy (if j = k then .ended else .cascade) = { f with truncated := f.truncated || decide (j < k) } := by
  rcases Nat.lt_or_ge j k with inner | outer
  · simp [Nat.ne_of_lt inner, inner, ContextFlags.closedBy]
  · obtain rfl := Nat.le_antisymm h outer
    simp [ContextFlags.closedBy]

/-- The part after an END marker whose entry is found: the entries down to it closed, and the change handed on. -/
theorem endMarker_closes {i id k : Nat} {s : State} (there : i < s.services.length)
    (found : (s.svc i).st.stack.findIdx? (fun e => decide (e.id = id)) = some k) (busy : s.cu.engine.isSome = true) :
    ∃ u, EntriesClosed i (endCauses k) s u ∧ HandedOff i u (settle (endMarker i id s)) := by
  obtain ⟨n, ended⟩ := endMarker_found found
  have enough : (endCauses k).length ≤ ((logReserve n s).svc i).st.stack.length := by
    obtain ⟨inside, -⟩ := List.findIdx?_eq_some_iff_getElem.mp found
    rw [endCauses_length, State.svc, (logReserve_only n s).services]
    exact inside
  have closed := (closings_spec i (endCauses k) (logReserve n s) enough).ofReserve
  rw [ended]
  exact ⟨_, closed, settle_handOff (closed.length.symm ▸ there) (.inl (closed.engine ▸ busy))⟩

/-- Settles O14: the entries down to the marker's close in turn and the change is handed on; else the overflow count or a
fault takes the marker, and the stack stands. -/
theorem endMarkersCloseEntries : Obligations.EndMarkersCloseEntries := by
  unfold Obligations.EndMarkersCloseEntries
  intro bytes s i id takes
  have taken := unitTaken_of_takes takes
  have there : i < s.services.length := by rw [taken.sixteen]; exact taken.inRange
  have runs := exec_feedUnit_takes takes
  rw [routeUnit_markEnd] at runs
  intro stack
  refine ⟨fun k found busy => ?_, fun unfound => ?_⟩
  · intro closed distinct exists_ctx
    obtain ⟨u, entries, off⟩ := endMarker_closes there found busy
    generalize settle (endMarker i id s) = t at runs off
    have ctx (d : Nat) : t.ctx d = u.ctx d := congrArg (fun p : Pool => p.contexts.getD d .reset) off.pool
    have inner : s.innerContexts i (endCauses k).length = closed := by rw [endCauses_length]; rfl
    have left : (u.svc i).st.stack = stack.drop (k + 1) := by rw [entries.st, endCauses_length]
    have requirement := off.requirement
    have adverts := off.adverts
    have promos := off.promos
    rw [left] at requirement adverts promos
    refine ⟨_, runs, off.st.trans (by rw [entries.st, endCauses_length]), ?_,
      (congrArg Pool.free off.pool).trans entries.free, fun j e c inside entry context => ?_, fun d outside => ?_,
      requirement, adverts, promos, fun j other => (off.others j other).trans (entries.others j other),
      off.tb.trans entries.tb, off.sp.trans entries.sp⟩
    · exact off.queue.trans (by rw [entries.queue, inner])
    · obtain ⟨gaps, record⟩ := entries.closed (by rw [inner]; exact distinct) (by rw [inner]; exact exists_ctx) j e c _
        entry context (endCauses_getElem? inside)
      have after := (ctx c).trans record
      exact ⟨congrArg Context.state after, congrArg Context.closeTick after, congrArg Context.closeWall after,
        congrArg Context.cause after, (congrArg Context.flags after).trans (closedBy_endCause _ inside),
        (congrArg Context.reference after).trans (referenceFor_eq _ _ _)⟩
    · exact (ctx d).trans (entries.untouched d (by rw [inner]; exact outside))
  · rw [endMarker_unfound unfound] at runs
    refine ⟨fun counted => ?_, fun none_counted => ?_⟩
    · rw [if_pos counted] at runs
      exact ⟨_, runs, (settle_same _).portEmpty taken.portEmpty⟩
    · rw [if_neg (by omega)] at runs
      exact ⟨_, runs, ((logTake_same _ _ s).trans (settle_same _)).portEmpty taken.portEmpty, fun settled unmarked =>
        settle_ring_of_unfit settled unmarked _ _ fun v => by cases v <;> rfl⟩

end Sys2Proof.Machine
end

section
/-! SUPPORT. The slots and the pending cues of a service, and the obligations of CARRY, CUE and CLEAR units (R76, R78,
R79, R81, R82, R85). -/

namespace Sys2Proof.Machine

/-! ### Updates of one slot -/

/-- Two changes that agree on an element, or on what a missing one reads as, are the same change of it. -/
theorem modify_congr_getD {α : Type} {l : List α} {k : Nat} {d : α} {f g : α → α}
    (h : f (l.getD k d) = g (l.getD k d)) : l.modify k f = l.modify k g := by
  refine List.ext_getElem? fun j => ?_
  rw [List.getElem?_modify, List.getElem?_modify]
  rcases eq_or_ne k j with rfl | other
  · cases there : l[k]? with
    | none => rfl
    | some x =>
      rw [List.getD_eq_getElem?_getD, there] at h
      simpa using h
  · simp [other]

theorem State.modSlot_congr {s : State} {i k : Nat} {f g : Slot → Slot} (h : f (s.slot i k) = g (s.slot i k)) :
    s.modSlot i k f = s.modSlot i k g :=
  State.modSvc_congr (congrArg (fun l => { s.svc i with sc := { (s.svc i).sc with slots := l } }) (modify_congr_getD h))

/-- A change that leaves a slot as it is leaves the state. -/
theorem State.modSlot_eq_self {s : State} {i k : Nat} {f : Slot → Slot} (h : f (s.slot i k) = s.slot i k) :
    s.modSlot i k f = s := by
  rw [State.modSlot_congr (g := id) h]
  exact State.modSvc_eq_self (by simp)

/-- Two changes of one slot are one change. -/
theorem State.modSlot_modSlot (s : State) (i k : Nat) (f g : Slot → Slot) :
    (s.modSlot i k f).modSlot i k g = s.modSlot i k (g ∘ f) := by
  simp only [State.modSlot, State.modSc, State.modSvc_modSvc, Function.comp_def, List.modify_modify_eq]

/-- A slot's update reads back at that slot, when it exists. -/
theorem State.modSlot_slot_same {s : State} {i k : Nat} (f : Slot → Slot) (hi : i < s.services.length)
    (hk : k < (s.svc i).sc.slots.length) : (s.modSlot i k f).slot i k = f (s.slot i k) := by
  simp only [State.slot, State.modSlot, State.modSc, State.modSvc_svc_same _ _ _ hi]
  simp [List.getD_eq_getElem?_getD, hk]

/-- A slot's update leaves the other slots. -/
theorem State.modSlot_slot_other (s : State) (i : Nat) {k j : Nat} (f : Slot → Slot) (h : k ≠ j) :
    (s.modSlot i k f).slot i j = s.slot i j :=
  State.modSvc_svc_keeps (fun v => v.sc.slots.getD j .reset) s i i fun v => by
    simp [List.getD_eq_getElem?_getD, h]

/-- What a change of a slot keeps of every slot it keeps of the one that reads back, the missing one too. -/
theorem State.modSlot_slot_keeps {α : Type} (g : Slot → α) (s : State) (i k j : Nat) {f : Slot → Slot}
    (h : ∀ x, g (f x) = g x) : g ((s.modSlot i k f).slot i j) = g (s.slot i j) :=
  State.modSvc_svc_keeps (fun v => g (v.sc.slots.getD j .reset)) s i i fun v => by
    rcases eq_or_ne k j with rfl | other
    · cases there : v.sc.slots[k]? <;> simp [List.getD_eq_getElem?_getD, there, h]
    · simp [List.getD_eq_getElem?_getD, other]

/-! ### SC's marks (R79, R92, R93) -/

/-- Whether its mark was set or not, SUB_LAPSED's closing clears the mark, and else is CU's (R79, R93). -/
theorem closeLapsed_only (i k : Nat) (cause : CloseCause) (s : State) :
    OnlyLog (s.modSlot i k fun x => { x with lapsedOpen := false }) (closeLapsed i k cause s) := by
  unfold closeLapsed
  split
  · exact closeCond_only _ _ _ _ _
  · next clear =>
    have unmarked : (s.slot i k).lapsedOpen = false := by simpa using clear
    rw [State.modSlot_eq_self (by rw [← unmarked])]
    exact .refl s

/-- Whether its mark was set or not, SUB_GAP's closing clears the mark, and else is CU's (R92, R93). -/
theorem closeGap_only (i k : Nat) (cause : CloseCause) (s : State) :
    OnlyLog (s.modSlot i k fun x => { x with gapOpen := false }) (closeGap i k cause s) := by
  unfold closeGap
  split
  · exact closeCond_only _ _ _ _ _
  · next clear =>
    have unmarked : (s.slot i k).gapOpen = false := by simpa using clear
    rw [State.modSlot_eq_self (by rw [← unmarked])]
    exact .refl s

/-- SUB_LAPSED of a slot with SC's mark is not open once it closes. -/
theorem closeLapsed_isOpen {i k : Nat} {s : State} (marked : (s.slot i k).lapsedOpen = true) (cause : CloseCause) :
    (closeLapsed i k cause s).isOpen (some i) .subLapsed (some k) = false := by
  rw [closeLapsed, if_pos marked]
  exact closeCond_isOpen_same _ _ _ _ _

/-- Without SC's mark SUB_LAPSED's closing changes nothing. -/
theorem closeLapsed_unmarked {i k : Nat} {s : State} (clear : (s.slot i k).lapsedOpen = false) (cause : CloseCause) :
    closeLapsed i k cause s = s := by
  rw [closeLapsed, if_neg (by simp [clear])]

/-- SUB_GAP of a slot with SC's mark is not open once it closes. -/
theorem closeGap_isOpen {i k : Nat} {s : State} (marked : (s.slot i k).gapOpen = true) (cause : CloseCause) :
    (closeGap i k cause s).isOpen (some i) .subGap (some k) = false := by
  rw [closeGap, if_pos marked]
  exact closeCond_isOpen_same _ _ _ _ _

/-! ### CARRY (R76, R78, R79) -/

theorem routeUnit_carry (i k : Nat) (s : State) : routeUnit i (.carry k) s = carryUnit i k s := rfl

/-- A CARRY unit moves the slot's carriage and clears SC's mark for SUB_LAPSED, and else is CU's. -/
theorem carryUnit_only (i k : Nat) (s : State) :
    OnlyLog (s.modSlot i k fun x => { x.carry s.now with lapsedOpen := false }) (carryUnit i k s) := by
  have closed := closeLapsed_only i k .carried (s.modSlot i k fun x => x.carry s.now)
  rw [State.modSlot_modSlot] at closed
  exact closed

/-- Carriage itself leaves SC's marks (R76, R78, R79). -/
theorem Slot.carry_lapsedOpen (x : Slot) (now : Nat) : (x.carry now).lapsedOpen = x.lapsedOpen := by
  unfold Slot.carry
  split
  · rfl
  · split <;> rfl
  · rfl
  · rfl

theorem carried_lapsedOpen (i k : Nat) (s : State) :
    ((s.modSlot i k fun x => x.carry s.now).slot i k).lapsedOpen = (s.slot i k).lapsedOpen :=
  State.modSlot_slot_keeps Slot.lapsedOpen s i k k fun x => x.carry_lapsedOpen s.now

/-- Settles O15: the slot's carriage moves, state by state, and SUB_LAPSED closes where SC's mark is set. -/
theorem carryUnitsMoveCarriage : Obligations.CarryUnitsMoveCarriage := by
  unfold Obligations.CarryUnitsMoveCarriage
  intro bytes s i k takes
  have runs := exec_feedUnit_takes takes
  rw [routeUnit_carry] at runs
  have carried := carryUnit_only i k s
  have ends := settle_same (carryUnit i k s)
  generalize settle (carryUnit i k s) = t at runs ends
  refine ⟨_, runs, (ends.services.trans carried.services).trans ?_, fun marked _ => ?_, fun clear => ?_,
    ends.tb.trans carried.tb, ends.sp.trans carried.sp, ends.free.trans (congrArg Pool.free carried.pool :),
    ends.extents.trans (congrArg Archive.extents carried.am), ends.writeQueue.trans carried.writeQueue⟩
  · refine congrArg (fun f => (s.modSlot i k f).services) (funext fun x => ?_)
    obtain ⟨carriage, _⟩ := x
    cases carriage with
    | absent | carried | lapsed => rfl
    | acquiring => simp only [Slot.carry]; split <;> rfl
  · refine (isOpen_congr ends.conditions _ _ _).trans (closeLapsed_isOpen ?_ _)
    rw [carried_lapsedOpen, marked]
  · refine ends.conditions.trans ?_
    rw [carryUnit, closeLapsed_unmarked (by rw [carried_lapsedOpen, clear])]
    rfl

/-! ### The pending cue queue (R81, R82) -/

theorem Cue.named_eq (d : Cue) (slot id : Nat) : d.named slot id = decide (d.slot = slot ∧ d.id = id) :=
  (Bool.decide_and ..).symm

/-- A cue is placed behind every cue that shows at or before its own show time (R81). -/
theorem placeCue_eq (c : Cue) (q : List Cue) :
    placeCue c q = q.takeWhile (fun d => reached c.showTick d.showTick) ++
      c :: q.dropWhile fun d => reached c.showTick d.showTick := by
  induction q with
  | nil => rfl
  | cons d q ih =>
    cases before : reached c.showTick d.showTick with
    | true => simp [placeCue, before, ih]
    | false => simp [placeCue, before]

/-- The overflow episode stays open only with 16 cues or more (R82). -/
theorem closeEpisode_eq (c : Subtitles) :
    c.closeEpisode = { c with episode := c.episode && decide (16 ≤ c.queue.length) } := by
  unfold Subtitles.closeEpisode Config.cueCount
  split
  · next few => simp [Nat.not_le.mpr few]
  · next many => simp [Nat.not_lt.mp many]

/-- A cue whose slot and id stand in the queue replaces that one (R81). -/
theorem cueUnit_replaces {i : Nat} {c : Cue} {s : State}
    (again : (s.svc i).sc.queue.any (fun d => d.named c.slot c.id) = true) : cueUnit i c s =
      s.modSc i fun x => { x with queue := placeCue c ((s.svc i).sc.queue.filter fun d => !d.named c.slot c.id) } :=
  if_pos again

/-- A new cue is placed while fewer than 16 wait (R81). -/
theorem cueUnit_places {i : Nat} {c : Cue} {s : State}
    (new : (s.svc i).sc.queue.any (fun d => d.named c.slot c.id) = false) (room : (s.svc i).sc.queue.length < 16) :
    cueUnit i c s = s.modSc i fun x => { x with queue := placeCue c (s.svc i).sc.queue } :=
  (if_neg (by simp [new])).trans (if_pos room)

/-- A new cue is refused with 16 waiting (R82). -/
theorem cueUnit_refuses {i : Nat} {c : Cue} {s : State}
    (new : (s.svc i).sc.queue.any (fun d => d.named c.slot c.id) = false) (full : 16 ≤ (s.svc i).sc.queue.length) :
    cueUnit i c s = refuseCue i c s :=
  (if_neg (by simp [new])).trans (if_neg (Nat.not_lt.mpr full))

/-- With an overflow episode open a refusal changes nothing (R82). -/
theorem refuseCue_again {i : Nat} {s : State} (opened : (s.svc i).sc.episode = true) (c : Cue) : refuseCue i c s = s :=
  if_pos opened

/-- The first refusal of an overflow episode opens it and is reported (R82). -/
theorem refuseCue_first {i : Nat} {s : State} (closed : (s.svc i).sc.episode = false) (c : Cue) :
    refuseCue i c s =
      logTake (some i) (.cueOverflow c.slot c.id c.showTick) (s.modSc i fun x => { x with episode := true }) :=
  if_neg (by simp [closed])

/-- After a refusal the overflow episode is open (R82). -/
theorem refuseCue_same (i : Nat) (c : Cue) (s : State) :
    SameCore (s.modSc i fun x => { x with episode := true }) (refuseCue i c s) := by
  cases episode : (s.svc i).sc.episode with
  | true =>
    rw [refuseCue_again episode, State.modSc, State.modSvc_eq_self (by rw [← episode])]
    exact .refl s
  | false =>
    rw [refuseCue_first episode]
    exact logTake_same _ _ _

/-- The first refusal of an overflow episode alone leaves an entry (R82). -/
theorem settle_refuseCue_ring {s : State} (settled : s.settled = true) (room : s.cl.exhausted = false) (i : Nat)
    (c : Cue) : (settle (refuseCue i c s)).cl.ring =
      if (s.svc i).sc.episode = true then s.cl.ring
      else ringJoin s.cl.ring (s.entryFor (some i) (.cueOverflow c.slot c.id c.showTick)) := by
  cases episode : (s.svc i).sc.episode with
  | true =>
    rw [refuseCue_again episode, settle_eq s settled]
    rfl
  | false =>
    rw [refuseCue_first episode]
    exact settle_ring_of_unfit (s := s.modSc i fun x => { x with episode := true }) settled room i _ fun v => by
      cases v <;> rfl

/-! ### CUE and CLEAR (R81, R82, R85) -/

theorem routeUnit_cue (i slot id off dur chars : Nat) (s : State) :
    routeUnit i (.cue slot id off dur chars) s = cueUnit i (cueOf s.now slot id off dur chars) s := rfl

theorem routeUnit_clear (i slot id : Nat) (s : State) : routeUnit i (.clear slot id) s = clearUnit i slot id s := rfl

/-- A CLEAR unit ends the slot's showing cue when that has the unit's id (R85). -/
theorem clearUnit_eq_ite (i k id : Nat) (s : State) : clearUnit i k id s =
    (if (s.slot i k).showing.map Showing.id = some id then uncover i k s else s).modSc i fun x =>
      Subtitles.closeEpisode { x with queue := x.queue.filter fun d => !d.named k id } := by
  unfold clearUnit
  cases (s.slot i k).showing with
  | none => rfl
  | some sh => simp

/-- A CLEAR unit is one change of SC's state (R82, R85). -/
theorem clearUnit_eq (i k id : Nat) (s : State) : clearUnit i k id s = s.modSc i fun x =>
    { x with
      queue := (s.svc i).sc.queue.filter fun d => !d.named k id
      episode := x.episode && decide (16 ≤ ((s.svc i).sc.queue.filter fun d => !d.named k id).length)
      slots := if (s.slot i k).showing.map Showing.id = some id then
          x.slots.modify k fun y => { y with showing := none, uncoveredSince := s.now } else x.slots } := by
  rw [clearUnit_eq_ite]
  split
  · rw [uncover, State.modSlot, State.modSc, State.modSc, State.modSvc_modSvc]
    exact State.modSvc_congr (by simp only [Function.comp_apply, closeEpisode_eq])
  · exact State.modSvc_congr (by simp only [closeEpisode_eq])

/-- Settles O16: the three answers to a CUE unit, and a CLEAR unit as one change of SC's state. -/
theorem cueAndClearUnitsAct : Obligations.CueAndClearUnitsAct := by
  unfold Obligations.CueAndClearUnitsAct
  refine fun bytes s i => ⟨fun slot id off dur chars takes => ?_, fun slot id takes => ?_⟩
  · have port := (unitTaken_of_takes takes).portEmpty
    have runs := exec_feedUnit_takes takes
    rw [routeUnit_cue] at runs
    intro shows cue same before place q
    have named : same = fun d => d.named slot id := funext fun d => (d.named_eq slot id).symm
    have placed : place = placeCue cue := funext fun l => (placeCue_eq cue l).symm
    rw [named, placed]
    refine ⟨fun again => ?_, fun new room => ?_, fun new full => ?_⟩
    · rw [cueUnit_replaces again] at runs
      exact ⟨_, runs, (settle_same _).portEmpty port⟩
    · rw [cueUnit_places new room] at runs
      exact ⟨_, runs, (settle_same _).portEmpty port⟩
    · rw [cueUnit_refuses new full] at runs
      exact ⟨_, runs, ((refuseCue_same i _ s).trans (settle_same _)).portEmpty port, fun settled unmarked =>
        settle_refuseCue_ring settled unmarked i cue⟩
  · have runs := exec_feedUnit_takes takes
    rw [routeUnit_clear, clearUnit_eq] at runs
    simp only [Cue.named_eq] at runs
    exact ⟨_, runs, (settle_same _).portEmpty (unitTaken_of_takes takes).portEmpty⟩

end Sys2Proof.Machine
end

section
/-! SUPPORT. The showing of cues, the due events of SC and AD_TIME, and the obligations of both (R77, R78, R83, R84,
R90 to R92, R115). -/

namespace Sys2Proof.Machine

/-! ### Gaps that end (R90) -/

/-- A gap measured twice is measured once. -/
theorem Context.raiseGap_raiseGap (x : Context) (k gap : Nat) :
    (x.raiseGap k gap).raiseGap k gap = x.raiseGap k gap := by
  have twice : max gap ∘ max gap = max gap := funext fun n => by simp
  simp only [Context.raiseGap, List.modify_modify_eq, twice]

/-- The longest gap of a slot that a context has is raised to the gap measured (R89, R90). -/
theorem Context.raiseGap_longestGap {x : Context} {k : Nat} (h : k < x.longestGap.length) (gap : Nat) :
    (x.raiseGap k gap).longestGap.getD k 0 = max (x.longestGap.getD k 0) gap := by
  simp [Context.raiseGap, List.getD_eq_getElem?_getD, h, Nat.max_comm]

/-- The end of a gap is measured once in every context named, however often it is named (R90). -/
theorem foldl_raiseGap_ctx (k now since : Nat) (l : List Nat) {s : State} {d : Nat} (h : d < s.pool.contexts.length) :
    (l.foldl (fun t c => t.modCtx c fun x => x.raiseGap k (sinceLater now since x.openTick)) s).ctx d =
      if d ∈ l then (s.ctx d).raiseGap k (sinceLater now since (s.ctx d).openTick) else s.ctx d := by
  induction l generalizing s with
  | nil => rfl
  | cons c l ih =>
    rw [List.foldl_cons, ih (by simpa [State.modCtx] using h)]
    rcases eq_or_ne c d with rfl | other
    · rw [State.modCtx_ctx_same _ h, if_pos List.mem_cons_self]
      split
      · exact Context.raiseGap_raiseGap ..
      · rfl
    · rw [State.modCtx_ctx_other s _ other]
      simp [Ne.symm other]

/-- Every context of the stack takes in the gap that ends (R90). -/
theorem measureGaps_longestGap {i k d : Nat} {s : State} (held : d ∈ s.stackContexts i)
    (there : d < s.pool.contexts.length) (counted : k < (s.ctx d).longestGap.length) :
    ((measureGaps i k s).ctx d).longestGap.getD k 0 =
      max ((s.ctx d).longestGap.getD k 0) (sinceLater s.now (s.slot i k).uncoveredSince (s.ctx d).openTick) := by
  rw [measureGaps, foldl_raiseGap_ctx _ _ _ _ there, if_pos held, Context.raiseGap_longestGap counted]

theorem measureGaps_services (i k : Nat) (s : State) : (measureGaps i k s).services = s.services := by
  unfold measureGaps
  generalize s.stackContexts i = l
  suffices ∀ t : State, (l.foldl (fun t c => t.modCtx c fun x =>
      x.raiseGap k (sinceLater s.now (s.slot i k).uncoveredSince x.openTick)) t).services = t.services from this s
  induction l with
  | nil => exact fun t => rfl
  | cons c l ih => exact fun t => (ih _).trans rfl

/-- The start of coverage changes the slot and the contexts' gaps, and else is CU's (R83, R92). -/
theorem startCoverage_only (i k : Nat) (sh : Showing) (s : State) :
    OnlyLog ((measureGaps i k s).modSlot i k fun x => { x with showing := some sh, gapOpen := false })
      (startCoverage i k sh s) := by
  have closed := closeGap_only i k .covered ((measureGaps i k s).modSlot i k fun x => { x with showing := some sh })
  rw [State.modSlot_modSlot] at closed
  exact closed

/-! ### A cue at its show time (R83) -/

theorem exec_cueShow (i : Nat) (s : State) : exec (.cueShow i) s = .next (settle (showHead i s)) := rfl

/-- What a cue that has reached its show time makes of its slot (R83, R92). -/
def Slot.shown (now : Nat) (c : Cue) (x : Slot) : Slot :=
  if c.blank then if x.showing.isSome then { x with showing := none, uncoveredSince := now } else x
  else if x.showing.isSome then { x with showing := some ⟨c.id, (c.showTick + c.duration) % 2 ^ 48⟩ }
  else { x with showing := some ⟨c.id, (c.showTick + c.duration) % 2 ^ 48⟩, gapOpen := false }

/-- The state in which the head cue has left the queue and its slot has not changed yet. -/
def headTaken (i : Nat) (rest : List Cue) (s : State) : State :=
  s.modSc i fun x => Subtitles.closeEpisode { x with queue := rest }

theorem showHead_due {i : Nat} {c : Cue} {rest : List Cue} {s : State} (queue : (s.svc i).sc.queue = c :: rest)
    (due : reached s.now c.showTick = true) : showHead i s = showCue i c (headTaken i rest s) := by
  simp only [showHead, queue, due, if_true, headTaken]

theorem headTaken_slot (i k : Nat) (rest : List Cue) (s : State) : (headTaken i rest s).slot i k = s.slot i k :=
  State.modSvc_svc_keeps (fun v => v.sc.slots.getD k .reset) s i i fun v => by simp only [closeEpisode_eq]

theorem headTaken_queue {i : Nat} {s : State} (hi : i < s.services.length) (rest : List Cue) :
    ((headTaken i rest s).svc i).sc.queue = rest := by
  rw [headTaken, State.modSc, State.modSvc_svc_same _ _ _ hi, closeEpisode_eq]

theorem headTaken_stackContexts (i : Nat) (rest : List Cue) (s : State) :
    (headTaken i rest s).stackContexts i = s.stackContexts i :=
  State.modSvc_svc_keeps (fun v => v.st.stack.filterMap StackEntry.context) s i i fun _ => rfl

/-- A cue with characters starts the coverage of a slot that shows nothing (R83). -/
theorem showCue_covers {i : Nat} {c : Cue} {s : State} (text : c.blank = false)
    (nothing : (s.slot i c.slot).showing = none) :
    showCue i c s = startCoverage i c.slot ⟨c.id, (c.showTick + c.duration) % 2 ^ 48⟩ s := by
  simp only [showCue, text, nothing, Option.isSome_none, Bool.false_eq_true, if_false]
  rfl

/-- Of the services a cue at its show time changes its own slot alone (R83). -/
theorem showCue_services (i : Nat) (c : Cue) (s : State) :
    (showCue i c s).services = (s.modSlot i c.slot (Slot.shown s.now c)).services := by
  cases blank : c.blank with
  | true =>
    cases showing : (s.slot i c.slot).showing.isSome with
    | true =>
      rw [State.modSlot_congr (g := fun x => { x with showing := none, uncoveredSince := s.now })
        (by simp only [Slot.shown, blank, showing, if_true])]
      simp only [showCue, blank, showing, if_true, uncover]
    | false =>
      rw [State.modSlot_eq_self (by simp [Slot.shown, blank, showing])]
      simp [showCue, blank, showing]
  | false =>
    cases showing : (s.slot i c.slot).showing with
    | some old =>
      rw [State.modSlot_congr (g := fun x => { x with showing := some ⟨c.id, (c.showTick + c.duration) % 2 ^ 48⟩ })
        (by simp [Slot.shown, blank, showing])]
      simp only [showCue, blank, showing, Option.isSome_some, Bool.false_eq_true, if_true, if_false]
      rfl
    | none =>
      rw [showCue_covers blank showing, (startCoverage_only _ _ _ _).services, State.modSlot, State.modSc,
        State.modSvc_services, measureGaps_services, State.modSlot_congr (f := Slot.shown s.now c)
        (g := fun x => { x with showing := some ⟨c.id, (c.showTick + c.duration) % 2 ^ 48⟩, gapOpen := false })
        (by simp [Slot.shown, blank, showing])]
      rfl

theorem showCue_within (i : Nat) (c : Cue) (s : State) : WithinService Service.besideHandOff i s (showCue i c s) :=
  .ite (.ite (uncover_within i _ s) (.refl _ i s)) (.ite (modSlot_within i s _ _)
    (((WithinService.foldl (fun t d => .modCtx d _ t) _ s).trans (modSlot_within i _ _ _)).trans
      (closeGap_within i _ _ _)))

/-- A cue that starts the coverage of a slot with SC's mark for SUB_GAP closes the condition (R92). -/
theorem showCue_isOpen {i : Nat} {c : Cue} {s : State} (text : c.blank = false)
    (nothing : (s.slot i c.slot).showing = none) (marked : (s.slot i c.slot).gapOpen = true) :
    (showCue i c s).isOpen (some i) .subGap (some c.slot) = false := by
  rw [showCue_covers text nothing]
  refine closeGap_isOpen ?_ _
  refine (State.modSlot_slot_keeps Slot.gapOpen (measureGaps i c.slot s) i c.slot c.slot fun _ => by rfl).trans ?_
  rw [State.slot, State.svc, measureGaps_services]
  exact marked

/-- A cue that starts coverage brings the longest gap of every context of the stack up to it (R90). -/
theorem showCue_longestGap {i d : Nat} {c : Cue} {s : State} (text : c.blank = false)
    (nothing : (s.slot i c.slot).showing = none) (held : d ∈ s.stackContexts i) (there : d < s.pool.contexts.length)
    (counted : c.slot < (s.ctx d).longestGap.length) :
    ((showCue i c s).ctx d).longestGap.getD c.slot 0 = max ((s.ctx d).longestGap.getD c.slot 0)
      (sinceLater s.now (s.slot i c.slot).uncoveredSince (s.ctx d).openTick) := by
  rw [showCue_covers text nothing, State.ctx, (startCoverage_only _ _ _ _).pool]
  exact measureGaps_longestGap held there counted

/-! ### A cue at its end (R84) -/

theorem exec_cueEnd {i k : Nat} {sh : Showing} {s : State} (showing : (s.slot i k).showing = some sh)
    (due : reached s.now sh.endTick = true) : exec (.cueEnd i k) s = .next (uncover i k s) := by
  have runs : exec (.cueEnd i k) s = execCueEnd i k s := rfl
  simp only [runs, execCueEnd, showing, due, if_true]

/-- Settles O17: the head cue's slot change, with the gaps it measures, and the end of a showing cue. -/
theorem cuesShowAndEnd : Obligations.CuesShowAndEnd := by
  unfold Obligations.CuesShowAndEnd
  refine fun s i hi sixteen four =>
    ⟨fun c rest inRange queue due => ?_, fun k sh showing due => exec_cueEnd showing due⟩
  intro x shown
  have there : i < s.services.length := sixteen ▸ hi
  have runs := exec_cueShow i s
  rw [showHead_due queue due] at runs
  have nowShown := showCue_services i c (headTaken i rest s)
  have within := showCue_within i c (headTaken i rest s)
  have ends := settle_same (showCue i c (headTaken i rest s))
  have slot (k : Nat) : (settle (showCue i c (headTaken i rest s))).slot i k =
      ((headTaken i rest s).modSlot i c.slot (Slot.shown s.now c)).slot i k := by
    rw [State.slot, settle_svc, State.svc, nowShown]
    rfl
  have own : (settle (showCue i c (headTaken i rest s))).slot i c.slot = x.shown s.now c := by
    have taken : i < (headTaken i rest s).services.length := by simpa [headTaken, State.modSc] using there
    have slots : ((headTaken i rest s).svc i).sc.slots.length = 4 := by
      rw [headTaken, State.modSc, State.modSvc_svc_same _ _ _ there, closeEpisode_eq]
      exact four
    rw [slot, State.modSlot_slot_same _ taken (slots ▸ inRange), headTaken_slot]
  refine ⟨_, runs, ?_, fun k other => ?_, fun j other => ?_, ends.tb.trans within.tb, ends.sp.trans within.sp,
    fun text nothing => ⟨?_, fun marked => ?_, fun d held exists_ctx counted => ?_⟩, fun text showing => ?_,
    fun blank => ?_⟩
  · have kept := within.kept
    simp only [Service.besideHandOff, Prod.mk.injEq] at kept
    obtain ⟨-, -, -, -, kept, -⟩ := kept
    rw [settle_svc, kept, headTaken_queue there]
  · rw [slot, State.modSlot_slot_other _ _ _ (Ne.symm other), headTaken_slot]
  · rw [settle_svc, within.others j other]
    exact State.modSvc_svc_other _ _ (Ne.symm other)
  · rw [own]
    simp [Slot.shown, text, nothing, shown]
  · rw [isOpen_congr ends.conditions]
    exact showCue_isOpen text ((congrArg Slot.showing (headTaken_slot i _ rest s)).trans nothing)
      ((congrArg Slot.gapOpen (headTaken_slot i _ rest s)).trans marked)
  · have measured := showCue_longestGap (c := c) (s := headTaken i rest s) (i := i) (d := d) text
      ((congrArg Slot.showing (headTaken_slot i _ rest s)).trans nothing)
      (by rw [headTaken_stackContexts]; exact held) exists_ctx counted
    rw [headTaken_slot] at measured
    rw [settle_ctx_keeps Context.longestGap (fun _ => rfl)]
    exact measured
  · rw [own]
    simp [Slot.shown, text, showing, shown]
  · rw [own]
    simp only [Slot.shown, blank, if_true]
    rfl

/-! ### Due events (R77, R78, R91, R115) -/

theorem exec_acquisitionWindowExpiry {i k : Nat} {s : State} (acquiring : (s.slot i k).carriage = .acquiring)
    (due : 48000 ≤ elapsed s.now (s.slot i k).windowStart) :
    exec (.acquisitionWindowExpiry i k) s = .next (s.modSlot i k Slot.loseAcquisition) :=
  congrArg Host.Outcome.next (if_pos ⟨acquiring, due⟩)

theorem exec_carriageTimeoutExpiry {i k : Nat} {s : State} (due : s.carriageDue i k = true) :
    exec (.carriageTimeoutExpiry i k) s = .next (settle (lapseSlot i k s)) := congrArg Host.Outcome.next (if_pos due)

theorem exec_subGapOpen {i k : Nat} {s : State} (due : s.gapDue i k = true) : exec (.subGapOpen i k) s =
    .next (settle (openCond i .subGap (some k) none (s.modSlot i k fun x => { x with gapOpen := true }))) :=
  congrArg Host.Outcome.next (if_pos due)

theorem exec_adTimeOpen {i : Nat} {s : State} (above : s.overLimit i = true) :
    exec (.adTimeOpen i) s = .next (settle (openCond i .adTime none none s)) :=
  congrArg Host.Outcome.next (if_pos above)

/-- A carriage timeout that has run out, and not at the tick of the PRF that set it, is due (R78). -/
theorem carriageDue_of {i k stamp : Nat} {s : State} (carried : (s.slot i k).carriage = .carried)
    (last : (s.slot i k).lastCarry = some stamp)
    (out : (s.svc i).profile.carriageTimeout * 48000 ≤ elapsed s.now stamp)
    (later : (s.svc i).sc.timeoutSet ≠ some s.now) : s.carriageDue i k = true := by
  simp only [State.carriageDue, Slot.timeoutDue, carried, last, Config.ticksPerSecond, out, later, decide_true, ne_eq,
    not_false_eq_true, Bool.and_self]

/-- A slot of an enabled service changes and its condition opens: the slot's change, the condition, and the rest. -/
theorem settle_openCond_slot {i : Nat} {s : State} (enabled : (s.svc i).profile.enabled = true) (k : Nat)
    (f : Slot → Slot) (cls : CondClass) :
    let t := settle (openCond i cls (some k) none (s.modSlot i k f))
    t.services = (s.modSlot i k f).services ∧ t.isOpen (some i) cls (some k) = true ∧ t.tb = s.tb ∧ t.sp = s.sp ∧
      t.pool.free = s.pool.free ∧ t.am.extents = s.am.extents ∧ t.writeQueue = s.writeQueue := by
  have opened := openCond_only i cls (some k) none (s.modSlot i k f)
  have stands : ((s.modSlot i k f).svc i).profile.enabled = true :=
    (State.modSvc_svc_keeps (fun v => v.profile.enabled) s i i fun _ => by rfl).trans enabled
  have isOpen := openCond_isOpen_same i cls (some k) none _ stands
  generalize openCond i cls (some k) none (s.modSlot i k f) = u at opened isOpen
  have ends := settle_same u
  exact ⟨ends.services.trans opened.services, (isOpen_congr ends.conditions _ _ _).trans isOpen,
    ends.tb.trans opened.tb, ends.sp.trans opened.sp, ends.free.trans (congrArg Pool.free opened.pool :),
    ends.extents.trans (congrArg Archive.extents opened.am), ends.writeQueue.trans opened.writeQueue⟩

/-- A service condition that opens joins the table, and else an entry is taken (R109). -/
theorem openCond_same {i : Nat} {c : CondClass} {k : Option Nat} {s : State}
    (enabled : (s.svc i).profile.enabled = true) (closed : s.isOpen (some i) c k = false) (g : Option GapCause) :
    SameCore (s.modCu fun u => { u with conditions := u.conditions ++ [⟨c, some i, k, g, s.now, s.nextSeq⟩] })
      (openCond i c k g s) := by
  rw [openCond, if_neg (by simp [enabled, closed])]
  exact logTake_same _ _ _

/-- Settles O18: the four due events, each with its condition. -/
theorem dueTimersAndConditionsAct : Obligations.DueTimersAndConditionsAct := by
  unfold Obligations.DueTimersAndConditionsAct
  refine fun s i k => ⟨exec_acquisitionWindowExpiry, fun stamp carried last out later enabled => ?_,
    fun enabled due => ?_, fun enabled above closed => ?_⟩
  · exact ⟨_, exec_carriageTimeoutExpiry (carriageDue_of carried last out later), settle_openCond_slot enabled k _ _⟩
  · obtain ⟨services, isOpen, tb, sp, -, extents, queue⟩ := settle_openCond_slot enabled k _ .subGap
    exact ⟨_, exec_subGapOpen due, services, isOpen, tb, sp, extents, queue⟩
  · exact ⟨_, exec_adTimeOpen (decide_eq_true above), (openCond_same enabled closed none).trans (settle_same _)⟩

end Sys2Proof.Machine
end

section
/-! SUPPORT. The expected-slot mask of an enabled service (R93), and the obligation of a PRF of an enabled service (R99,
R101, R115). -/

namespace Sys2Proof.Machine

/-! ### One slot under a changed mask (R93) -/

/-- The slot leaves the mask. -/
def slotLeaves (old new k : Nat) : Bool := slotExpected old k && !slotExpected new k

/-- The slot joins the mask. -/
def slotJoins (old new k : Nat) : Bool := !slotExpected old k && slotExpected new k

theorem slotLeaves_iff {k : Nat} (h : k < 4) (old new : Nat) :
    slotLeaves old new k = true ↔ old.testBit k = true ∧ new.testBit k = false := by
  simp [slotLeaves, slotExpected, h]

theorem slotJoins_iff {k : Nat} (h : k < 4) (old new : Nat) :
    slotJoins old new k = true ↔ old.testBit k = false ∧ new.testBit k = true := by
  simp [slotJoins, slotExpected, h]

theorem slotExpected_congr {old new k : Nat} (h : old.testBit k = new.testBit k) :
    slotExpected old k = slotExpected new k := by
  rw [slotExpected, h]
  rfl

/-- A slot whose bit stands neither leaves nor joins. -/
theorem slotLeaves_of_stands {old new k : Nat} (h : old.testBit k = new.testBit k) : slotLeaves old new k = false := by
  simp [slotLeaves, slotExpected_congr h]

theorem slotJoins_of_stands {old new k : Nat} (h : old.testBit k = new.testBit k) : slotJoins old new k = false := by
  simp [slotJoins, slotExpected_congr h]

/-- Only slots 0 to 3 leave a mask. -/
theorem mem_allSlots_of_leaves {old new k : Nat} (h : slotLeaves old new k = true) : k ∈ allSlots := by
  simp only [slotLeaves, slotExpected, Bool.and_eq_true, decide_eq_true_eq] at h
  exact List.mem_range.mpr h.1.2

/-- A slot that has left the mask, its conditions not yet closed (R93). -/
def Slot.emptied (now : Nat) (x : Slot) : Slot :=
  { x with
    carriage := .absent, windowCount := 0, lastCarry := none, lapseStart := none, showing := none
    uncoveredSince := if x.showing.isSome then now else x.uncoveredSince }

/-- A slot that has left the mask (R93). -/
def Slot.removed (now : Nat) (x : Slot) : Slot := { x.emptied now with lapsedOpen := false, gapOpen := false }

/-- A slot that has joined the mask (R93). -/
def Slot.joined (now : Nat) (x : Slot) : Slot := { x with carriage := .absent, showing := none, uncoveredSince := now }

/-- SC's state with slot `k` changed and its pending cues gone (R82, R93). -/
def Subtitles.withoutSlot (f : Slot → Slot) (k : Nat) (c : Subtitles) : Subtitles :=
  let queue := c.queue.filter fun d => decide (d.slot ≠ k)
  { c with queue := queue, episode := c.episode && decide (16 ≤ queue.length), slots := c.slots.modify k f }

/-- What a changed mask makes of slot `k` in SC's state (R93). -/
def Subtitles.remaskSlot (now old new : Nat) (c : Subtitles) (k : Nat) : Subtitles :=
  if slotLeaves old new k then c.withoutSlot (Slot.removed now) k
  else if slotJoins old new k then { c with slots := c.slots.modify k (Slot.joined now) }
  else c

/-- What a changed mask makes of SC's state (R93). -/
def Subtitles.remasked (now old new : Nat) (c : Subtitles) : Subtitles :=
  allSlots.foldl (Subtitles.remaskSlot now old new) c

/-- What a changed mask makes of slot `k` itself (R93). -/
def Slot.remasked (now old new k : Nat) (x : Slot) : Slot :=
  if slotLeaves old new k then x.removed now else if slotJoins old new k then x.joined now else x

theorem Slot.remasked_of_leaves {old new k : Nat} (h : slotLeaves old new k = true) (now : Nat) (x : Slot) :
    x.remasked now old new k = x.removed now := if_pos h

theorem Slot.remasked_of_joins {old new k : Nat} (h : slotJoins old new k = true) (now : Nat) (x : Slot) :
    x.remasked now old new k = x.joined now := by
  have stays : ¬ slotLeaves old new k = true := fun leaves => by
    simp only [slotLeaves, slotJoins, Bool.and_eq_true, Bool.not_eq_true'] at leaves h
    simp [h.1] at leaves
  exact (if_neg stays).trans (if_pos h)

theorem Slot.remasked_of_stands {old new k : Nat} (h : old.testBit k = new.testBit k) (now : Nat) (x : Slot) :
    x.remasked now old new k = x :=
  (if_neg (by simp [slotLeaves_of_stands h])).trans (if_neg (by simp [slotJoins_of_stands h]))

/-- The cues of a slot that stays are among those that stay. -/
theorem filter_staying_cues {gone : Nat → Bool} {k : Nat} (stays : gone k = false) (q : List Cue) :
    (q.filter fun d => !gone d.slot).filter (fun d => decide (d.slot = k)) = q.filter fun d => decide (d.slot = k) := by
  rw [List.filter_filter]
  refine List.filter_congr fun d _ => ?_
  by_cases same : d.slot = k
  · simp [same, stays]
  · simp [same]

section Remask

variable (now old new : Nat) (c : Subtitles)

theorem remaskSlot_slots (k : Nat) :
    (c.remaskSlot now old new k).slots = c.slots.modify k (Slot.remasked now old new k) := by
  unfold Subtitles.remaskSlot Slot.remasked
  split
  · rfl
  · split
    · rfl
    · exact (List.modify_id ..).symm

theorem remaskSlot_queue (k : Nat) : (c.remaskSlot now old new k).queue =
    c.queue.filter fun d => !(decide (d.slot = k) && slotLeaves old new k) := by
  unfold Subtitles.remaskSlot
  split
  · next leaves => simp [Subtitles.withoutSlot, leaves]
  · next stays => split <;> simp [stays]

theorem remaskSlot_timeoutSet (k : Nat) : (c.remaskSlot now old new k).timeoutSet = c.timeoutSet := by
  unfold Subtitles.remaskSlot
  split
  · rfl
  · split <;> rfl

theorem foldl_remaskSlot_slots {l : List Nat} (distinct : l.Nodup) {k : Nat} (mem : k ∈ l) :
    (l.foldl (Subtitles.remaskSlot now old new) c).slots[k]? = c.slots[k]?.map (Slot.remasked now old new k) := by
  suffices ∀ (l : List Nat) (c : Subtitles), l.Nodup → (l.foldl (Subtitles.remaskSlot now old new) c).slots[k]? =
      if k ∈ l then c.slots[k]?.map (Slot.remasked now old new k) else c.slots[k]? by
    rw [this l c distinct, if_pos mem]
  intro l
  induction l with
  | nil => exact fun c _ => rfl
  | cons j l ih =>
    intro c distinct
    obtain ⟨once, distinct⟩ := List.nodup_cons.mp distinct
    rw [List.foldl_cons, ih _ distinct, remaskSlot_slots, List.getElem?_modify]
    rcases eq_or_ne j k with rfl | other
    · simp [once]
    · simp [other, Ne.symm other]

theorem foldl_remaskSlot_queue (l : List Nat) : (l.foldl (Subtitles.remaskSlot now old new) c).queue =
    c.queue.filter fun d => !(decide (d.slot ∈ l) && slotLeaves old new d.slot) := by
  induction l generalizing c with
  | nil => simp
  | cons k l ih =>
    rw [List.foldl_cons, ih, remaskSlot_queue, List.filter_filter]
    refine List.filter_congr fun d _ => ?_
    rcases eq_or_ne d.slot k with rfl | other
    · cases slotLeaves old new d.slot <;> simp
    · simp [other]

/-- Each slot of a service changes as its own place in the masks says. -/
theorem remasked_slot {k : Nat} (inRange : k < 4) (four : c.slots.length = 4) :
    (c.remasked now old new).slots.getD k .reset = (c.slots.getD k .reset).remasked now old new k := by
  have there : k < c.slots.length := four ▸ inRange
  rw [List.getD_eq_getElem?_getD, Subtitles.remasked,
    foldl_remaskSlot_slots now old new c (l := allSlots) List.nodup_range (List.mem_range.mpr inRange)]
  simp [List.getD_eq_getElem?_getD, there]

/-- The cues of the slots that leave the mask are gone, and the others stand (R93). -/
theorem remasked_queue :
    (c.remasked now old new).queue = c.queue.filter fun d => !slotLeaves old new d.slot := by
  rw [Subtitles.remasked, foldl_remaskSlot_queue]
  refine List.filter_congr fun d _ => ?_
  cases leaves : slotLeaves old new d.slot with
  | true => simp [mem_allSlots_of_leaves leaves]
  | false => simp

theorem remasked_timeoutSet : (c.remasked now old new).timeoutSet = c.timeoutSet := by
  unfold Subtitles.remasked
  induction allSlots generalizing c with
  | nil => rfl
  | cons k l ih => exact (ih _).trans (remaskSlot_timeoutSet now old new c k)

/-- A mask that stands changes nothing. -/
theorem remasked_self (mask : Nat) : c.remasked now mask mask = c :=
  List.foldl_fixed' (fun k => by simp [Subtitles.remaskSlot, slotLeaves_of_stands, slotJoins_of_stands]) allSlots

end Remask

/-! ### The removal of a slot (R93) -/

/-- The slot emptied and its cues gone, its conditions not yet closed. -/
def slotEmptied (i k : Nat) (s : State) : State := s.modSc i (Subtitles.withoutSlot (Slot.emptied s.now) k)

/-- The slot's own part of a removal comes before the closing of its conditions (R93). -/
theorem removeSlot_eq (i k : Nat) (s : State) :
    removeSlot i k s = closeGap i k .slotRemoved (closeLapsed i k .slotRemoved (slotEmptied i k s)) := by
  have hidden (now : Nat) {x : Slot} (nothing : x.showing = none) :
      { x with showing := none, uncoveredSince := if x.showing.isSome then now else x.uncoveredSince } = x := by
    obtain ⟨⟩ := x
    obtain rfl := nothing
    rfl
  have uncovered : (if (s.slot i k).showing.isSome then uncover i k s else s) = s.modSlot i k fun x =>
      { x with showing := none, uncoveredSince := if x.showing.isSome then s.now else x.uncoveredSince } := by
    split
    · next shown => exact State.modSlot_congr (by simp [shown])
    · next nothing => exact (State.modSlot_eq_self (hidden s.now (by simpa using nothing))).symm
  have emptied : ((s.modSlot i k fun x =>
      { x with showing := none, uncoveredSince := if x.showing.isSome then s.now else x.uncoveredSince }).modSc i
      fun x => Subtitles.closeEpisode { x with queue := x.queue.filter fun d => decide (d.slot ≠ k) }).modSlot i k
      (fun x => { x with carriage := .absent, windowCount := 0, lastCarry := none, lapseStart := none }) =
      slotEmptied i k s := by
    simp only [slotEmptied, State.modSlot, State.modSc, State.modSvc_modSvc]
    exact State.modSvc_congr (by
      simp only [Function.comp_apply, closeEpisode_eq, List.modify_modify_eq, Subtitles.withoutSlot]
      rfl)
  unfold removeSlot
  rw [uncovered]
  exact congrArg (fun u => closeGap i k .slotRemoved (closeLapsed i k .slotRemoved u)) emptied

/-- The removal of a slot is one change of SC's state, and else CU's (R93). -/
theorem removeSlot_only (i k : Nat) (s : State) :
    OnlyLog (s.modSc i (Subtitles.withoutSlot (Slot.removed s.now) k)) (removeSlot i k s) := by
  have closed := ((closeLapsed_only i k .slotRemoved (slotEmptied i k s)).modSvc i _).trans
    (closeGap_only i k .slotRemoved _)
  have change : ((slotEmptied i k s).modSlot i k fun x => { x with lapsedOpen := false }).modSlot i k
      (fun x => { x with gapOpen := false }) = s.modSc i (Subtitles.withoutSlot (Slot.removed s.now) k) := by
    simp only [slotEmptied, State.modSlot, State.modSc, State.modSvc_modSvc]
    exact State.modSvc_congr (by
      simp only [Function.comp_apply, List.modify_modify_eq, Subtitles.withoutSlot]
      rfl)
  rw [removeSlot_eq, ← change]
  exact closed

/-! ### Conditions at a changed mask (R93) -/

/-- Where SC's marks were set for slot `k`, its conditions are closed. -/
structure MarksClosed (i k : Nat) (s t : State) : Prop where
  lapsed : (s.slot i k).lapsedOpen = true → t.isOpen (some i) .subLapsed (some k) = false
  gap : (s.slot i k).gapOpen = true → t.isOpen (some i) .subGap (some k) = false

/-- No condition opens. -/
def StaysClosed (s t : State) : Prop := ∀ svc c k, s.isOpen svc c k = false → t.isOpen svc c k = false

theorem StaysClosed.trans {s t u : State} (h : StaysClosed s t) (k : StaysClosed t u) : StaysClosed s u :=
  fun svc c n closed => k svc c n (h svc c n closed)

theorem StaysClosed.ofConditions {s t : State} (h : t.cu.conditions = s.cu.conditions) : StaysClosed s t :=
  fun svc c k closed => (isOpen_congr h svc c k).trans closed

theorem MarksClosed.trans {i k : Nat} {s t u : State} (h : MarksClosed i k s t) (stays : StaysClosed t u) :
    MarksClosed i k s u :=
  ⟨fun marked => stays _ _ _ (h.lapsed marked), fun marked => stays _ _ _ (h.gap marked)⟩

theorem MarksClosed.ofSlot {i k : Nat} {s t u : State} (h : MarksClosed i k t u) (slot : t.slot i k = s.slot i k) :
    MarksClosed i k s u :=
  ⟨fun marked => h.lapsed (slot ▸ marked), fun marked => h.gap (slot ▸ marked)⟩

theorem closeCond_staysClosed (i : Nat) (c : CondClass) (k : Option Nat) (g : CloseCause) (s : State) :
    StaysClosed s (closeCond i c k g s) := by
  intro svc c' k' closed
  by_cases same : svc = some i ∧ c' = c ∧ k' = k
  · obtain ⟨rfl, rfl, rfl⟩ := same
    exact closeCond_isOpen_same _ _ _ _ _
  · exact (closeCond_isOpen_other g s same).trans closed

theorem closeLapsed_staysClosed (i k : Nat) (cause : CloseCause) (s : State) :
    StaysClosed s (closeLapsed i k cause s) := by
  unfold closeLapsed
  split
  · exact fun svc c n closed => closeCond_staysClosed _ _ _ _ _ svc c n closed
  · exact .ofConditions rfl

theorem closeGap_staysClosed (i k : Nat) (cause : CloseCause) (s : State) : StaysClosed s (closeGap i k cause s) := by
  unfold closeGap
  split
  · exact fun svc c n closed => closeCond_staysClosed _ _ _ _ _ svc c n closed
  · exact .ofConditions rfl

theorem removeSlot_staysClosed (i k : Nat) (s : State) : StaysClosed s (removeSlot i k s) := by
  have emptied : StaysClosed s (slotEmptied i k s) := .ofConditions rfl
  rw [removeSlot_eq]
  exact (emptied.trans (closeLapsed_staysClosed _ _ _ _)).trans (closeGap_staysClosed _ _ _ _)

/-- What the emptying of a slot keeps of every slot, the missing one too. -/
theorem slotEmptied_slot_keeps {α : Type} (g : Slot → α) (h : ∀ now x, g (Slot.emptied now x) = g x) (i k j : Nat)
    (s : State) : g ((slotEmptied i k s).slot i j) = g (s.slot i j) :=
  calc g ((slotEmptied i k s).slot i j) = g ((s.modSlot i k (Slot.emptied s.now)).slot i j) := by
        rcases Nat.lt_or_ge i s.services.length with there | beyond
        · simp only [slotEmptied, State.modSlot, State.modSc, State.slot, State.modSvc_svc_same _ _ _ there,
            Subtitles.withoutSlot]
        · simp only [slotEmptied, State.modSlot, State.modSc, State.modSvc_absent _ _ _ beyond]
    _ = g (s.slot i j) := State.modSlot_slot_keeps g s i k j (h s.now)

/-- A removed slot's conditions are closed where SC's marks were set (R93). -/
theorem removeSlot_marksClosed (i k : Nat) (s : State) : MarksClosed i k s (removeSlot i k s) := by
  rw [removeSlot_eq]
  refine ⟨fun marked => ?_, fun marked => ?_⟩
  · refine closeGap_staysClosed _ _ _ _ _ _ _ (closeLapsed_isOpen ?_ _)
    rw [slotEmptied_slot_keeps Slot.lapsedOpen (fun _ _ => rfl), marked]
  · refine closeGap_isOpen ?_ _
    rw [State.slot, State.svc, (closeLapsed_only i k .slotRemoved _).services]
    refine (State.modSlot_slot_keeps Slot.gapOpen (slotEmptied i k s) i k k fun _ => by rfl).trans ?_
    rw [slotEmptied_slot_keeps Slot.gapOpen (fun _ _ => rfl), marked]

/-! ### The whole mask (R93, R101) -/

/-- What a changed mask does for slot `k` (R93). -/
def maskStep (i old new : Nat) (s : State) (k : Nat) : State :=
  if slotLeaves old new k then removeSlot i k s else if slotJoins old new k then joinSlot i k s else s

theorem maskChanged_eq (i old : Nat) (s : State) : ∃ n, maskChanged i old s =
    allSlots.foldl (maskStep i old (s.svc i).profile.slotMask) (logReserve n s) := by
  refine ⟨((s.removedSlots i old).map (s.removalEntries i)).sum, ?_⟩
  unfold maskChanged maskStep slotLeaves slotJoins
  simp only [State.svc, (logReserve_only _ s).services, Bool.and_eq_true, Bool.not_eq_true', Bool.not_eq_true]

theorem maskStep_only (i old new : Nat) (s : State) (k : Nat) :
    OnlyLog (s.modSc i fun c => c.remaskSlot s.now old new k) (maskStep i old new s k) := by
  unfold maskStep Subtitles.remaskSlot
  split
  · exact removeSlot_only i k s
  · split
    · exact .refl _
    · have same : s.modSc i (fun c => c) = s := s.modSvc_id i
      rw [same]
      exact .refl s

theorem foldl_maskStep_only (i old new : Nat) (l : List Nat) (s : State) :
    OnlyLog (s.modSc i fun c => l.foldl (Subtitles.remaskSlot s.now old new) c) (l.foldl (maskStep i old new) s) := by
  induction l generalizing s with
  | nil =>
    have same : s.modSc i (fun c => c) = s := s.modSvc_id i
    exact same.symm ▸ .refl s
  | cons k l ih =>
    have first := maskStep_only i old new s k
    have rest := ih (maskStep i old new s k)
    rw [show (maskStep i old new s k).now = s.now from congrArg TimeBase.stationTime first.tb] at rest
    have both := (first.modSvc i fun v =>
      { v with sc := l.foldl (Subtitles.remaskSlot s.now old new) v.sc }).trans rest
    rw [State.modSc, State.modSvc_modSvc] at both
    exact both

theorem maskStep_staysClosed (i old new : Nat) (s : State) (k : Nat) : StaysClosed s (maskStep i old new s k) := by
  unfold maskStep
  split
  · exact removeSlot_staysClosed i k s
  · split
    · exact .ofConditions rfl
    · exact .ofConditions rfl

theorem foldl_maskStep_staysClosed (i old new : Nat) (l : List Nat) (s : State) :
    StaysClosed s (l.foldl (maskStep i old new) s) := by
  induction l generalizing s with
  | nil => exact .ofConditions rfl
  | cons k l ih => exact (maskStep_staysClosed i old new s k).trans (ih _)

/-- A slot's own step leaves the other slots. -/
theorem maskStep_slot_other (i old new : Nat) (s : State) {k j : Nat} (h : k ≠ j) :
    (maskStep i old new s k).slot i j = s.slot i j := by
  rw [State.slot, State.svc, (maskStep_only i old new s k).services]
  refine State.modSvc_svc_keeps (fun v => v.sc.slots.getD j .reset) s i i fun v => ?_
  simp only [remaskSlot_slots, List.getD_eq_getElem?_getD, List.getElem?_modify_ne _ _ h]

/-- The conditions of every slot that leaves are closed where SC's marks were set (R93). -/
theorem foldl_maskStep_marksClosed {i old new k : Nat} (leaves : slotLeaves old new k = true) {l : List Nat}
    (mem : k ∈ l) (s : State) : MarksClosed i k s (l.foldl (maskStep i old new) s) := by
  induction l generalizing s with
  | nil => simp at mem
  | cons j l ih =>
    rcases eq_or_ne j k with rfl | other
    · have step : maskStep i old new s j = removeSlot i j s := if_pos leaves
      rw [List.foldl_cons, step]
      exact (removeSlot_marksClosed i j s).trans (foldl_maskStep_staysClosed i old new l _)
    · exact (ih ((List.mem_cons.mp mem).resolve_left (Ne.symm other)) _).ofSlot (maskStep_slot_other i old new s other)

/-- A changed mask is one change of SC's state, and else CU's (R93). -/
theorem maskChanged_only (i old : Nat) (s : State) :
    OnlyLog (s.modSc i (Subtitles.remasked s.now old (s.svc i).profile.slotMask)) (maskChanged i old s) := by
  obtain ⟨n, changed⟩ := maskChanged_eq i old s
  have reserved := logReserve_only n s
  have steps := foldl_maskStep_only i old (s.svc i).profile.slotMask allSlots (logReserve n s)
  rw [show (logReserve n s).now = s.now from congrArg TimeBase.stationTime reserved.tb] at steps
  rw [changed]
  exact (reserved.modSvc i _).trans steps

theorem maskChanged_marksClosed {i old k : Nat} {s : State}
    (leaves : slotLeaves old (s.svc i).profile.slotMask k = true) : MarksClosed i k s (maskChanged i old s) := by
  obtain ⟨n, changed⟩ := maskChanged_eq i old s
  rw [changed]
  refine (foldl_maskStep_marksClosed leaves (mem_allSlots_of_leaves leaves) _).ofSlot ?_
  rw [State.slot, State.svc, (logReserve_only n s).services]
  rfl

/-! ### AD_TIME under a changed limit (R115) -/

theorem limitChanged_only (i : Nat) (s : State) : OnlyLog s (limitChanged i s) := by
  unfold limitChanged
  split
  · exact openCond_only _ _ _ _ _
  · exact closeCond_only _ _ _ _ _

/-- AD_TIME of an enabled service is open afterwards when its advert ticks exceed the limit (R115). -/
theorem limitChanged_isOpen {i : Nat} {s : State} (enabled : (s.svc i).profile.enabled = true) :
    (limitChanged i s).isOpen (some i) .adTime none = s.overLimit i := by
  unfold limitChanged
  split
  · next above => exact (openCond_isOpen_same _ _ _ _ _ enabled).trans above.symm
  · next below => exact (closeCond_isOpen_same _ _ _ _ _).trans (Bool.not_eq_true _ ▸ below).symm

/-- A slot's condition is left as it is (R115). -/
theorem limitChanged_isOpen_other (i : Nat) (s : State) {svc : Option Nat} {c : CondClass} {k : Option Nat}
    (h : c ≠ .adTime) : (limitChanged i s).isOpen svc c k = s.isOpen svc c k := by
  unfold limitChanged
  split
  · exact openCond_isOpen_other _ _ fun same => h same.2.1
  · exact closeCond_isOpen_other _ _ fun same => h same.2.1

/-! ### PRF of an enabled service (R99, R101) -/

/-- The profile written, and the ticks of changed timeouts marked (R14, R78). -/
def Service.rewritten (now : Nat) (p : Profile) (v : Service) : Service :=
  { v with
    profile := p
    feed := { v.feed with timeoutSet := timeoutSetAt now v.profile.feedTimeout p.feedTimeout v.feed.timeoutSet }
    sc := { v.sc with
      timeoutSet := timeoutSetAt now v.profile.carriageTimeout p.carriageTimeout v.sc.timeoutSet } }

/-- The service with a changed mask in its slots and queue (R93). -/
def Service.remasked (now old new : Nat) (v : Service) : Service := { v with sc := v.sc.remasked now old new }

/-- The advert-active state under a changed count-promos (R114). -/
def Service.recounted (old new : Bool) (v : Service) : Service :=
  { v with tally := { v.tally with active := if old = new then v.tally.active else advertActive v.tally new } }

/-- The service after a PRF of it while enabled (R101). -/
def Service.reprofiled (now : Nat) (p : Profile) (v : Service) : Service :=
  ((v.rewritten now p).remasked now v.profile.slotMask p.slotMask).recounted v.profile.countPromos p.countPromos

/-- The state after the PRF's fields and its mask. -/
def profileMasked (i : Nat) (p : Profile) (s : State) : State :=
  let s1 := s.modSvc i (Service.rewritten s.now p)
  if (s.svc i).profile.slotMask = p.slotMask then s1 else maskChanged i (s.svc i).profile.slotMask s1

/-- The state after the PRF's fields, its mask and its count-promos. -/
def profileCounted (i : Nat) (p : Profile) (s : State) : State :=
  if (s.svc i).profile.countPromos = p.countPromos then profileMasked i p s else deriveActive i (profileMasked i p s)

/-- A PRF of an enabled service re-evaluates AD_TIME last (R101, R115). -/
theorem profileSet_enabled {i : Nat} {s : State} (on : (s.svc i).profile.enabled = true) (p : Profile) :
    profileSet i p s = if (s.svc i).profile.advertLimit = p.advertLimit then profileCounted i p s
      else limitChanged i (profileCounted i p s) := by
  have written : (s.modProfile i fun _ => p).modSvc i (fun v =>
      { v with
        feed := { v.feed with
          timeoutSet := timeoutSetAt s.now (s.svc i).profile.feedTimeout p.feedTimeout v.feed.timeoutSet }
        sc := { v.sc with
          timeoutSet := timeoutSetAt s.now (s.svc i).profile.carriageTimeout p.carriageTimeout v.sc.timeoutSet } }) =
      s.modSvc i (Service.rewritten s.now p) := by
    rw [State.modProfile, State.modSvc_modSvc]
    exact State.modSvc_congr rfl
  unfold profileSet
  simp only [on, if_true, written]
  rfl

theorem profileMasked_only {i : Nat} {s : State} (there : i < s.services.length) (p : Profile) :
    OnlyLog (s.modSvc i fun v => (v.rewritten s.now p).remasked s.now (s.svc i).profile.slotMask p.slotMask)
      (profileMasked i p s) := by
  have masks := State.modSvc_modSvc s i (Service.rewritten s.now p)
    (Service.remasked s.now (s.svc i).profile.slotMask p.slotMask)
  unfold profileMasked
  dsimp only
  split
  · next same =>
    rw [same]
    simp only [Service.remasked, remasked_self]
    exact .refl _
  · have changed := maskChanged_only i (s.svc i).profile.slotMask (s.modSvc i (Service.rewritten s.now p))
    rw [State.modSvc_svc_same _ _ _ there, State.modSc] at changed
    exact masks ▸ changed

theorem profileCounted_only {i : Nat} {s : State} (there : i < s.services.length) (p : Profile) :
    OnlyLog (s.modSvc i (Service.reprofiled s.now p)) (profileCounted i p s) := by
  have masked := profileMasked_only there p
  have svc : (profileMasked i p s).svc i =
      ((s.svc i).rewritten s.now p).remasked s.now (s.svc i).profile.slotMask p.slotMask := by
    rw [State.svc, masked.services]
    exact State.modSvc_svc_same s i _ there
  have counted : profileCounted i p s =
      (profileMasked i p s).modSvc i (Service.recounted (s.svc i).profile.countPromos p.countPromos) := by
    unfold profileCounted
    split
    · next same => exact (State.modSvc_eq_self (by simp [Service.recounted, same])).symm
    · next changed =>
      refine State.modSvc_congr ?_
      simp only [Service.recounted, changed, if_false, svc]
      rfl
  have both := masked.modSvc i (Service.recounted (s.svc i).profile.countPromos p.countPromos)
  rw [← counted, State.modSvc_modSvc] at both
  have change : s.modSvc i (Service.reprofiled s.now p) =
      s.modSvc i (Service.recounted (s.svc i).profile.countPromos p.countPromos ∘ fun v =>
        (v.rewritten s.now p).remasked s.now (s.svc i).profile.slotMask p.slotMask) := State.modSvc_congr rfl
  rw [change]
  exact both

/-- A PRF of an enabled service is one change of it, and else CU's (R101). -/
theorem profileSet_only {i : Nat} {s : State} (there : i < s.services.length)
    (on : (s.svc i).profile.enabled = true) (p : Profile) :
    OnlyLog (s.modSvc i (Service.reprofiled s.now p)) (profileSet i p s) := by
  have counted := profileCounted_only there p
  rw [profileSet_enabled on]
  split
  · exact counted
  · exact counted.trans (limitChanged_only i _)

/-- A slot that a PRF takes out of the mask has its conditions closed where SC's marks were set (R93). -/
theorem profileSet_marksClosed {i k : Nat} {s : State} (there : i < s.services.length)
    (on : (s.svc i).profile.enabled = true) {p : Profile}
    (leaves : slotLeaves (s.svc i).profile.slotMask p.slotMask k = true) : MarksClosed i k s (profileSet i p s) := by
  have written : (s.modSvc i (Service.rewritten s.now p)).svc i = (s.svc i).rewritten s.now p :=
    State.modSvc_svc_same _ _ _ there
  have different : (s.svc i).profile.slotMask ≠ p.slotMask := fun same => by
    rw [slotLeaves_of_stands (by rw [same])] at leaves
    exact Bool.noConfusion leaves
  have masked : MarksClosed i k s (profileMasked i p s) := by
    unfold profileMasked
    dsimp only
    rw [if_neg different]
    refine (maskChanged_marksClosed ?_).ofSlot ?_
    · rw [written]
      exact leaves
    · rw [State.slot, written]
      rfl
  have counted : MarksClosed i k s (profileCounted i p s) := by
    unfold profileCounted
    split
    · exact masked
    · exact masked.trans (.ofConditions rfl)
  rw [profileSet_enabled on]
  split
  · exact counted
  · exact ⟨fun marked => (limitChanged_isOpen_other _ _ (by decide)).trans (counted.lapsed marked),
      fun marked => (limitChanged_isOpen_other _ _ (by decide)).trans (counted.gap marked)⟩

/-- A PRF of an enabled service that changes the advert limit leaves AD_TIME open where the new limit is exceeded
(R115). -/
theorem profileSet_adTime {i : Nat} {s : State} (there : i < s.services.length)
    (on : (s.svc i).profile.enabled = true) {p : Profile} (enabled : p.enabled = true)
    (changed : (s.svc i).profile.advertLimit ≠ p.advertLimit) :
    (profileSet i p s).isOpen (some i) .adTime none = decide (p.advertLimit * 48000 < (s.svc i).tally.advertTicks) := by
  have svc : (profileCounted i p s).svc i = (s.svc i).reprofiled s.now p := by
    rw [State.svc, (profileCounted_only there p).services]
    exact State.modSvc_svc_same s i _ there
  rw [profileSet_enabled on, if_neg changed, limitChanged_isOpen (by rw [svc]; exact enabled), State.overLimit, svc]
  rfl

/-- PRF leaves whether the service is enabled (R99). -/
theorem store_enabled (k : Key) (v : Value) (p : Profile) : (k.store v p).enabled = p.enabled := by
  cases k <;> cases v <;> rfl

theorem assign_enabled (as : List Assignment) (p : Profile) : (assign as p).enabled = p.enabled := by
  unfold assign
  induction as generalizing p with
  | nil => rfl
  | cons a as ih => exact (ih _).trans (store_enabled _ _ p)

/-- A PRF that would change the channel count of an enabled service is refused (R99). -/
theorem opPrf_refused {i : Nat} {settings : List (Text × Text)} {as : List Assignment} {sent : List Text} {s : State}
    (hi : i < 16) (parsed : assignmentsOf settings = .ok as) (on : (s.svc i).profile.enabled = true)
    (channels : (assign as (s.svc i).profile).channels ≠ (s.svc i).profile.channels) :
    opPrf i settings sent s = (s, some (words [ascii "!PRF", ascii "STATE", ascii "ENABLED"])) := by
  simp only [opPrf, serviceOk, Config.serviceCount, hi, decide_true, inRange_true, parsed, on, channels, ne_eq,
    not_false_eq_true, and_self, if_true]
  rfl

/-- Any other PRF of an enabled service sets its profile, and the reply shows the fields as stored (R99). -/
theorem opPrf_accepted {i : Nat} {settings : List (Text × Text)} {as : List Assignment} {sent : List Text} {s : State}
    (hi : i < 16) (parsed : assignmentsOf settings = .ok as)
    (channels : (assign as (s.svc i).profile).channels = (s.svc i).profile.channels) :
    opPrf i settings sent s = (profileSet i (assign as (s.svc i).profile) s,
      some (words ([ascii "=PRF", natText i] ++
        (as.map fun a => [a.name, a.key.show (assign as (s.svc i).profile)]).flatten ++
        (if anyClamped as then [ascii "CLAMPED"] else [])))) := by
  simp only [opPrf, serviceOk, Config.serviceCount, hi, decide_true, inRange_true, parsed, channels, ne_eq,
    not_true_eq_false, and_false, if_false]
  rfl

/-- Slot `k` of a service after a PRF of it while enabled. -/
theorem reprofiled_slot {v : Service} {k : Nat} (inRange : k < 4) (four : v.sc.slots.length = 4) (now : Nat)
    (p : Profile) : (v.reprofiled now p).sc.slots.getD k .reset =
      (v.sc.slots.getD k .reset).remasked now v.profile.slotMask p.slotMask k :=
  remasked_slot now v.profile.slotMask p.slotMask (v.rewritten now p).sc inRange four

/-- The pending cues of a service after a PRF of it while enabled. -/
theorem reprofiled_queue (v : Service) (now : Nat) (p : Profile) : (v.reprofiled now p).sc.queue =
    v.sc.queue.filter fun d => !slotLeaves v.profile.slotMask p.slotMask d.slot :=
  remasked_queue now v.profile.slotMask p.slotMask (v.rewritten now p).sc

/-- Settles O45: the refusal, and the accepted PRF as one change of the service with the conditions it closes and
opens. -/
theorem prfOfEnabledServiceActs : Obligations.PrfOfEnabledServiceActs := by
  unfold Obligations.PrfOfEnabledServiceActs
  intro s i settings as ready hi sixteen four sendable parsed on old new
  have there : i < s.services.length := sixteen ▸ hi
  obtain ⟨sending, reply, -⟩ := ready_parts ready
  refine ⟨fun channels settled => ?_, fun r channels said fit => ?_⟩
  · rw [exec_prf, verbRow_exact _ _ _ _ _ ready sendable (opPrf_refused hi parsed on channels) (by decide) settled
      sending reply]
  · have op := opPrf_accepted (sent := fieldsOf (.prf i settings)) hi parsed channels
    rw [← said] at op
    have set := profileSet_only there on new
    have runs := exec_prf i settings s
    have answered := verbRow_answered _ _ _ _ _ ready sendable op fit (set.sending.trans sending)
    have ends := verbRow_same ready sendable op fit
    generalize verbRow (.prf i settings) (opPrf i settings (fieldsOf (.prf i settings))) s = t at runs answered ends
    have svc (j : Nat) : t.svc j = (s.modSvc i (Service.reprofiled s.now new)).svc j := by
      rw [State.svc, ends.services, set.services]
      rfl
    have own : t.svc i = (s.svc i).reprofiled s.now new := (svc i).trans (State.modSvc_svc_same s i _ there)
    have slot {k : Nat} (inRange : k < 4) :
        t.slot i k = (s.slot i k).remasked s.now old.slotMask new.slotMask k := by
      rw [State.slot, own]
      exact reprofiled_slot inRange four s.now new
    have queue : (t.svc i).sc.queue =
        (s.svc i).sc.queue.filter fun d => !slotLeaves old.slotMask new.slotMask d.slot := by
      rw [own]
      exact reprofiled_queue (s.svc i) s.now new
    refine ⟨t, ⟨runs, answered⟩, by rw [own]; rfl,
      fun j other => (svc j).trans (State.modSvc_svc_other _ _ (Ne.symm other)), by rw [own]; rfl, ?_,
      by rw [own]; rfl, by rw [own]; rfl, by rw [own]; rfl, ends.tb.trans set.tb, ends.sp.trans set.sp,
      ends.free.trans (congrArg Pool.free set.pool :),
      ends.extents.trans (congrArg Archive.extents set.am), fun k inRange was isNot => ?_,
      fun k inRange wasNot is => ?_, fun k inRange stands => ?_, by rw [own]; rfl, fun changed => ?_⟩
    · rw [own]
      exact remasked_timeoutSet s.now old.slotMask new.slotMask ((s.svc i).rewritten s.now new).sc
    · have leaves := (slotLeaves_iff inRange old.slotMask new.slotMask).mpr ⟨was, isNot⟩
      have closed := profileSet_marksClosed there on leaves
      refine ⟨?_, fun c pending same => ?_, fun marked => ?_, fun marked => ?_⟩
      · exact (slot inRange).trans (Slot.remasked_of_leaves leaves _ _)
      · rw [queue, List.mem_filter, same, leaves] at pending
        exact Bool.noConfusion pending.2
      · exact (isOpen_congr ends.conditions _ _ _).trans (closed.lapsed marked)
      · exact (isOpen_congr ends.conditions _ _ _).trans (closed.gap marked)
    · have joins := (slotJoins_iff inRange old.slotMask new.slotMask).mpr ⟨wasNot, is⟩
      exact (slot inRange).trans (Slot.remasked_of_joins joins _ _)
    · refine ⟨(slot inRange).trans (Slot.remasked_of_stands stands _ _), ?_⟩
      rw [queue]
      exact filter_staying_cues (slotLeaves_of_stands stands) _
    · exact (isOpen_congr ends.conditions _ _ _).trans
        (profileSet_adTime there on ((assign_enabled as old).trans on) changed)

end Sys2Proof.Machine
end

section
/-! SUPPORT. The ALARM output, and its obligation (R113). -/

namespace Sys2Proof.Machine

/-- A condition counts for a service when it is the service's own, or device-wide and the service is enabled (R110,
R112). -/
theorem mem_conditionsOf {s : State} {i : Nat} {c : Condition} : c ∈ s.conditionsOf i ↔
    c ∈ s.cu.conditions ∧ (c.service = some i ∨ (c.service = none ∧ (s.svc i).profile.enabled = true)) := by
  rw [State.conditionsOf, (sortByKey_perm _ _).mem_iff]
  simp

/-- What makes a service assert ALARM (R113). -/
theorem serviceAlarms_iff {s : State} {i : Nat} : s.serviceAlarms i = true ↔
    (s.svc i).unacknowledged = true ∨ ∃ c ∈ s.conditionsOf i, inMask (s.svc i).profile.alarmMask c.cls = true := by
  rw [State.serviceAlarms, Bool.or_eq_true, List.any_eq_true]

/-- ALARM stands with the latch, or with a service that asserts it (R113). -/
theorem alarm_iff {s : State} :
    s.alarm = true ↔ s.sp.faultLatched = true ∨ ∃ i, i < 16 ∧ s.serviceAlarms i = true := by
  simp only [State.alarm, Bool.or_eq_true, List.any_eq_true, mem_allServices]

/-- The latch asserts ALARM on its own (R113, R144). -/
theorem alarm_of_faultLatched {s : State} (latched : s.sp.faultLatched = true) : s.alarm = true :=
  alarm_iff.mpr (.inl latched)

/-- After a reset nothing asserts ALARM (R185). -/
theorem resetTo_alarm (cause : ResetCause) (s : State) : (resetTo cause s).alarm = false :=
  show State.reset.alarm = false by decide

/-- A line break leaves what ALARM follows (R179). -/
theorem breakLine_alarm (s : State) : (breakLine s).alarm = s.alarm := by
  unfold breakLine
  dsimp only
  split <;> rfl

/-- Settles O53: the three inputs, taken apart; a reset clears each of them, and a line break touches none. -/
theorem alarmFollowsItsInputs : Obligations.AlarmFollowsItsInputs := by
  unfold Obligations.AlarmFollowsItsInputs
  refine ⟨fun s => ?_, fun s t reset => ?_, fun s t broken => ?_⟩
  · simp only [alarm_iff, serviceAlarms_iff, mem_conditionsOf, and_assoc, and_comm]
  · obtain powerOn | pin | ⟨due, applied⟩ := reset
    · rw [← Host.Outcome.next.inj powerOn]
      exact resetTo_alarm .power s
    · rw [← Host.Outcome.next.inj pin]
      exact resetTo_alarm .pin s
    · rw [exec_rstResetApplied, if_pos due] at applied
      rw [← Host.Outcome.next.inj applied]
      exact resetTo_alarm .command s
  · rw [← Host.Outcome.next.inj broken]
    exact breakLine_alarm s

end Sys2Proof.Machine
end

section
/-! SUPPORT. Records that a ready part executes with nothing more to follow, and the obligation of the read-outs (R100,
R123, R162, R170, R173, R181 to R184). -/

namespace Sys2Proof.Machine

/-! ### Records whose effect leaves nothing for the end of the event (R173) -/

/-- The execution of a record whose operation touches neither the reply slot nor the transmitter, and leaves the part
settled. -/
theorem exec_record {i : Instr} {s e : State} {r : Text}
    (runs : exec i s = .next (verbRow i (operate i (fieldsOf i)) s)) (ready : s.ready = true)
    (sent : sendable i = true) (fit : fits r = true) (op : operate i (fieldsOf i) s = (e, some r))
    (settled : e.settled = true) (sending : e.lc.sending = s.lc.sending) (reply : e.lc.reply = s.lc.reply) :
    exec i s = .next (e.replying r) := by
  obtain ⟨idle, empty, -⟩ := ready_parts ready
  rw [runs, verbRow_exact _ _ _ _ _ ready sent op fit settled (sending.trans idle) (reply.trans empty)]

/-- The execution of a record whose operation is its reply alone. -/
theorem exec_readout {i : Instr} {s : State} {r : Text}
    (runs : exec i s = .next (verbRow i (operate i (fieldsOf i)) s)) (ready : s.ready = true)
    (settled : s.settled = true) (sent : sendable i = true) (fit : fits r = true)
    (op : operate i (fieldsOf i) s = (s, some r)) : exec i s = .next (s.replying r) :=
  exec_record runs ready sent fit op settled rfl rfl

/-! ### Identifiers in their ranges (test 4 of R173) -/

theorem serviceOk_of_lt {i : Nat} (hi : i < 16) : serviceOk i = true := decide_eq_true hi

theorem slotOk_of_lt {k : Nat} (hk : k < 8) : slotOk k = true := decide_eq_true hk

/-! ### The read-outs (R100, R123, R162, R170, R181 to R184) -/

/-- With every keyword known PRQ shows each of them (R100). -/
theorem opPrq_known {svc : Nat} {keys sent : List Text} {s : State} (hi : svc < 16)
    (known : ∀ k ∈ keys, (keyOf k).isSome = true) :
    opPrq svc keys sent s = say "PRQ" (natText svc ::
      (keys.map fun k => [k, optText (fun key => Key.show key (s.svc svc).profile) (keyOf k)]).flatten) s := by
  have none_unknown : keys.find? (fun k => (keyOf k).isNone) = none := by
    refine List.find?_eq_none.mpr fun k hk unknown => ?_
    rw [← Option.not_isSome, known k hk] at unknown
    exact Bool.false_ne_true unknown
  simp only [opPrq, serviceOk_of_lt hi, inRange_true, none_unknown]

/-- A depth above the stack names no entry (R184). -/
theorem opCtq_above {svc d : Nat} {sent : List Text} {s : State} (hi : svc < 16)
    (above : (s.svc svc).st.stack.length < d) :
    opCtq svc (.context d none) sent s = deny "CTQ" "NONE" [natText (s.svc svc).st.stack.length] s := by
  have depth : depthOk d = true := decide_eq_true (by omega)
  simp only [opCtq, serviceOk_of_lt hi, depth, inRange_true, withContext, if_pos above, Option.getD_none, true_or,
    decide_true]

/-- HLQ without an id shows the hold with the lowest one (R162). -/
theorem opHlq_first {h : Hold} {rest : List Hold} {sent : List Text} {s : State}
    (held : s.am.holds.filter (fun g => decide (1 ≤ g.id)) = h :: rest) :
    opHlq none sent s = say "HLQ" (s.holdTexts h rest) s := by
  have id : idOk 1 = true := by decide
  simp only [opHlq, Option.getD_none, id, inRange_true, held]

/-- LOG of a held entry shows its first part (R123). -/
theorem opLog_first {n o : Nat} {e : Entry} {sent : List Text} {s : State} (least : 1 ≤ n) (most : n ≤ 4294967295)
    (taken : n ≤ s.cl.lastSeq) (held : s.heldEntry n = some e) (oldest : s.oldestHeld = some o)
    (parts : 1 ≤ e.parts.length) : opLog n none sent s = (s, some (e.partReply 1)) := by
  have sequence : sequenceOk n = true := decide_eq_true ⟨least, most⟩
  have part : decide (1 ≤ 1 ∧ 1 ≤ 8) = true := by decide
  simp only [opLog, sequence, Option.getD_none, part, inRange_true, withEntry, if_neg (Nat.not_lt.mpr taken), oldest,
    held, if_neg (Nat.not_lt.mpr parts)]

/-- Settles O41: each read-out's operation is its reply alone, and STA's the clearing of its flag. -/
theorem readoutsChangeNothing : Obligations.ReadoutsChangeNothing := by
  unfold Obligations.ReadoutsChangeNothing
  refine ⟨fun s ready settled i r sent fit readout => ?_, fun s r ready settled reply fit => ?_⟩
  · obtain ⟨svc, hi, rfl, rfl⟩ | ⟨svc, hi, rfl, rfl⟩ | ⟨svc, keys, hi, rfl, known, rfl⟩ | ⟨svc, hi, rfl, rfl⟩ |
      ⟨svc, d, hi, above, rfl, rfl⟩ | ⟨h, rest, rfl, held, rfl⟩ | ⟨rfl, rfl⟩ |
      ⟨n, e, o, rfl, least, most, taken, held, oldest, parts, rfl⟩ := readout
    · refine exec_readout rfl ready settled sent fit ?_
      simp only [operate, opMtr, serviceOk_of_lt hi, inRange_true, say]
    · refine exec_readout rfl ready settled sent fit ?_
      simp only [operate, opSvs, serviceOk_of_lt hi, inRange_true, say]
    · exact exec_readout rfl ready settled sent fit (opPrq_known hi known)
    · refine exec_readout rfl ready settled sent fit ?_
      simp only [operate, opCtq, serviceOk_of_lt hi, inRange_true, say]
    · exact exec_readout rfl ready settled sent fit (opCtq_above hi above)
    · exact exec_readout rfl ready settled sent fit (opHlq_first held)
    · exact exec_readout rfl ready settled sent fit rfl
    · exact exec_readout rfl ready settled sent fit (opLog_first least most taken held oldest parts)
  · subst reply
    exact exec_record (e := s.modLc fun l => { l with dropped := false }) rfl ready (by decide) fit rfl settled rfl rfl

end Sys2Proof.Machine
end

section
/-! SUPPORT. The lengths and forms of records and replies, and the obligation of the slot tables and of the
unacknowledged-failure flag (R108, R163, R171, R174, R178). -/

namespace Sys2Proof.Machine

/-! ### The lengths and forms of records and replies (R171, R174) -/

/-- The positions that fields take on the line, each with the space before it. -/
def fieldsRoom (ts : List Text) : Nat := (ts.map fun t => t.length + 1).sum

theorem words_length (v : Text) (ts : List Text) : (words (v :: ts)).length = v.length + fieldsRoom ts := by
  induction ts generalizing v with
  | nil => rfl
  | cons t ts ih =>
    simp only [words, List.length_append, List.length_cons, ih, fieldsRoom, List.map_cons, List.sum_cons]
    omega

/-- A record of fields in their forms that leave room for its verb meets R171. -/
theorem sendable_of_fields {i : Instr} (text : recordText i = words (verbOf i :: fieldsOf i))
    (verb : (verbOf i).length = 3) (form : formFault i = none) (fields : ∀ t ∈ fieldsOf i, faultyField t = false)
    (room : fieldsRoom (fieldsOf i) ≤ 156) : sendable i = true := by
  have length : (recordText i).length ≤ Config.recordChars := by
    rw [text, words_length, verb]
    exact (Nat.add_le_add_left room 3).trans (by decide)
  have noFault : syntaxFault i = none := by rw [syntaxFault, form, firstPosition_none fields]; rfl
  rw [sendable, noFault, Bool.and_eq_true]
  exact ⟨decide_eq_true length, rfl⟩

/-- A reply whose fields leave room for its verb meets R174. -/
theorem fits_of_fields {v : Text} {ts : List Text} (verb : v.length = 4) (room : fieldsRoom ts ≤ 156) :
    fits (words (v :: ts)) = true := by
  rw [fits, words_length, verb]
  exact decide_eq_true ((Nat.add_le_add_left room 4).trans (by decide))

/-- A field in its form, of at most `n` characters. -/
def plainField (n : Nat) (t : Text) : Prop := faultyField t = false ∧ t.length ≤ n

/-- A number of at most 12 digits is a field of as many characters. -/
theorem natText_plain {k n : Nat} (digits : n < 10 ^ (k + 1)) (most : k ≤ 11) : plainField (k + 1) (natText n) :=
  ⟨natText_fieldOk n (digits.trans_le (Nat.pow_le_pow_right (by decide) (by omega))), natText_bound k n digits⟩

theorem meterText_plain (m : Meter) : plainField 4 m.text := by cases m <;> exact ⟨by decide, by decide⟩

theorem actionText_plain (a : TriggerAction) : plainField 6 a.text := by cases a <;> exact ⟨by decide, by decide⟩

theorem eventText_plain {e : TriggerEvent} (named : e ∈ triggerEvents) : plainField 24 e.text :=
  have all : ∀ e ∈ triggerEvents, faultyField e.text = false ∧ e.text.length ≤ 24 := by decide
  all e named

/-! ### Words that name what they show (R163, R178) -/

theorem meterOf_text (m : Meter) : meterOf m.text = some m := by cases m <;> decide

theorem actionOf_text (a : TriggerAction) : actionOf a.text = some a := by cases a <;> decide

theorem eventOf_text {e : TriggerEvent} (named : e ∈ triggerEvents) : eventOf e.text = some e :=
  have all : ∀ e ∈ triggerEvents, eventOf e.text = some e := by decide
  all e named

theorem triggerService_natText {i : Nat} (hi : i < 16) : triggerService (natText i) = some (some i) :=
  have all : ∀ i < 16, triggerService (natText i) = some (some i) := by decide
  all i hi

/-- A number inside its range is stored as sent (section 5.3 of the scope). -/
theorem clampNat_eq {lo hi n : Nat} (least : lo ≤ n) (most : n ≤ hi) : clampNat lo hi n = n := by
  rw [clampNat, if_neg (Nat.not_lt.mpr least), if_neg (Nat.not_lt.mpr most)]

/-! ### Watches (R178) -/

/-- WCH sets the slot whole, its next due tick one interval from now. -/
theorem exec_wch {s : State} {k i n : Nat} (m : Meter) (ready : s.ready = true) (settled : s.settled = true)
    (hk : k < 8) (hi : i < 16) (least : 1 ≤ n) (most : n ≤ 600) :
    exec (.wch k i m.text n) s =
      .next ((setWatch k (some ⟨i, m, n, laterTick s.now (n * Config.tenthTicks)⟩) s).replying
        (words [ascii "=WCH", natText k, natText i, m.text, natText n])) := by
  obtain ⟨slotForm, slotLength⟩ := natText_plain (k := 0) (n := k) (by omega) (by decide)
  obtain ⟨serviceForm, serviceLength⟩ := natText_plain (k := 1) (n := i) (by omega) (by decide)
  obtain ⟨meterForm, meterLength⟩ := meterText_plain m
  obtain ⟨intervalForm, intervalLength⟩ := natText_plain (k := 2) (n := n) (by omega) (by decide)
  have room : fieldsRoom [natText k, natText i, m.text, natText n] ≤ 156 := by
    simp only [fieldsRoom, List.map_cons, List.map_nil, List.sum_cons, List.sum_nil]
    omega
  refine exec_record rfl ready (sendable_of_fields rfl rfl rfl ?_ room) (fits_of_fields rfl room) ?_ settled rfl rfl
  · simp [fieldsOf, slotForm, serviceForm, meterForm, intervalForm]
  · simp only [operate, opWch, slotOk_of_lt hk, serviceOk_of_lt hi, inRange_true, meterOf_text, clampNat_eq least most,
      ne_eq, not_true_eq_false, decide_false]
    rfl

/-- WCX clears the slot. -/
theorem exec_wcx {s : State} {k : Nat} (ready : s.ready = true) (settled : s.settled = true) (hk : k < 8) :
    exec (.wcx k) s = .next ((setWatch k none s).replying (words [ascii "=WCX", natText k])) := by
  refine exec_record rfl ready (sendable_ofNumber (by omega) rfl rfl rfl rfl) (fits_ofNumber rfl k) ?_ settled rfl rfl
  simp only [operate, opWcx, slotOk_of_lt hk, inRange_true]
  rfl

/-! ### Capture triggers (R163) -/

/-- TRG sets the slot whole. -/
theorem exec_trg {s : State} {k i pre post : Nat} {e : TriggerEvent} (a : TriggerAction) (ready : s.ready = true)
    (settled : s.settled = true) (hk : k < 8) (hi : i < 16) (before : pre ≤ 600) (after : post ≤ 600)
    (named : e ∈ triggerEvents) :
    exec (.trg k e.text (natText i) a.text pre post) s =
      .next ((s.modTriggers fun l => setAt l k (some ⟨e, some i, a, pre, post⟩)).replying
        (words [ascii "=TRG", natText k, e.text, natText i, a.text, natText pre, natText post])) := by
  obtain ⟨slotForm, slotLength⟩ := natText_plain (k := 0) (n := k) (by omega) (by decide)
  obtain ⟨eventForm, eventLength⟩ := eventText_plain named
  obtain ⟨serviceForm, serviceLength⟩ := natText_plain (k := 1) (n := i) (by omega) (by decide)
  obtain ⟨actionForm, actionLength⟩ := actionText_plain a
  obtain ⟨preForm, preLength⟩ := natText_plain (k := 2) (n := pre) (by omega) (by decide)
  obtain ⟨postForm, postLength⟩ := natText_plain (k := 2) (n := post) (by omega) (by decide)
  have room : fieldsRoom [natText k, e.text, natText i, a.text, natText pre, natText post] ≤ 156 := by
    simp only [fieldsRoom, List.map_cons, List.map_nil, List.sum_cons, List.sum_nil]
    omega
  refine exec_record rfl ready (sendable_of_fields rfl rfl rfl ?_ room) (fits_of_fields rfl room) ?_ settled rfl rfl
  · simp [fieldsOf, slotForm, eventForm, serviceForm, actionForm, preForm, postForm]
  · simp only [operate, opTrg, slotOk_of_lt hk, inRange_true, triggerService_natText hi, eventOf_text named,
      actionOf_text, clampNat_eq (Nat.zero_le _) before, clampNat_eq (Nat.zero_le _) after, ne_eq, not_true_eq_false,
      or_self, decide_false]
    rfl

/-- TRX clears the slot. -/
theorem exec_trx {s : State} {k : Nat} (ready : s.ready = true) (settled : s.settled = true) (hk : k < 8) :
    exec (.trx k) s =
      .next ((s.modTriggers fun l => setAt l k none).replying (words [ascii "=TRX", natText k])) := by
  refine exec_record rfl ready (sendable_ofNumber (by omega) rfl rfl rfl rfl) (fits_ofNumber rfl k) ?_ settled rfl rfl
  simp only [operate, opTrx, slotOk_of_lt hk, inRange_true]
  rfl

/-! ### The unacknowledged-failure flag (R108) -/

/-- ACK clears the flag and shows the state it had. -/
theorem exec_ack {s : State} {i : Nat} (ready : s.ready = true) (settled : s.settled = true) (hi : i < 16) :
    exec (.ack i) s = .next ((s.modSvc i fun v => { v with unacknowledged := false }).replying
      (words [ascii "=ACK", natText i, flagText (s.svc i).unacknowledged])) := by
  have flagLength : (flagText (s.svc i).unacknowledged).length ≤ 5 := by
    cases (s.svc i).unacknowledged <;> decide
  have numberLength := natText_length i
  have room : fieldsRoom [natText i, flagText (s.svc i).unacknowledged] ≤ 156 := by
    simp only [fieldsRoom, List.map_cons, List.map_nil, List.sum_cons, List.sum_nil]
    omega
  refine exec_record rfl ready (sendable_ofNumber (by omega) rfl rfl rfl rfl) (fits_of_fields rfl room) ?_ settled
    rfl rfl
  simp only [operate, opAck, serviceOk_of_lt hi, inRange_true]
  rfl

/-- Settles O48: the five records, each by its own rule. -/
theorem slotTablesAndFlagsAreSet : Obligations.SlotTablesAndFlagsAreSet := by
  unfold Obligations.SlotTablesAndFlagsAreSet
  intro s k i ready settled hk hi
  exact ⟨fun n m least most => exec_wch m ready settled hk hi least most, exec_wcx ready settled hk,
    fun pre post e a before after named => exec_trg a ready settled hk hi before after named,
    exec_trx ready settled hk, exec_ack ready settled hi⟩

end Sys2Proof.Machine
end

section
/-! SUPPORT. How operations of the storage port fail: the latch, the mount, the format, and the obligation of the second
failed write and of the operation timeout (R139, R143, R144, R186, R188). -/

namespace Sys2Proof.Machine

/-! ### Operations that leave SP, the write queue and the filling buffers -/

/-- SP, the write queue and the filling buffers stand. -/
structure KeepsStaging (s t : State) : Prop where
  sp : t.sp = s.sp
  writeQueue : t.writeQueue = s.writeQueue
  filling : ∀ i, (t.svc i).rc.filling = (s.svc i).rc.filling

namespace KeepsStaging

variable {s t u : State}

theorem refl (s : State) : KeepsStaging s s := ⟨rfl, rfl, fun _ => rfl⟩

theorem trans (h : KeepsStaging s t) (k : KeepsStaging t u) : KeepsStaging s u :=
  ⟨k.sp.trans h.sp, k.writeQueue.trans h.writeQueue, fun i => (k.filling i).trans (h.filling i)⟩

theorem ofSame (h : SameCore s t) : KeepsStaging s t :=
  ⟨h.sp, h.writeQueue, fun i => by rw [State.svc, State.svc, h.services]⟩

theorem ofLog (h : OnlyLog s t) : KeepsStaging s t :=
  ⟨h.sp, h.writeQueue, fun i => by rw [State.svc, State.svc, h.services]⟩

theorem modRc {f : Recorder → Recorder} (kept : ∀ r, (f r).filling = r.filling) (i : Nat) (s : State) :
    KeepsStaging s (s.modRc i f) :=
  ⟨rfl, rfl, fun j => State.modSvc_svc_keeps (fun v => v.rc.filling) s i j fun v => kept v.rc⟩

theorem foldl {α : Type} {f : State → α → State} (h : ∀ s a, KeepsStaging s (f s a)) (l : List α) (s : State) :
    KeepsStaging s (l.foldl f s) := by
  induction l generalizing s with
  | nil => exact refl s
  | cons a l ih => exact (h s a).trans (ih _)

theorem recordLoss (i : Nat) (cause : GapCause) (opened : GapRecord) (s : State) :
    KeepsStaging s (recordLoss i cause opened s) := by
  unfold Machine.recordLoss
  split
  · exact (ofLog (openCond_only _ _ _ _ s)).trans (modRc (by exact fun _ => rfl) i _)
  · exact refl s

theorem issueLoss (i : Nat) (cause : GapCause) (s : State) : KeepsStaging s (issueLoss i cause s) :=
  (modRc (by exact fun _ => rfl) i s).trans (recordLoss i _ _ _)

end KeepsStaging

/-! ### The latch (R144) -/

/-- The write queue and every filling buffer are discarded (R144, step 3). -/
def State.emptied (s : State) : State :=
  (allServices.foldl (fun t i => t.modRc i fun r => { r with filling := none }) s).modQueue fun _ => []

/-- The same change of several services, taken in turn, is one of the list of services. -/
theorem foldl_modSvc_eq (f : Service → Service) (l : List Nat) (s : State) :
    l.foldl (fun t i => t.modSvc i f) s = { s with services := l.foldl (fun vs i => vs.modify i f) s.services } := by
  induction l generalizing s with
  | nil => rfl
  | cons i l ih => rw [List.foldl_cons, ih]; rfl

theorem emptied_eq (s : State) : s.emptied = { s with
    services := allServices.foldl (fun vs i => vs.modify i fun v => { v with rc := { v.rc with filling := none } })
      s.services
    writeQueue := [] } := by
  unfold State.emptied
  generalize allServices = l
  exact congrArg (fun t => t.modQueue fun _ => []) (foldl_modSvc_eq _ l s)

theorem emptied_sp (s : State) : s.emptied.sp = s.sp := by rw [emptied_eq]

theorem emptied_filling {i : Nat} (hi : i < 16) (s : State) : (s.emptied.svc i).rc.filling = none := by
  rw [State.svc, emptied_eq, List.getD_eq_getElem?_getD, foldl_modify_getElem? _ _ allServices_nodup,
    if_pos (mem_allServices.mpr hi)]
  cases s.services[i]? <;> rfl

/-- What R144 leaves: the latch is set, and no page is queued or being filled. -/
structure FaultLatched (s t : State) : Prop where
  sp : t.sp = { s.sp with faultLatched := true }
  writeQueue : t.writeQueue = []
  filling : ∀ i, i < 16 → (t.svc i).rc.filling = none

theorem FaultLatched.keeps {s t u : State} (h : FaultLatched s t) (k : KeepsStaging t u) : FaultLatched s u :=
  ⟨k.sp.trans h.sp, k.writeQueue.trans h.writeQueue, fun i hi => (k.filling i).trans (h.filling i hi)⟩

theorem openDevice_only (c : CondClass) (s : State) : OnlyLog s (openDevice c s) := by constructor <;> rfl

theorem latchSteps_latches (target : WriteTarget) (failed : Option Buffer) (s : State) :
    FaultLatched s (latchSteps target failed s) := by
  have logged := (openDevice_only .storageFault (s.modSp fun p => { p with faultLatched := true })).trans
    (logTake_only none (.storageFault target) _)
  have emptied (u : State) (latched : u.sp = { s.sp with faultLatched := true }) : FaultLatched s u.emptied :=
    ⟨(emptied_sp u).trans latched, rfl, fun _ hi => emptied_filling hi u⟩
  exact (((emptied _ logged.sp).keeps (.foldl (fun t i => .issueLoss i .fault t) _ _)).keeps
    (.foldl (fun t i => .recordLoss i .fault .placement t) _ _)).keeps (.ofSame (abortExport_same _ _))

/-- At the second failure in a row SP latches (R144). -/
theorem latchIfDue_latches {s : State} (target : WriteTarget) (failed : Option Buffer) (due : s.sp.failures = 2)
    (clear : s.sp.faultLatched = false) : FaultLatched s (latchIfDue target failed s) := by
  have condition : Config.faultFailures ≤ s.sp.failures ∧ ¬ s.sp.faultLatched = true :=
    ⟨due.ge, by rw [clear]; exact Bool.false_ne_true⟩
  rw [latchIfDue, if_pos condition]
  have reserved := logReserve_same (latchEntries target failed s) s
  exact { latchSteps_latches target failed _ with sp := by rw [(latchSteps_latches target failed _).sp, reserved.sp] }

/-- The latch starts no operation and ends none (R144). -/
theorem latchIfDue_operation (target : WriteTarget) (failed : Option Buffer) (s : State) :
    (latchIfDue target failed s).sp.operation = s.sp.operation := by
  unfold latchIfDue
  split
  · rw [(latchSteps_latches target failed _).sp, (logReserve_same _ s).sp]
  · rfl

/-- While STORAGE_FAULT is latched the port starts nothing (R144). -/
theorem exec_spGrant_latched {s : State} (latched : s.sp.faultLatched = true) : exec .spGrant s = .next s := by
  have barred : s.mayGrant = false := by rw [State.mayGrant, latched, Bool.not_true, Bool.and_false]
  show Host.Outcome.next (if s.mayGrant then _ else s) = _
  rw [barred, if_neg Bool.false_ne_true]

/-! ### The ends of operations (R139) -/

section Ends

variable {s : State}

theorem exec_directoryWriteDone {p : Nat} {image : DirectoryImage} (op : s.sp.operation = some (.directory p image))
    (ok : Bool) : exec (.directoryWriteDone ok) s = .next (settle (directoryWriteEnded ok p image s)) := by
  show execDirectoryWriteDone ok s = _
  rw [execDirectoryWriteDone, op]

theorem exec_logPageWriteDone {n boot : Nat} {es : List Entry} {overflowed : Bool}
    (op : s.sp.operation = some (.log n boot es overflowed)) (ok : Bool) :
    exec (.logPageWriteDone ok) s = .next (settle (logWriteEnded ok n s)) := by
  show execLogPageWriteDone ok s = _
  rw [execLogPageWriteDone, op]

theorem exec_recordedWriteFailure {e page : Nat} {b : Buffer} (op : s.sp.operation = some (.recorded e page b)) :
    exec .recordedWriteFailure s = .next (settle (recordedFailed e page b s)) := by
  show execRecordedWriteFailure s = _
  rw [execRecordedWriteFailure, op]

theorem exec_exportReadDone {e p : Nat} (op : s.sp.operation = some (.exportRead e p)) (page : Option (List Byte)) :
    exec (.exportReadDone page) s = .next (settle (exportReadEnded page s)) := by
  show execExportReadDone page s = _
  rw [execExportReadDone, op]

/-- The page operation of a mount, a read or a write, ends as the answers say. -/
theorem exec_mountEnd {op : Operation} (inFlight : s.sp.operation = some op)
    (mount : (∃ a, op = .mountRead a) ∨ ∃ image, op = .mountWrite image) (answers : List PageAnswer) :
    exec (.mountEnd answers) s = .next (settle (answers.foldl mountAnswered s)) := by
  show execMountEnd answers s = _
  obtain ⟨a, rfl⟩ | ⟨image, rfl⟩ := mount <;> rw [execMountEnd, inFlight]

theorem exec_formatEnd {page : Nat} {image : DirectoryImage} (op : s.sp.operation = some (.formatWrite page image))
    (answers : List Bool) : exec (.formatEnd answers) s = .next (settle (answers.foldl formatAnswered s)) := by
  show execFormatEnd answers s = _
  rw [execFormatEnd, op]

/-- 250 ms after its grant the operation in flight fails. -/
theorem exec_storageOperationTimeout {op : Operation} (inFlight : s.sp.operation = some op)
    (due : 12000 ≤ elapsed s.tb.stationTime s.sp.grantTick) :
    exec .storageOperationTimeout s = .next (settle (operationFails op s)) := by
  show execStorageOperationTimeout s = _
  rw [execStorageOperationTimeout, inFlight]
  exact congrArg Host.Outcome.next (if_pos due)

end Ends

/-! ### What a mount or a format that ends without an archive leaves of SP (R186 to R188) -/

theorem foldl_sp {α : Type} {f : State → α → State} (h : ∀ s a, (f s a).sp = s.sp) (l : List α) (s : State) :
    (l.foldl f s).sp = s.sp := by
  induction l generalizing s with
  | nil => rfl
  | cons a l ih => exact (ih _).trans (h s a)

theorem ite_sp {c : Prop} [Decidable c] {s t u : State} (h : t.sp = s.sp) (k : u.sp = s.sp) :
    (if c then t else u).sp = s.sp := by
  split
  · exact h
  · exact k

theorem enableService_sp (i : Nat) (s : State) : (enableService i s).sp = s.sp := (logTake_same _ _ _).sp

theorem startUpGap_sp (s : State) (i : Nat) : (startUpGap s i).sp = s.sp := (openCond_only _ _ _ _ s).sp

theorem startSupplyFlush_sp (s : State) : (startSupplyFlush s).sp = s.sp :=
  (flushStep_same _).sp.trans <|
    (foldl_sp (fun t i => (intakeLoss_within i .supply t).sp) _ _).trans <|
      foldl_sp (fun t i => (queueFilling_within i false t).sp) _ _

theorem assertSupply_sp (s : State) : (assertSupply s).sp = s.sp :=
  ite_sp ((startSupplyFlush_sp _).trans (logReserve_same _ s).sp) rfl

theorem enterRun_sp (shutdown : Shutdown) (outcome : MountOutcome) (s : State) :
    (enterRun shutdown outcome s).sp = s.sp := by
  have supplied (t : State) : (if t.part.lowSupply then assertSupply t else t).sp = t.sp :=
    ite_sp (assertSupply_sp t) rfl
  have lost (t : State) : (if t.tb.refState = .holdover then
      logTake none (.refLost t.tb.lastEdge) (openDevice .refLost t) else t).sp = t.sp :=
    ite_sp (logTake_same _ _ _).sp rfl
  exact (supplied _).trans <| (foldl_sp startUpGap_sp _ _).trans <|
    (foldl_sp (fun t i => enableService_sp i t) _ _).trans <| (lost _).trans (logTake_same _ _ _).sp

theorem reportMount_same (outcome : MountOutcome) (s : State) : SameCore s (reportMount outcome s) := by
  unfold reportMount
  dsimp only
  split
  · exact (logTake_same _ _ s).trans (logTake_same _ _ _)
  · exact logTake_same _ _ s

theorem mountEndsWithout_sp (state : ArchiveState) (outcome : MountOutcome) (s : State) :
    (mountEndsWithout state outcome s).sp = s.sp :=
  ite_sp (grouped_same (reportMount_same outcome) _).sp (enterRun_sp .unknown outcome _)

/-! ### Operations that fail (R139) -/

theorem exportReadEnded_operation (page : Option (List Byte)) (s : State) :
    (exportReadEnded page s).sp.operation = none := by
  unfold exportReadEnded
  dsimp only
  split
  · rfl
  · split
    · exact congrArg StoragePort.operation (endExport_same _ (endOperation s)).sp
    · rfl

theorem failRecorded_operation (e page : Nat) (b : Buffer) (s : State) :
    (failRecorded e page b s).sp.operation = none := by
  unfold failRecorded
  dsimp only
  split
  · exact latchIfDue_operation _ _ _
  · split
    · exact congrArg StoragePort.operation (KeepsStaging.issueLoss _ _ _).sp
    · rfl

/-- A mount's page operation that fails ends the mount, and no operation follows (R186). -/
theorem mountAnswered_failed {s : State} {op : Operation} (inFlight : s.sp.operation = some op)
    (mount : (∃ a, op = .mountRead a) ∨ ∃ image, op = .mountWrite image) :
    mountAnswered s .failed = mountEndsWithout .unavailable .unavailable (endOperation s) := by
  obtain ⟨a, rfl⟩ | ⟨image, rfl⟩ := mount <;> simp only [mountAnswered, inFlight]

/-- A format's write that fails ends the format (R188). -/
theorem formatAnswered_failed {s : State} {page : Nat} {image : DirectoryImage}
    (op : s.sp.operation = some (.formatWrite page image)) :
    formatAnswered s false = formatFailed page (endOperation s) := by
  simp only [formatAnswered, op, Bool.false_eq_true, if_false]

theorem formatFailed_operation (page : Nat) (s : State) : (formatFailed page s).sp.operation = s.sp.operation :=
  (latchIfDue_operation _ _ _).trans
    (congrArg StoragePort.operation (grouped_same (reportMount_same .failed) _).sp :)

/-- Of whatever kind the operation in flight is, its failure leaves the port free (R139). -/
theorem operationFails_free {s : State} {op : Operation} (inFlight : s.sp.operation = some op) :
    (operationFails op s).sp.operation = none := by
  cases op with
  | directory page image => exact latchIfDue_operation _ _ _
  | log n boot es overflowed => exact latchIfDue_operation _ _ _
  | recorded e page b => exact failRecorded_operation e page b _
  | exportRead e page => exact exportReadEnded_operation none s
  | mountRead a =>
    rw [operationFails, mountAnswered_failed inFlight (.inl ⟨a, rfl⟩), mountEndsWithout_sp]
    rfl
  | mountWrite image =>
    rw [operationFails, mountAnswered_failed inFlight (.inr ⟨image, rfl⟩), mountEndsWithout_sp]
    rfl
  | formatWrite page image =>
    rw [operationFails, formatAnswered_failed inFlight, formatFailed_operation]
    rfl

/-- Settles O26: the second failure meets the latch's condition, and a timeout is the failure of the operation in
flight. -/
theorem failuresLatchAndTimeOut : Obligations.FailuresLatchAndTimeOut := by
  unfold Obligations.FailuresLatchAndTimeOut
  refine ⟨fun s p image op once clear => ?_, fun s op inFlight due => ?_⟩
  · have counted : (countFailure ((endOperation s).markDirty p)).sp =
        { s.sp with operation := none, failures := 2 } :=
      show { s.sp with operation := none, failures := s.sp.failures + 1 } = _ by rw [once]
    have ends := (latchIfDue_latches (.directory p) none (congrArg StoragePort.failures counted)
      ((congrArg StoragePort.faultLatched counted).trans clear)).keeps (.ofSame (settle_same _))
    have latched := congrArg StoragePort.faultLatched ends.sp
    refine ⟨_, exec_directoryWriteDone op false, ends.sp.trans (by rw [counted]), ends.writeQueue, ends.filling,
      alarm_of_faultLatched latched, exec_spGrant_latched latched⟩
  · refine ⟨_, exec_storageOperationTimeout inFlight due,
      (congrArg StoragePort.operation (settle_same _).sp).trans (operationFails_free inFlight), ?_⟩
    cases op with
    | directory p image => exact (exec_directoryWriteDone inFlight false).symm
    | log n boot es overflowed => exact (exec_logPageWriteDone inFlight false).symm
    | recorded e page b => exact (exec_recordedWriteFailure inFlight).symm
    | exportRead e page => exact (exec_exportReadDone inFlight none).symm
    | mountRead a => exact (exec_mountEnd inFlight (.inl ⟨a, rfl⟩) [.failed]).symm
    | mountWrite image => exact (exec_mountEnd inFlight (.inr ⟨image, rfl⟩) [.failed]).symm
    | formatWrite page image => exact (exec_formatEnd inFlight [false]).symm

end Sys2Proof.Machine
end

section
/-! SUPPORT. The accounts a step keeps: the log ring's (R120 to R122), the bounds of the line's queues and of its buffer
(R172, R177), the canonical form of the extent table and the rising dirty pages (R132, R133, R148). What each update of
the log, of the line and of the archive does to them. -/

namespace Sys2Proof.Machine

set_option Elab.async false

/-! ### The line's queues and buffer (R171, R172, R176, R177) -/

namespace Line

/-- A line that holds no more than a bounded one is bounded. -/
theorem bounded_of_le {l m : Line} (h : l.bounded) (reports : m.reports.length ≤ l.reports.length := by exact Nat.le_refl _)
    (errors : m.errors.length ≤ l.errors.length := by exact Nat.le_refl _) (used : m.used ≤ l.used := by exact Nat.le_refl _) :
    m.bounded :=
  ⟨reports.trans h.1, errors.trans h.2.1, used.trans h.2.2⟩

/-- A record that leaves the buffer makes room. -/
theorem cleared_used (l : Line) : ({ l with current := [] } : Line).used ≤ l.used :=
  Nat.add_le_add_left (Nat.zero_le _) _

theorem reported_bounded {l : Line} (r : Text) (room : l.reports.length < Config.reportCount) (h : l.bounded) :
    ({ l with reports := l.reports ++ [r] } : Line).bounded :=
  ⟨(List.length_append ..).trans_le room, h.2⟩

theorem queueError_bounded {l : Line} (f : LineFault) (h : l.bounded) : (l.queueError f).bounded := by
  unfold queueError
  split
  · next room => exact ⟨h.1, (List.length_append ..).trans_le room, h.2.2⟩
  · exact h

/-- What the transmitter takes leaves its queue. -/
theorem startSending_bounded {l : Line} (h : l.bounded) : l.startSending.bounded := by
  unfold startSending
  split
  · exact h
  · split
    · exact h
    · split
      · next errors => exact bounded_of_le h (errors := by simp [errors])
      · split
        · next reports => exact bounded_of_le h (reports := by simp [reports])
        · exact h

theorem receiveFaulted_bounded {l : Line} (f : LineFault) (c : LineChar) (h : l.bounded) :
    (l.receiveFaulted f c).bounded := by
  have ended : ({ l with fault := none, crOnly := false } : Line).bounded := h
  unfold receiveFaulted
  split
  · dsimp only
    split
    · exact ended
    · exact queueError_bounded f ended
  · exact h

theorem receiveFull_bounded {l : Line} (c : LineChar) (h : l.bounded) : (l.receiveFull c).bounded := by
  have cleared : ({ l with current := [] } : Line).bounded := bounded_of_le h (used := cleared_used l)
  unfold receiveFull
  split
  · split
    · exact cleared
    · exact queueError_bounded .overrun cleared
  · exact cleared

/-- A character takes a place that is free. -/
theorem appended_bounded {l : Line} (c : LineChar) (room : l.used < Config.receiveChars) (h : l.bounded) :
    ({ l with current := l.current ++ [c] } : Line).bounded := by
  refine ⟨h.1, h.2.1, ?_⟩
  simp only [used, List.length_append, List.length_singleton] at room ⊢
  omega

/-- The record being received waits, and its terminator takes a place that is free. -/
theorem waiting_bounded {l : Line} (room : l.used < Config.receiveChars) (h : l.bounded) :
    ({ l with current := [], waiting := l.waiting ++ [l.current] } : Line).bounded := by
  refine ⟨h.1, h.2.1, ?_⟩
  simp only [used, List.map_append, List.sum_append, List.map_singleton, List.sum_singleton, List.length_nil] at room ⊢
  omega

theorem next_bounded {l : Line} {r : List LineChar} {rest : List (List LineChar)} (waiting : l.waiting = r :: rest)
    (h : l.bounded) : ({ l with waiting := rest } : Line).bounded := by
  refine bounded_of_le h (used := ?_)
  simp only [used, waiting, List.map_cons, List.sum_cons]
  omega

end Line

/-! ### The directory (R132, R133, R148, R186) -/

theorem mem_insertRising {n x : Nat} {l : List Nat} : x ∈ insertRising n l ↔ x = n ∨ x ∈ l := by
  induction l with
  | nil => simp [insertRising]
  | cons m l ih =>
    unfold insertRising
    split
    · simp
    · split
      · next same => simp [same]
      · simp only [List.mem_cons, ih]
        tauto

/-- A page joins the dirty pages in its place. -/
theorem insertRising_rising {l : List Nat} (n : Nat) (h : l.Pairwise (· < ·)) : (insertRising n l).Pairwise (· < ·) := by
  induction l with
  | nil => exact List.pairwise_singleton _ _
  | cons m l ih =>
    obtain ⟨above, rest⟩ := List.pairwise_cons.mp h
    unfold insertRising
    split
    · next below =>
      refine List.pairwise_cons.mpr ⟨fun x hx => ?_, h⟩
      rcases List.mem_cons.mp hx with rfl | hx
      · exact below
      · exact below.trans (above x hx)
    · split
      · exact h
      · refine List.pairwise_cons.mpr ⟨fun x hx => ?_, ih rest⟩
        rcases mem_insertRising.mp hx with rfl | hx
        · omega
        · exact above x hx

theorem foldl_insertRising_rising {α : Type} (f : α → Nat) (xs : List α) {l : List Nat} (h : l.Pairwise (· < ·)) :
    (xs.foldl (fun l x => insertRising (f x) l) l).Pairwise (· < ·) := by
  induction xs generalizing l with
  | nil => exact h
  | cons x xs ih => exact ih (insertRising_rising _ h)

/-- The canonical form of an extent table, number by number. -/
theorem extentsWf_iff {l : List (Nat × Extent)} :
    tableWf .free l = true ↔ (l.map Prod.fst).Pairwise (· < ·) ∧ ∀ e ∈ l, e.2 ≠ .free := by
  simp [tableWf]

/-- An extent table page lists its extents in rising number, none of them FREE. -/
theorem decodeExtents_spec (fuel e : Nat) (bytes : List Byte) :
    ((decodeExtents fuel e bytes).map Prod.fst).Pairwise (· < ·) ∧
      ∀ x ∈ decodeExtents fuel e bytes, (e ≤ x.1 ∧ x.1 < e + fuel) ∧ x.2 ≠ .free := by
  induction fuel generalizing e bytes with
  | zero => exact ⟨.nil, fun x hx => absurd hx List.not_mem_nil⟩
  | succ fuel ih =>
    obtain ⟨rising, listed⟩ := ih (e + 1) (bytes.drop 16)
    have later : ∀ x ∈ decodeExtents fuel (e + 1) (bytes.drop 16), (e < x.1 ∧ x.1 < e + (fuel + 1)) ∧ x.2 ≠ .free :=
      fun x hx => ⟨by have := (listed x hx).1; omega, (listed x hx).2⟩
    unfold decodeExtents
    split
    · exact ⟨.nil, fun x hx => absurd hx List.not_mem_nil⟩
    · split
      · exact ⟨rising, fun x hx => ⟨⟨(later x hx).1.1.le, (later x hx).1.2⟩, (later x hx).2⟩⟩
      · next taken =>
        refine ⟨?_, fun x hx => ?_⟩
        · rw [List.map_cons, List.pairwise_cons]
          exact ⟨by simpa using fun a b hab => (later (a, b) hab).1.1, rising⟩
        · rcases List.mem_cons.mp hx with rfl | hx
          · exact ⟨⟨Nat.le_refl _, by dsimp only; omega⟩, taken⟩
          · exact ⟨⟨(later x hx).1.1.le, (later x hx).1.2⟩, (later x hx).2⟩

/-- The table that a directory gives stands in its canonical form (R186, step 2). -/
theorem readExtents_wf (n : Nat) (pages : DevicePages) : tableWf .free (readExtents n pages) = true := by
  refine extentsWf_iff.mpr ⟨List.pairwise_map.mpr ?_, fun x hx => ?_⟩
  · refine List.Pairwise.filter _ (List.pairwise_flatten.mpr ⟨fun l hl => ?_, List.pairwise_map.mpr ?_⟩)
    · obtain ⟨k, -, rfl⟩ := List.mem_map.mp hl
      exact List.pairwise_map.mp (decodeExtents_spec ..).1
    · refine List.pairwise_lt_range.imp fun {j k} below x hx y hy => ?_
      have first := ((decodeExtents_spec ..).2 x hx).1
      have second := ((decodeExtents_spec ..).2 y hy).1
      omega
  · obtain ⟨l, hl, hx⟩ := List.mem_flatten.mp (List.mem_filter.mp hx).1
    obtain ⟨k, -, rfl⟩ := List.mem_map.mp hl
    exact ((decodeExtents_spec ..).2 x hx).2

/-- The rebuilding of FILLING extents takes no extent that the table has not, and leaves none FREE (R186, step 3). -/
theorem rebuildFilling_spec (pages : DevicePages) {l : List (Nat × Extent)} (listed : ∀ e ∈ l, e.2 ≠ .free) (next : Nat) :
    ((rebuildFilling pages l next).1.map Prod.fst).Sublist (l.map Prod.fst) ∧
      ∀ e ∈ (rebuildFilling pages l next).1, e.2 ≠ .free := by
  induction l generalizing next with
  | nil => exact ⟨.slnil, fun e he => absurd he List.not_mem_nil⟩
  | cons d l ih =>
    obtain ⟨e, x⟩ := d
    have rest := ih fun d hd => listed d (List.mem_cons_of_mem _ hd)
    unfold rebuildFilling
    split
    · dsimp only
      split
      · exact ⟨(rest _).1.cons _, (rest _).2⟩
      · next valid =>
        refine ⟨(rest _).1.cons_cons _, List.forall_mem_cons.mpr ⟨?_, (rest _).2⟩⟩
        simp [rebuiltExtent, valid, Extent.free]
    · exact ⟨(rest _).1.cons_cons _, List.forall_mem_cons.mpr ⟨listed (e, x) List.mem_cons_self, (rest _).2⟩⟩

/-- A mount gives a table in its canonical form, and its changed pages rising (R186). -/
theorem mountTables_tables {n : Nat} {pages : DevicePages} {t : MountTables} (h : mountTables n pages = some t) :
    tableWf .free t.extents = true ∧ t.changed.Pairwise (· < ·) := by
  unfold mountTables at h
  split at h
  · rw [← Option.some.inj h]
    obtain ⟨rising, listed⟩ := extentsWf_iff.mp (readExtents_wf n pages)
    obtain ⟨sub, rebuilt⟩ := rebuildFilling_spec pages listed
      (completionAfter (((readExtents n pages).map fun e => e.2.completion).foldl max 0))
    exact ⟨extentsWf_iff.mpr ⟨rising.sublist sub, rebuilt⟩, foldl_insertRising_rising _ _ .nil⟩
  · cases h

/-! ### Operations that keep the accounts -/

/-- An operation that keeps the log's account, the bounds of the line, the extent table's form and the order of the dirty
pages. -/
structure KeepsAccounts (s t : State) : Prop where
  ring : s.cl.ringOk → t.cl.ringOk
  line : s.lc.bounded → t.lc.bounded
  table : s.tableOk → t.tableOk
  dirty : s.dirtyOk → t.dirtyOk

namespace KeepsAccounts

variable {s t u : State}

theorem refl (s : State) : KeepsAccounts s s := ⟨id, id, id, id⟩

theorem trans (h : KeepsAccounts s t) (k : KeepsAccounts t u) : KeepsAccounts s u :=
  ⟨k.ring ∘ h.ring, k.line ∘ h.line, k.table ∘ h.table, k.dirty ∘ h.dirty⟩

theorem ite {c : Prop} [Decidable c] (h : KeepsAccounts s t) (k : KeepsAccounts s u) :
    KeepsAccounts s (if c then t else u) := by
  split
  · exact h
  · exact k

theorem foldl {α : Type} {f : State → α → State} (h : ∀ s a, KeepsAccounts s (f s a)) (l : List α) (s : State) :
    KeepsAccounts s (l.foldl f s) := by
  induction l generalizing s with
  | nil => exact refl s
  | cons a l ih => exact (h s a).trans (ih _)

/-- A change of blocks other than the log, the line and the archive. -/
theorem blocks (log : t.cl = s.cl := by rfl) (line : t.lc = s.lc := by rfl) (archive : t.am = s.am := by rfl) :
    KeepsAccounts s t :=
  ⟨by rw [log]; exact id, by rw [line]; exact id, by rw [State.tableOk, State.tableOk, archive]; exact id,
    by rw [State.dirtyOk, State.dirtyOk, archive]; exact id⟩

theorem modPart (s : State) (f : Part → Part) : KeepsAccounts s (s.modPart f) := .blocks
theorem modTb (s : State) (f : TimeBase → TimeBase) : KeepsAccounts s (s.modTb f) := .blocks
theorem modSvc (s : State) (i : Nat) (f : Service → Service) : KeepsAccounts s (s.modSvc i f) := .blocks
theorem modCtx (s : State) (c : Nat) (f : Context → Context) : KeepsAccounts s (s.modCtx c f) := .blocks
theorem modPool (s : State) (f : Pool → Pool) : KeepsAccounts s (s.modPool f) := .blocks
theorem modCu (s : State) (f : Compliance → Compliance) : KeepsAccounts s (s.modCu f) := .blocks
theorem modQueue (s : State) (f : List Buffer → List Buffer) : KeepsAccounts s (s.modQueue f) := .blocks
theorem modSp (s : State) (f : StoragePort → StoragePort) : KeepsAccounts s (s.modSp f) := .blocks
theorem modEe (s : State) (f : ExportEngine → ExportEngine) : KeepsAccounts s (s.modEe f) := .blocks

/-- What the feed port holds of a unit, and which commands wait. -/
theorem besidePort (s : State) (bytes : List Byte) (lost : Bool) (waiting : List Instr) :
    KeepsAccounts s { s with feedBytes := bytes, feedLost := lost, pending := waiting } := .blocks

/-! ### Updates of the log (R120 to R122) -/

theorem modCl (s : State) (f : LogState → LogState) (ring : (f s.cl).ring = s.cl.ring := by rfl)
    (lastSeq : (f s.cl).lastSeq = s.cl.lastSeq := by rfl) (exhausted : (f s.cl).exhausted = s.cl.exhausted := by rfl) :
    KeepsAccounts s (s.modCl f) :=
  ⟨fun h => by rw [State.modCl_cl, LogState.ringOk, ring, lastSeq, exhausted]; exact h, id, id, id⟩

theorem reported (s : State) (r : Text) (room : s.lc.reports.length < Config.reportCount) :
    KeepsAccounts s (s.modLc fun l => { l with reports := l.reports ++ [r] }) :=
  ⟨id, Line.reported_bounded r room, id, id⟩

theorem pushReport (r : Text) (s : State) : KeepsAccounts s (pushReport r s) := by
  refine ⟨id, fun h => ?_, id, id⟩
  rw [Machine.pushReport, State.modLc_lc]
  split
  · next room => exact Line.reported_bounded r room h
  · exact h

theorem logTake (svc : Option Nat) (b : Body) (s : State) : KeepsAccounts s (logTake svc b s) := by
  unfold Machine.logTake
  split
  · exact refl s
  · next fresh =>
    have taken : KeepsAccounts s (s.modCl fun c => c.take s.now (s.entryFor svc b)) :=
      ⟨fun h => s.cl.take_ringOk _ _ h rfl (Bool.not_eq_true _ ▸ fresh), id, id, id⟩
    exact taken.trans (.pushReport _ _)

/-- The refusal of a group sets the mark that ends the boot's entries (R121). -/
theorem logReserve (n : Nat) (s : State) : KeepsAccounts s (logReserve n s) := by
  unfold Machine.logReserve
  split
  · exact ⟨fun h => ⟨h.1, h.2.1, h.2.2.1, fun _ => rfl⟩, id, id, id⟩
  · exact refl s

theorem grouped {f : State → State} (h : ∀ s, KeepsAccounts s (f s)) (s : State) : KeepsAccounts s (grouped f s) :=
  (logReserve _ s).trans (h _)

/-! ### Updates of the line and of the archive -/

theorem modLc (s : State) (f : Line → Line) (bounded : s.lc.bounded → (f s.lc).bounded := by exact fun h => h) :
    KeepsAccounts s (s.modLc f) := ⟨id, bounded, id, id⟩

theorem modAm (s : State) (f : Archive → Archive) (extents : (f s.am).extents = s.am.extents := by rfl)
    (dirty : (f s.am).dirty = s.am.dirty := by rfl) : KeepsAccounts s (s.modAm f) :=
  ⟨id, id, by rw [State.tableOk, State.tableOk, State.modAm_am, extents]; exact id,
    by rw [State.dirtyOk, State.dirtyOk, State.modAm_am, dirty]; exact id⟩

/-- AM's tables are replaced whole (R186, R188). -/
theorem replaced (s : State) (f : Archive → Archive) (extents : tableWf .free (f s.am).extents = true := by rfl)
    (dirty : (f s.am).dirty.Pairwise (· < ·) := by exact .nil) : KeepsAccounts s (s.modAm f) :=
  ⟨id, id, fun _ => extents, fun _ => dirty⟩

theorem markDirty (s : State) (p : Nat) : KeepsAccounts s (s.markDirty p) := ⟨id, id, id, insertRising_rising p⟩

theorem setExtent (s : State) (e : Nat) (x : Extent) : KeepsAccounts s (s.setExtent e x) :=
  ⟨id, id, tableSet_wf _ _ e x, id⟩

/-- The mark of a page that is written is cleared (R148). -/
theorem cleanPage (s : State) (page : Nat) :
    KeepsAccounts s (s.modAm fun a => { a with dirty := a.dirty.filter fun p => decide (p ≠ page) }) :=
  ⟨id, id, id, List.Pairwise.filter _⟩

end KeepsAccounts

end Sys2Proof.Machine
end

section
/-! SUPPORT. The operations of the log, the holds, the services and the port keep the accounts of the log, the line and
the archive's directory. -/

namespace Sys2Proof.Machine

set_option Elab.async false

namespace KeepsAccounts

variable {s t : State}

/-! ### Conditions and holds (R109, R110, R155 to R161) -/

theorem openCond (i : Nat) (c : CondClass) (k : Option Nat) (g : Option GapCause) (s : State) :
    KeepsAccounts s (openCond i c k g s) := .ite (.refl s) (.trans .blocks (.logTake _ _ _))

theorem closeCond (i : Nat) (c : CondClass) (k : Option Nat) (g : CloseCause) (s : State) :
    KeepsAccounts s (closeCond i c k g s) := by
  unfold Machine.closeCond
  split
  · exact .refl s
  · exact .trans .blocks (.logTake _ _ _)

theorem openDevice (c : CondClass) (s : State) : KeepsAccounts s (openDevice c s) := .modCu s _

theorem requestHold (r : HoldRequest) (s : State) : KeepsAccounts s (requestHold r s).1 := by
  unfold Machine.requestHold
  split
  · exact .logTake _ _ s
  · exact ((modAm s _).trans (.logTake _ _ _)).trans (.markDirty _ _)

theorem dropHold (h : Hold) (expired : Bool) (s : State) : KeepsAccounts s (dropHold h expired s) :=
  ((modAm s _).trans (.logTake _ _ _)).trans (.markDirty _ _)

theorem expireHolds (second : Nat) (s : State) : KeepsAccounts s (expireHolds second s) :=
  .ite ((logReserve _ s).trans (.foldl (fun t h => dropHold h true t) _ _)) (.refl s)

/-! ### The end of an event (R102, R128, R151, R164, R190) -/

theorem actOnSlot (e : Entry) (s : State) (k : Nat) : KeepsAccounts s (actOnSlot e s k) := by
  unfold Machine.actOnSlot
  split
  · exact .refl s
  · have reported (c : Prop) [Decidable c] (r : Text) : KeepsAccounts s (if c then s else Machine.pushReport r s) :=
      .ite (.refl s) (pushReport r s)
    exact .ite (.ite (reported _ _) ((reported _ _).trans (requestHold _ _))) (.refl s)

theorem fanOut (s : State) : KeepsAccounts s (fanOut s) :=
  (foldl (fun t e => grouped (fun _ => foldl (actOnSlot e) _ _) t) _ s).trans (.modCl _ _)

theorem startVerdict (s : State) : KeepsAccounts s (startVerdict s) := by
  unfold Machine.startVerdict
  split
  · exact .blocks
  · exact .refl s

theorem endExport (o : ExportOutcome) (s : State) : KeepsAccounts s (endExport o s) := by
  unfold Machine.endExport
  split
  · exact .refl s
  · exact (trans .blocks (.logTake _ _ _)).trans (.pushReport _ _)

theorem abortExport (o : ExportOutcome) (s : State) : KeepsAccounts s (abortExport o s) := by
  unfold Machine.abortExport
  split
  · exact .refl s
  · split
    · exact .blocks
    · exact .endExport o s

theorem offlineChange (s : State) : KeepsAccounts s (offlineChange s) :=
  .ite (((modAm s _).trans (.logTake _ _ _)).trans (.abortExport _ _)) (.refl s)

theorem endFlush (o : FlushOutcome) (s : State) : KeepsAccounts s (endFlush o s) :=
  .ite ((modAm s _).trans (.logTake _ _ _)) (.modAm s _)

theorem flushStep (s : State) : KeepsAccounts s (flushStep s) :=
  .ite (.ite (endFlush _ s) (.ite (endFlush _ s) (.ite ((modAm s _).trans (.markDirty _ _)) (.refl s)))) (.refl s)

theorem startSending (s : State) : KeepsAccounts s (s.modLc Line.startSending) := .modLc s _ Line.startSending_bounded

theorem settle (s : State) : KeepsAccounts s (settle s) :=
  (((((fanOut s).trans (startVerdict _)).trans (offlineChange _)).trans (flushStep _)).trans (fanOut _)).trans
    (startSending _)

/-- What the events of a command do, and their end. -/
theorem settled (h : KeepsAccounts s t) : KeepsAccounts s (Machine.settle t) := h.trans (.settle t)

/-! ### Subtitles (chapter 5) -/

theorem closeGap (i k : Nat) (cause : CloseCause) (s : State) : KeepsAccounts s (closeGap i k cause s) :=
  .ite (.trans .blocks (.closeCond _ _ _ _ _)) (.refl s)

theorem closeLapsed (i k : Nat) (cause : CloseCause) (s : State) : KeepsAccounts s (closeLapsed i k cause s) :=
  .ite (.trans .blocks (.closeCond _ _ _ _ _)) (.refl s)

theorem carryUnit (i k : Nat) (s : State) : KeepsAccounts s (carryUnit i k s) := .trans .blocks (.closeLapsed i k _ _)

theorem lapseSlot (i k : Nat) (s : State) : KeepsAccounts s (lapseSlot i k s) := .trans .blocks (.openCond _ _ _ _ _)

theorem cueUnit (i : Nat) (c : Cue) (s : State) : KeepsAccounts s (cueUnit i c s) :=
  .ite .blocks (.ite .blocks (.ite (.refl s) (.trans .blocks (.logTake _ _ _))))

theorem uncover (i k : Nat) (s : State) : KeepsAccounts s (uncover i k s) := .blocks

theorem measureGaps (i k : Nat) (s : State) : KeepsAccounts s (measureGaps i k s) := .foldl (fun _ _ => .blocks) _ s

theorem startCoverage (i k : Nat) (sh : Showing) (s : State) : KeepsAccounts s (startCoverage i k sh s) :=
  ((measureGaps i k s).trans .blocks).trans (.closeGap i k _ _)

theorem showCue (i : Nat) (c : Cue) (s : State) : KeepsAccounts s (showCue i c s) :=
  .ite (.ite (.uncover i _ s) (.refl s)) (.ite .blocks (.startCoverage i _ _ s))

theorem showHead (i : Nat) (s : State) : KeepsAccounts s (showHead i s) := by
  unfold Machine.showHead
  split
  · exact .refl s
  · exact .ite (.trans .blocks (.showCue i _ _)) (.refl s)

theorem clearUnit (i k id : Nat) (s : State) : KeepsAccounts s (clearUnit i k id s) := by
  unfold Machine.clearUnit
  refine .trans ?_ (.modSvc _ i _)
  split
  · exact .refl s
  · exact .ite (.uncover i k s) (.refl s)

theorem settleContext (i c : Nat) (s : State) : KeepsAccounts s (settleContext i c s) :=
  .foldl (fun t _ => .ite .blocks (.refl t)) _ s

theorem closeGaps (i : Nat) (s : State) : KeepsAccounts s (closeGaps i s) :=
  .grouped (fun t => .foldl (fun u k => .closeGap i k _ u) _ t) s

theorem handRequirement (i : Nat) (s : State) : KeepsAccounts s (handRequirement i s) :=
  .ite .blocks (.trans .blocks (.closeGaps i _))

theorem removeSlot (i k : Nat) (s : State) : KeepsAccounts s (removeSlot i k s) :=
  (((ite (.uncover i k s) (.refl s)).trans .blocks).trans (.closeLapsed i k _ _)).trans (.closeGap i k _ _)

theorem maskChanged (i old : Nat) (s : State) : KeepsAccounts s (maskChanged i old s) :=
  (logReserve _ s).trans (.foldl (fun t k => .ite (.removeSlot i k t) (.ite .blocks (.refl t))) _ _)

/-! ### Segments (chapter 4) -/

theorem handOff (i : Nat) (s : State) : KeepsAccounts s (handOff i s) := (handRequirement i s).trans .blocks

theorem openContext (i depth : Nat) (e : StackEntry) (continued : Bool) (s : State) :
    KeepsAccounts s (openContext i depth e continued s).1 := by
  unfold Machine.openContext
  split
  · exact .logTake _ _ s
  · exact .blocks

theorem closeEntry (i : Nat) (e : StackEntry) (depth : Nat) (outward : List StackEntry) (cause : SegmentCause)
    (s : State) : KeepsAccounts s (closeEntry i e depth outward cause s) := by
  unfold Machine.closeEntry
  split
  · exact .logTake _ _ s
  · exact (((modCtx s _ _).trans (.settleContext _ _ _)).trans (.modCtx _ _ _)).trans (.modCu _ _)

theorem closeInnermost (i : Nat) (cause : SegmentCause) (s : State) : KeepsAccounts s (closeInnermost i cause s) := by
  unfold Machine.closeInnermost
  split
  · exact .refl s
  · exact (closeEntry ..).trans .blocks

theorem closeInner (i : Nat) (cause : SegmentCause) (n : Nat) (s : State) : KeepsAccounts s (closeInner i cause n s) := by
  induction n generalizing s with
  | zero => exact .refl s
  | succ n ih => exact (closeInnermost i cause s).trans (ih _)

theorem startMarker (i : Nat) (kind : SegmentKind) (id : Nat) (req : Option Requirement) (s : State) :
    KeepsAccounts s (startMarker i kind id req s) :=
  .ite (.logTake _ _ s) (.ite (.trans .blocks (.logTake _ _ _)) (((openContext ..).trans .blocks).trans (.handOff i _)))

theorem endMarker (i id : Nat) (s : State) : KeepsAccounts s (endMarker i id s) := by
  unfold Machine.endMarker
  dsimp only
  split
  · exact (((logReserve _ s).trans (closeInner i _ _ _)).trans (closeInnermost i _ _)).trans (handOff i _)
  · exact .ite .blocks (.logTake _ _ s)

theorem disableSegments (i : Nat) (s : State) : KeepsAccounts s (disableSegments i s) :=
  (((logReserve _ s).trans (closeInner i _ _ _)).trans .blocks).trans (handOff i _)

theorem limitContext (i c : Nat) (s : State) : KeepsAccounts s (limitContext i c s) := by
  unfold Machine.limitContext continueEntry
  split
  · exact .refl s
  · dsimp only
    split
    · exact .refl s
    · exact (((closeEntry ..).trans (openContext ..)).trans .blocks).trans (.handOff i _)

/-! ### Loudness (chapter 2) -/

theorem creditBlock (i : Nat) (l : Option Int) (mom : Int) (st : Option Int) (s : State) :
    KeepsAccounts s (creditBlock i l mom st s) := by
  unfold Machine.creditBlock
  split
  · exact .refl s
  · exact .ite ((modCtx s _ _).trans (.limitContext i _ _)) (.modCtx s _ _)

theorem countDeadAir (i : Nat) (mom : Int) (s : State) : KeepsAccounts s (countDeadAir i mom s) :=
  .ite (.ite ((modSvc s i _).trans (.openCond _ _ _ _ _)) (.modSvc s i _)) ((modSvc s i _).trans (.closeCond _ _ _ _ _))

theorem completeSubBlock (i : Nat) (s : State) : KeepsAccounts s (completeSubBlock i s) :=
  .ite (((modSvc s i _).trans (.creditBlock i _ _ _ _)).trans (.countDeadAir i _ _)) (.modSvc s i _)

theorem creditPeak (i : Nat) (peak : Int) (s : State) : KeepsAccounts s (creditPeak i peak s) := by
  unfold Machine.creditPeak
  split
  · exact .refl s
  · exact .ite (((modCtx s _ _).trans (.modCtx _ _ _)).trans (.logTake _ _ _)) (.modCtx s _ _)

theorem takeFrame (i : Nat) (s : State) (xs : List Int) : KeepsAccounts s (takeFrame i s xs) :=
  .ite ((modSvc s i _).trans (.completeSubBlock i _)) (.modSvc s i _)

theorem audioUnit (i : Nat) (frames : List (List Int)) (s : State) : KeepsAccounts s (audioUnit i frames s) :=
  (creditPeak i _ s).trans (.foldl (takeFrame i) _ _)

/-! ### Verdicts and tallies (chapter 6) -/

theorem releaseContext (c : Nat) (s : State) : KeepsAccounts s (releaseContext c s) :=
  (modCtx s c _).trans (.modPool _ _)

theorem completeVerdict (e : Evaluation) (s : State) : KeepsAccounts s (completeVerdict e s) := by
  have judged (n : Nat) (svc : Option Nat) (b : Body) (i : Nat) (fails : Bool) :=
    ((logReserve n s).trans (.logTake svc b _)).trans (.modSvc _ i (Service.judged fails))
  unfold Machine.completeVerdict
  simp only [flagged_eq_judged]
  exact ((ite ((judged _ _ _ _ _).trans (.requestHold _ _)) (judged _ _ _ _ _)).trans (.releaseContext _ _)).trans
    (.modCu _ _)

theorem turnTally (timeSet : Bool) (s : State) (i : Nat) : KeepsAccounts s (turnTally timeSet s i) :=
  ((logTake _ _ s).trans (.closeCond _ _ _ _ _)).trans .blocks

theorem turnTallies (timeSet : Bool) (s : State) : KeepsAccounts s (turnTallies timeSet s) :=
  (logReserve _ s).trans (.foldl (turnTally timeSet) _ _)

theorem limitChanged (i : Nat) (s : State) : KeepsAccounts s (limitChanged i s) :=
  .ite (.openCond _ _ _ _ s) (.closeCond _ _ _ _ s)

theorem accrueService (s : State) (i : Nat) : KeepsAccounts s (accrueService s i) := by
  unfold Machine.accrueService
  cases s.target i <;> exact .ite .blocks .blocks

theorem advanceTick (s : State) : KeepsAccounts s (advanceTick s) := (foldl accrueService _ s).trans (.modTb _ _)

/-! ### The Recorder (chapter 8) -/

theorem recordLoss (i : Nat) (cause : GapCause) (opened : GapRecord) (s : State) :
    KeepsAccounts s (recordLoss i cause opened s) := .ite ((openCond _ _ _ _ s).trans .blocks) (.refl s)

theorem intakeLoss (i : Nat) (cause : GapCause) (s : State) : KeepsAccounts s (intakeLoss i cause s) :=
  .trans .blocks (.recordLoss i _ _ _)

theorem issueLoss (i : Nat) (cause : GapCause) (s : State) : KeepsAccounts s (issueLoss i cause s) :=
  .trans .blocks (.recordLoss i _ _ _)

theorem resumeRecording (i : Nat) (which : GapRecord) (s : State) : KeepsAccounts s (resumeRecording i which s) :=
  .ite ((closeCond _ _ _ _ s).trans .blocks) (.refl s)

theorem queueFilling (i : Nat) (close : Bool) (s : State) : KeepsAccounts s (queueFilling i close s) := by
  unfold Machine.queueFilling
  split
  · exact .refl s
  · exact .blocks

theorem beginBuffer {i : Nat} (h : beginBuffer i s = some t) : KeepsAccounts s t := by
  unfold Machine.beginBuffer at h
  split at h
  · cases h
  · rw [← Option.some.inj h]
    exact .blocks

theorem appendBytes (i : Nat) (bytes : List Byte) (s : State) : KeepsAccounts s (appendBytes i bytes s) := by
  unfold Machine.appendBytes
  split
  · exact .refl s
  · exact .ite (.trans .blocks (.queueFilling i _ _)) .blocks

theorem takeRest (i : Nat) (rest : List Byte) (shortage : GapCause) (s : State) :
    KeepsAccounts s (takeRest i rest shortage s) := by
  unfold Machine.takeRest
  split
  · exact .refl s
  · split
    · exact .intakeLoss i _ s
    · next begun => exact (beginBuffer begun).trans (.appendBytes i _ _)

theorem stageBytes (i : Nat) (bytes : List Byte) (shortage : GapCause) (s : State) :
    KeepsAccounts s (stageBytes i bytes shortage s) := by
  unfold Machine.stageBytes
  split
  · exact .intakeLoss i _ s
  · next t begun =>
    have filling : KeepsAccounts s t := by
      split at begun
      · exact Option.some.inj begun ▸ .refl s
      · exact .beginBuffer begun
    exact ((filling.trans (.appendBytes i _ _)).trans (.resumeRecording i _ _)).trans (.takeRest i _ _ _)

theorem takePayload (i : Nat) (bytes : List Byte) (shortage : GapCause) (s : State) :
    KeepsAccounts s (takePayload i bytes shortage s) := .grouped (stageBytes i bytes shortage) s

theorem payloadUnit (i : Nat) (bytes : List Byte) (s : State) : KeepsAccounts s (payloadUnit i bytes s) := by
  have queued := queueFilling i false s
  have lost (cause : GapCause) := queued.trans (.intakeLoss i cause _)
  exact .ite queued (.ite (lost _) (.ite (lost _) (.ite (lost _) (.takePayload i _ _ s))))

/-! ### The time base (chapter 1) -/

theorem leaveHoldover (s : State) : KeepsAccounts s (leaveHoldover s) :=
  .ite (.ite (((modTb s _).trans (.logTake _ _ _)).trans (.modCu _ _)) (.modTb s _)) (.refl s)

theorem restartDivider (s : State) : KeepsAccounts s (restartDivider s) := .modTb s _

theorem takeEdge (s : State) : KeepsAccounts s (takeEdge s) :=
  (((KeepsAccounts.advanceTick s).trans (.modTb _ _)).trans (.leaveHoldover _)).trans
    (.restartDivider _)

theorem enterHoldover (s : State) : KeepsAccounts s (enterHoldover s) := .ite (.trans .blocks (.logTake _ _ _)) .blocks

theorem hourBoundary (s : State) : KeepsAccounts s (hourBoundary s) := by
  have turned : KeepsAccounts s (if s.part.state = .run then
      Machine.turnTallies false (s.modTb fun b => { b with hour := hourOf b.anchor b.stationTime })
      else s.modTb fun b => { b with hour := hourOf b.anchor b.stationTime }) :=
    .ite (.trans .blocks (.turnTallies _ _)) .blocks
  unfold Machine.hourBoundary
  dsimp only
  split
  · exact turned
  · exact turned.trans (.expireHolds _ _)

/-! ### The feed port (chapter 1) -/

theorem goLost (i : Nat) (s : State) : KeepsAccounts s (goLost i s) :=
  (((modSvc s i _).trans (.openCond _ _ _ _ _)).trans (.modSvc _ i _)).trans (.closeCond _ _ _ _ _)

theorem routeUnit (i : Nat) (b : FeedBody) (s : State) : KeepsAccounts s (routeUnit i b s) := by
  cases b with
  | audio c frames =>
    have live : KeepsAccounts s (s.modFeed i fun f => { f with state := .live, lastAudio := some s.now }) := .blocks
    exact (ite ((live.trans (.closeCond i .feedLost none .feedBack _)).trans (.modSvc _ i _)) live).trans (.audioUnit i frames _)
  | cue slot id offset duration chars => exact .cueUnit i _ s
  | clear slot id => exact .clearUnit i slot id s
  | carry slot => exact .carryUnit i slot s
  | markStart kind id req => exact .startMarker i kind id req s
  | markEnd id => exact .endMarker i id s
  | payload bytes => exact .payloadUnit i bytes s

theorem feedInRun (h : FeedHeader) (body : List Byte) (s : State) : KeepsAccounts s (feedInRun h body s) := by
  unfold Machine.feedInRun
  split
  · exact .refl s
  · split
    · exact .modSvc s _ _
    · split
      · exact .modSvc s _ _
      · exact .ite (.routeUnit _ _ s) (.modSvc s _ _)

theorem takeUnit (unit : List Byte) (s : State) : KeepsAccounts s (takeUnit unit s) :=
  .ite (.besidePort s _ _ _) (.settled (.ite (.feedInRun _ _ s) (.ite (.takePayload _ _ _ s) (.refl s))))

theorem checkHeader (bytes : List Byte) (s : State) : KeepsAccounts s (checkHeader bytes s) :=
  .ite (.refl s) ((settled (.ite (.modSvc s _ _) (.refl s))).trans (.besidePort _ _ _ _))

theorem takeUnits (fuel : Nat) (bytes : List Byte) (s : State) : KeepsAccounts s (takeUnits fuel bytes s) := by
  induction fuel generalizing bytes s with
  | zero => exact .besidePort s _ _ _
  | succ fuel ih =>
    unfold Machine.takeUnits
    dsimp only
    split
    · exact (KeepsAccounts.checkHeader bytes s).trans (.besidePort _ _ _ _)
    · exact ((KeepsAccounts.checkHeader bytes s).trans (.takeUnit _ _)).trans (ih _ _)

end KeepsAccounts

end Sys2Proof.Machine
end

section
/-! SUPPORT. AM's and SP's operations, resets, mount and format keep the accounts of the log, the line and the archive's
directory. -/

namespace Sys2Proof.Machine

set_option Elab.async false

namespace KeepsAccounts

/-! ### Resets (R185) -/

theorem resetTo (cause : ResetCause) (s : State) : KeepsAccounts s (resetTo cause s) := by
  obtain ⟨ring, line, table, dirty, -⟩ := resetMeetsInvariants
  exact ⟨fun _ => ring, fun _ => line, fun _ => table, fun _ => dirty⟩

/-! ### Extents and grants (R134, R140 to R147) -/

theorem finishExtent (e : Nat) (state : ExtentState) (s : State) : KeepsAccounts s (finishExtent e state s) :=
  ((setExtent s _ _).trans (.modAm _ _)).trans (.markDirty _ _)

theorem reclaimExtent (e : Nat) (s : State) : KeepsAccounts s (reclaimExtent e s) := by
  have left : KeepsAccounts s _ := (modAm s fun a => { a with order := a.order.filter fun n => decide (n ≠ e) }).trans
    (.markDirty _ (extentPage e))
  unfold Machine.reclaimExtent
  dsimp only
  split
  · exact left.trans (.setExtent _ _ _)
  · exact (left.trans (.setExtent _ _ _)).trans (.modAm _ _)

theorem reclaimRun (goal fuel : Nat) (s : State) : KeepsAccounts s (reclaimRun goal fuel s) := by
  induction fuel generalizing s with
  | zero => exact .refl s
  | succ fuel ih =>
    unfold Machine.reclaimRun
    split
    · exact .refl s
    · split
      · exact .refl s
      · exact (reclaimExtent _ s).trans (ih _)

theorem placePage (i : Nat) (s : State) : KeepsAccounts s (placePage i s).1 := by
  unfold Machine.placePage
  split
  · exact .refl s
  · have reclaimed : KeepsAccounts s (if s.am.free.isEmpty then reclaim 1 s else s) := .ite (.reclaimRun _ _ s) (.refl s)
    dsimp only
    split
    · exact reclaimed
    · next e rest _ =>
      have placed := ((reclaimed.trans (.modAm _ fun a => { a with free := rest })).trans
        (.setExtent _ e ⟨.filling, i, 0, none, 0, false⟩)).trans (.markDirty _ (extentPage e))
      exact .ite (placed.trans (.reclaimRun _ _ _)) placed

theorem startOperation (op : Operation) (s : State) : KeepsAccounts s (startOperation op s) := .modSp s _

theorem grantRecorded (b : Buffer) (e page : Nat) (s : State) : KeepsAccounts s (grantRecorded b e page s) :=
  ((modSvc s b.service _).trans (.ite (.setExtent _ _ _) (.refl _))).trans (.startOperation _ _)

theorem grantFirst (fuel : Nat) (s : State) : KeepsAccounts s (grantFirst fuel s) := by
  induction fuel generalizing s with
  | zero => exact .refl s
  | succ fuel ih =>
    unfold Machine.grantFirst
    split
    · exact (cleanPage s _).trans (.startOperation _ _)
    · split
      · exact (modCl s _).trans (.startOperation _ _)
      · split
        · next b rest _ =>
          have placed := (modQueue s fun _ => rest).trans (.placePage b.service _)
          split
          · next placing => rw [placing] at placed; exact placed.trans (.grantRecorded _ _ _ _)
          · next placing => rw [placing] at placed; exact (placed.trans (.issueLoss _ _ _)).trans (ih _)
        · split
          · exact .ite ((modEe s _).trans (.startOperation _ _)) (.refl s)
          · exact .refl s

theorem grantNext (fuel : Nat) (s : State) : KeepsAccounts s (grantNext fuel s) := .grouped (grantFirst fuel) s

/-! ### Completions (R127, R139, R142 to R144, R148) -/

theorem endOperation (s : State) : KeepsAccounts s (endOperation s) := .modSp s _
theorem writeSucceeded (s : State) : KeepsAccounts s (writeSucceeded s) := .modSp s _
theorem countFailure (s : State) : KeepsAccounts s (countFailure s) := .modSp s _

theorem latchSteps (target : WriteTarget) (failed : Option Buffer) (s : State) :
    KeepsAccounts s (latchSteps target failed s) := by
  have latched := ((modSp s fun p => { p with faultLatched := true }).trans (.openDevice .storageFault _)).trans
    (.logTake none (.storageFault target) _)
  have emptied := (latched.trans (.foldl (fun t i => modSvc t i fun v => { v with rc := { v.rc with filling := none } })
    allServices _)).trans (.modQueue _ fun _ => [])
  exact ((emptied.trans (.foldl (fun t i => .issueLoss i .fault t) _ _)).trans
    (.foldl (fun t i => .recordLoss i .fault .placement t) _ _)).trans (.abortExport _ _)

theorem latchIfDue (target : WriteTarget) (failed : Option Buffer) (s : State) :
    KeepsAccounts s (latchIfDue target failed s) :=
  .ite ((logReserve _ s).trans (.latchSteps _ _ _)) (.refl s)

theorem recordedSucceeded (e : Nat) (b : Buffer) (s : State) : KeepsAccounts s (recordedSucceeded e b s) := by
  have written (x : Extent) (c : Prop) [Decidable c] :
      KeepsAccounts s (if c then Machine.finishExtent e .complete (s.setExtent e x) else s.setExtent e x) :=
    .ite ((setExtent s _ _).trans (.finishExtent _ _ _)) (.setExtent s _ _)
  exact (((written _ _).trans (.endOperation _)).trans (.writeSucceeded _)).trans (.resumeRecording _ _ _)

theorem recordedFailed (e page : Nat) (b : Buffer) (s : State) : KeepsAccounts s (recordedFailed e page b s) := by
  refine .grouped (fun t => ?_) s
  have counted := (((finishExtent e .damaged t).trans
    (.logTake (some (t.extent e).service) (.extentDamaged e (t.extent e).pages page) _)).trans (.endOperation _)).trans
    (.countFailure _)
  exact .ite (counted.trans (.latchIfDue _ _ _)) (.ite (counted.trans (.issueLoss _ _ _)) (counted.trans (.modQueue _ _)))

theorem logWriteEnded (ok : Bool) (position : Nat) (s : State) : KeepsAccounts s (logWriteEnded ok position s) := by
  have ended := (endOperation s).trans (.modCl _ fun c => { c with nextPage := (c.nextPage + 1) % Config.logPages })
  exact .ite ((ended.trans (.writeSucceeded _)).trans (.markDirty _ _))
    (((ended.trans (.modCl _ _)).trans (.countFailure _)).trans (.latchIfDue _ _ _))

theorem directoryWriteEnded (ok : Bool) (page : Nat) (image : DirectoryImage) (s : State) :
    KeepsAccounts s (directoryWriteEnded ok page image s) := by
  have written := (endOperation s).trans (.writeSucceeded _)
  exact .ite (.ite (written.trans (.endFlush _ _)) written)
    ((((endOperation s).trans (.markDirty _ _)).trans (.countFailure _)).trans (.latchIfDue _ _ _))

theorem exportReadEnded (page : Option (List Byte)) (s : State) : KeepsAccounts s (exportReadEnded page s) := by
  unfold Machine.exportReadEnded
  dsimp only
  split
  · exact .endOperation s
  · exact .ite ((endOperation s).trans (.endExport _ _)) ((endOperation s).trans (.modEe _ _))

theorem exportFrameEnded (x : Export) (f : Frame) (s : State) : KeepsAccounts s (exportFrameEnded x f s) := by
  have sent (o : ExportOutcome) :=
    (modEe s fun e => { e with current := some { x with frames := x.frames + 1, frame := none } }).trans (.endExport o _)
  unfold Machine.exportFrameEnded
  dsimp only
  split
  · exact sent _
  · split
    · exact sent _
    · split
      · exact sent _
      · split
        · exact sent _
        · exact .modEe s _

/-! ### Enabling and disabling (R16, R17) -/

theorem enableService (i : Nat) (s : State) : KeepsAccounts s (enableService i s) :=
  (modSvc s i _).trans (.logTake _ _ _)

theorem clearMarks (i : Nat) (s : State) : KeepsAccounts s (clearMarks i s) := .modSvc s i _

theorem completeIdle (i : Nat) (s : State) : KeepsAccounts s (completeIdle i s) := by
  unfold Machine.completeIdle
  split
  · split
    · exact .finishExtent _ _ s
    · exact .refl s
  · exact .refl s

theorem closeRecording (i : Nat) (s : State) : KeepsAccounts s (closeRecording i s) := by
  unfold Machine.closeRecording
  split
  · exact .queueFilling i _ s
  · split
    · exact .modQueue s _
    · split
      · exact .ite (.modSp s _) (.completeIdle i s)
      · exact .completeIdle i s

/-- The entries of FI and CU at SVD (R17, R111, R118). -/
theorem disableEntries (i : Nat) (s : State) : KeepsAccounts s (disableEntries i s) := by
  have off := (((modSvc s i fun v => { v with feed := { v.feed with state := .off } }).trans
    (.closeCond i .feedLost none .disable _)).trans
    (.modSvc _ i fun v => { v with profile := { v.profile with enabled := false } })).trans
    (.logTake (some i) .serviceDisabled _)
  have ended (t : State) : KeepsAccounts t (endTally i t) := (logTake _ _ t).trans (.modSvc _ i _)
  exact (off.trans (ended _)).trans (.foldl (fun t (c : Condition) => .closeCond i c.cls c.slot .disable t) _ _)

theorem disableService (i : Nat) (s : State) : KeepsAccounts s (disableService i s) :=
  (((grouped (disableEntries i) s).trans (.modSvc _ i (Service.disableMeters s.now))).trans
    (.disableSegments i _)).trans ((closeRecording i _).trans (.clearMarks i _))

/-! ### Supply (R190, R191) -/

theorem queueAllFilling (s : State) : KeepsAccounts s (queueAllFilling s) :=
  .foldl (fun t i => .queueFilling i false t) _ s

theorem assertSupply (s : State) : KeepsAccounts s (assertSupply s) := by
  have lost (t : State) : KeepsAccounts t (supplyLosses t) := .foldl (fun u i => .intakeLoss i .supply u) _ t
  have flushing (t : State) : KeepsAccounts t (startSupplyFlush t) :=
    (((modAm t _).trans (.queueAllFilling _)).trans (lost _)).trans (.flushStep _)
  exact .ite (.grouped flushing s) (.refl s)

theorem cancelFlush (cancelled dirty : Bool) (s : State) : KeepsAccounts s (cancelFlush cancelled dirty s) :=
  ((modAm s _).trans (.ite (.markDirty _ _) (.refl _))).trans (.logTake _ _ _)

theorem deassertSupply (s : State) : KeepsAccounts s (deassertSupply s) := by
  unfold Machine.deassertSupply
  split
  · exact .refl s
  · exact .ite (.ite ((cancelFlush _ _ s).trans (.modAm _ _)) (.cancelFlush _ _ s)) (.refl s)
  · exact .cancelFlush _ _ s

/-! ### Mount and format (R186 to R188) -/

theorem loadSettings (t : MountTables) (s : State) : KeepsAccounts s (loadSettings t s) := by
  have loaded : KeepsAccounts s { s with
      services := List.zipWith (fun (v : Service) p => { v with profile := p }) s.services t.profiles
      triggers := t.triggers } := .blocks
  have marked (u : State) (i : Nat) : KeepsAccounts u (u.modRc i fun r => { r with intakeMark := some .mount }) :=
    .modSvc u i _
  exact (loaded.trans (.foldl marked _ _)).trans (.modAm _ fun a => { a with profilesLoaded := true })

theorem defaultSettings (s : State) : KeepsAccounts s (defaultSettings s) := .blocks

theorem takeBoot (boot : Nat) (s : State) : KeepsAccounts s (takeBoot boot s) := by
  have staged : KeepsAccounts s { s with
      services := s.services.map fun (v : Service) => { v with rc := v.rc.withBoot boot }
      writeQueue := s.writeQueue.map (Buffer.withBoot boot) } := .blocks
  exact staged.trans (.modCl _ fun c => { c with boot := boot })

theorem enterRun (shutdown : Shutdown) (outcome : MountOutcome) (s : State) :
    KeepsAccounts s (enterRun shutdown outcome s) := by
  have started := (modPart s fun p => { p with state := .run }).trans
    (.logTake none (.reset s.part.cause shutdown outcome (elapsed s.now s.am.mountStart)) _)
  have lost (t : State) : KeepsAccounts t (if t.tb.refState = .holdover then
      Machine.logTake none (.refLost t.tb.lastEdge) (Machine.openDevice .refLost t) else t) :=
    .ite ((modCu t _).trans (.logTake _ _ _)) (.refl t)
  have supplied (t : State) : KeepsAccounts t (if t.part.lowSupply then Machine.assertSupply t else t) :=
    .ite (.assertSupply t) (.refl t)
  have gap (t : State) (i : Nat) : KeepsAccounts t (startUpGap t i) := (openCond _ _ _ _ t).trans (.modSvc _ i _)
  exact (((started.trans (lost _)).trans (.foldl (fun t i => .enableService i t) _ _)).trans
    (.foldl gap _ _)).trans (supplied _)

theorem mountWithout (state : ArchiveState) (outcome : MountOutcome) (s : State) :
    KeepsAccounts s (mountWithout state outcome s) :=
  (((replaced s _).trans (.defaultSettings _)).trans (.takeBoot _ _)).trans (.enterRun _ _ _)

theorem mounted {n : Nat} {pages : DevicePages} {t : MountTables} (tables : mountTables n pages = some t) (boot : Nat)
    (s : State) : KeepsAccounts s ((Machine.writeSucceeded (s.modAm fun a => a.mounted n boot t)).modCl fun c =>
      { c with nextPage := t.header.nextPage }) :=
  ((replaced s _ (mountTables_tables tables).1 (mountTables_tables tables).2).trans (.writeSucceeded _)).trans
    (.modCl _ _)

theorem mountDone (n : Nat) (pages : DevicePages) (s : State) : KeepsAccounts s (mountDone n pages s) := by
  unfold Machine.mountDone
  split
  · exact .mountWithout _ _ s
  · next t tables =>
    have loaded : KeepsAccounts s (if s.am.profilesLoaded then s else Machine.loadSettings t s) :=
      .ite (.refl s) (.loadSettings t s)
    exact ((loaded.trans (.mounted tables _ _)).trans (.takeBoot _ _)).trans (.enterRun _ _ _)

theorem reportMount (outcome : MountOutcome) (s : State) : KeepsAccounts s (reportMount outcome s) :=
  .ite ((logTake _ _ s).trans (.logTake _ _ _)) (.logTake _ _ s)

theorem remountWithout (state : ArchiveState) (outcome : MountOutcome) (s : State) :
    KeepsAccounts s (remountWithout state outcome s) :=
  (replaced s _).trans (.grouped (reportMount outcome) _)

theorem remountDone (n : Nat) (pages : DevicePages) (s : State) : KeepsAccounts s (remountDone n pages s) := by
  unfold Machine.remountDone
  split
  · exact .remountWithout _ _ s
  · next tables => exact (mounted tables _ s).trans (.grouped (reportMount _) _)

theorem mountEndsWithout (state : ArchiveState) (outcome : MountOutcome) (s : State) :
    KeepsAccounts s (mountEndsWithout state outcome s) := .ite (.remountWithout _ _ s) (.mountWithout _ _ s)

theorem mountGoesOn (n : Nat) (pages : DevicePages) (s : State) : KeepsAccounts s (mountGoesOn n pages s) := by
  have reading := modAm s fun a => { a with mount := .reading pages }
  unfold Machine.mountGoesOn
  dsimp only
  split
  · exact reading.trans (.startOperation _ _)
  · exact (reading.trans (.endOperation _)).trans (.mountEndsWithout _ _ _)
  · exact ((KeepsAccounts.ite reading (reading.trans (.loadSettings _ _))).trans (.modAm _ _)).trans
      (.startOperation _ _)

theorem mountAnswered (s : State) (answer : PageAnswer) : KeepsAccounts s (mountAnswered s answer) := by
  unfold Machine.mountAnswered
  dsimp only
  split
  · exact .mountGoesOn _ _ s
  · exact .ite ((endOperation s).trans (.remountDone _ _ _)) ((endOperation s).trans (.mountDone _ _ _))
  · exact (endOperation s).trans (.mountEndsWithout _ _ _)
  · exact (endOperation s).trans (.mountEndsWithout _ _ _)
  · exact .refl s

theorem writeFormatPage (page : Nat) (s : State) : KeepsAccounts s (writeFormatPage page s) := .startOperation _ s

theorem formatAnswered (s : State) (ok : Bool) : KeepsAccounts s (formatAnswered s ok) := by
  have failed (page : Nat) : KeepsAccounts s (formatFailed page (Machine.endOperation s)) :=
    ((((endOperation s).trans (.countFailure _)).trans (.replaced _ _)).trans
      (.grouped (reportMount _) _)).trans (.latchIfDue _ _ _)
  have written := (endOperation s).trans (.writeSucceeded _)
  have formatted (t : State) : KeepsAccounts t t.formatted := (replaced t _).trans (.modCl _ _)
  unfold Machine.formatAnswered
  split
  · dsimp only
    split
    · split
      · exact written.trans (.writeFormatPage _ _)
      · exact (written.trans (formatted _)).trans (.grouped (reportMount _) _)
    · exact failed _
  · exact .refl s

theorem probeEnds (capacity : Option Nat) (s : State) : KeepsAccounts s (probeEnds capacity s) := by
  have entered : KeepsAccounts s (if s.part.state = .run then s else enterMount s) :=
    .ite (.refl s) ((modPart s _).trans (.modAm _ _))
  unfold Machine.probeEnds
  dsimp only
  split
  · exact (entered.trans (.modAm _ _)).trans (.mountGoesOn _ _ _)
  · exact entered.trans (.mountEndsWithout _ _ _)

end KeepsAccounts

end Sys2Proof.Machine
end

section
/-! SUPPORT. Every command keeps the accounts of the log, the line and the archive's directory, with the obligation of
the log ring (R120 to R122). -/

namespace Sys2Proof.Machine

set_option Elab.async false

namespace KeepsAccounts

/-! ### What the verbs do (section 10.7) -/

theorem inRange {verb : String} {ok : Bool} {sent : List Text} {k : Nat} {s : State} {rest : Answer}
    (h : KeepsAccounts s rest.1) : KeepsAccounts s (inRange verb ok sent k s rest).1 := by
  cases ok
  · exact .refl s
  · exact h

/-- An answer chosen by a condition. -/
theorem answer {c : Prop} [Decidable c] {s : State} {a b : Answer} (h : KeepsAccounts s a.1) (k : KeepsAccounts s b.1) :
    KeepsAccounts s (if c then a else b).1 := by
  split
  · exact h
  · exact k

theorem said {verb : String} {fields : List Text} {s t : State} (h : KeepsAccounts s t) :
    KeepsAccounts s (say verb fields t).1 := h

theorem opSta (group : Option Text) (s : State) : KeepsAccounts s (opSta group s).1 := by
  have shown : KeepsAccounts s (s.modLc fun l => { l with dropped := false }) := .modLc s _
  unfold Machine.opSta
  split
  · exact shown
  · exact .answer shown (.answer shown (.refl s))

theorem opSvs (svc : Nat) (group : Option Text) (k : Option Nat) (sent : List Text) (s : State) :
    KeepsAccounts s (opSvs svc group k sent s).1 := by
  have conditions (k : Nat) : KeepsAccounts s (opSvsCond svc k sent s).1 := by
    refine .inRange ?_
    split <;> exact .refl s
  refine .inRange ?_
  split
  · exact .refl s
  · exact .answer (conditions _) (.answer (.refl s) (.answer (.refl s) (.refl s)))

theorem opSve (svc : Nat) (sent : List Text) (s : State) : KeepsAccounts s (opSve svc sent s).1 :=
  .inRange (.answer (.refl s) (.answer (.refl s) ((enableService svc s).trans (.clearMarks svc _))))

theorem opSvd (svc : Nat) (sent : List Text) (s : State) : KeepsAccounts s (opSvd svc sent s).1 :=
  .inRange (.answer (.disableService svc s) (.refl s))

theorem profileSet (i : Nat) (p : Profile) (s : State) : KeepsAccounts s (profileSet i p s) := by
  have written : KeepsAccounts s (s.modProfile i fun _ => p) := .modSvc s i _
  have masked (c : Prop) [Decidable c] (old : Nat) (t : State) :
      KeepsAccounts t (if c then t else Machine.maskChanged i old t) := .ite (.refl t) (.maskChanged i old t)
  have derived (c : Prop) [Decidable c] (t : State) : KeepsAccounts t (if c then t else deriveActive i t) :=
    .ite (.refl t) (.modSvc t i _)
  have limited (c : Prop) [Decidable c] (t : State) : KeepsAccounts t (if c then t else Machine.limitChanged i t) :=
    .ite (.refl t) (.limitChanged i t)
  exact .ite ((((written.trans (.modSvc _ i _)).trans (masked _ _ _)).trans (derived _ _)).trans (limited _ _)) written

theorem opPrf (svc : Nat) (settings : List (Text × Text)) (sent : List Text) (s : State) :
    KeepsAccounts s (opPrf svc settings sent s).1 := by
  refine .inRange ?_
  split
  · exact .refl s
  · exact .answer (.refl s) (.profileSet _ _ s)

theorem opPrq (svc : Nat) (keys : List Text) (sent : List Text) (s : State) :
    KeepsAccounts s (opPrq svc keys sent s).1 := by
  refine .inRange ?_
  split <;> exact .refl s

theorem opWgt (svc sec : Nat) (c : Coefficients) (sent : List Text) (s : State) :
    KeepsAccounts s (opWgt svc sec c sent s).1 := .inRange (.inRange (.answer (.refl s) (.modSvc s svc _)))

theorem opAck (svc : Nat) (sent : List Text) (s : State) : KeepsAccounts s (opAck svc sent s).1 :=
  .inRange (.modSvc s svc _)

theorem withContext (svc d : Nat) (s : State) (f : Nat → List Text) : KeepsAccounts s (withContext svc d s f).1 := by
  unfold Machine.withContext
  refine .answer (.refl s) ?_
  split <;> exact .refl s

theorem opCtq (svc : Nat) (form : ContextForm) (sent : List Text) (s : State) :
    KeepsAccounts s (opCtq svc form sent s).1 := by
  refine .inRange ?_
  split
  · exact .refl s
  · exact .inRange (.inRange (.withContext _ _ s _))
  · exact .inRange (.inRange (.withContext _ _ s _))

theorem opTim (second : Nat) (s : State) : KeepsAccounts s (opTim second s).1 := by
  have applied (t : State) : KeepsAccounts t (applyTime (clampNat 0 lastSecond second) t) :=
    (((modTb t _).trans (.logTake _ _ _)).trans (.modTb _ _)).trans (.turnTallies _ _)
  exact .grouped applied s

theorem withEntry {verb : String} {n : Nat} {s gone : State} {f : Entry → Answer} (h : KeepsAccounts s gone)
    (k : ∀ e, KeepsAccounts s (f e).1) : KeepsAccounts s (withEntry verb n s gone f).1 := by
  unfold Machine.withEntry
  refine .answer (.refl s) ?_
  split
  · exact h
  · exact h
  · exact k _

theorem opLog (n : Nat) (part : Option Nat) (sent : List Text) (s : State) : KeepsAccounts s (opLog n part sent s).1 :=
  .inRange (.inRange (.withEntry (.refl s) fun _ => .answer (.refl s) (.refl s)))

theorem opLgc (n : Nat) (sent : List Text) (s : State) : KeepsAccounts s (opLgc n sent s).1 :=
  .inRange (.said (.modCl s _))

/-- LGN moves the cursor over the ring, which stands (R124). -/
theorem opLgn (s : State) : KeepsAccounts s (opLgn s).1 := by
  refine .withEntry (.modCl s _) fun e => ?_
  by_cases more : s.cl.cursorPart < e.parts.length <;>
    exact .modCl s (fun c => c.advance e.parts.length) (by simp [LogState.advance, more])
      (by simp [LogState.advance, more]) (by simp [LogState.advance, more])

/-- A watch slot takes a watch or is cleared (R178). -/
theorem setWatch (slot : Nat) (w : Option Watch) (s : State) : KeepsAccounts s (setWatch slot w s) := .modLc s _

theorem opWch (slot svc : Nat) (meter : Text) (interval : Nat) (sent : List Text) (s : State) :
    KeepsAccounts s (opWch slot svc meter interval sent s).1 := by
  refine .inRange (.inRange ?_)
  split
  · exact .refl s
  · exact .setWatch _ _ s

theorem opWcx (slot : Nat) (sent : List Text) (s : State) : KeepsAccounts s (opWcx slot sent s).1 :=
  .inRange (.setWatch _ _ s)

theorem holdRefusedReply {verb : String} {x : HoldRefusal} {s before after : State} (h : KeepsAccounts s after) :
    KeepsAccounts s (holdRefusedReply verb x before after).1 := by
  cases x <;> exact h

theorem opHld (svc lo hi keep : Nat) (sent : List Text) (s : State) :
    KeepsAccounts s (opHld svc lo hi keep sent s).1 := by
  refine .inRange (.inRange ?_)
  have requested := requestHold ⟨svc, clampNat 0 lastSecond lo, clampNat 0 lastSecond hi, .host, none,
    clampNat 0 3650 keep, false⟩ s
  split
  · next answered => rw [answered] at requested; exact requested
  · next answered => rw [answered] at requested; exact .holdRefusedReply requested

theorem opHlr (id : Nat) (sent : List Text) (s : State) : KeepsAccounts s (opHlr id sent s).1 := by
  refine .inRange ?_
  split
  · exact .holdRefusedReply (.refl s)
  · split
    · exact .refl s
    · exact .dropHold _ _ s

theorem opHlq (id : Option Nat) (sent : List Text) (s : State) : KeepsAccounts s (opHlq id sent s).1 := by
  refine .inRange ?_
  split <;> exact .refl s

/-- A trigger slot is set or cleared (R163). -/
theorem setTrigger (slot : Nat) (t : Option Trigger) (s : State) :
    KeepsAccounts s (s.modTriggers fun l => setAt l slot t) := .blocks

theorem opTrg (slot : Nat) (event svc action : Text) (pre post : Nat) (sent : List Text) (s : State) :
    KeepsAccounts s (opTrg slot event svc action pre post sent s).1 := by
  refine .inRange ?_
  split
  · exact .refl s
  · split
    · exact .refl s
    · exact .refl s
    · exact .setTrigger _ _ s

theorem opTrx (slot : Nat) (sent : List Text) (s : State) : KeepsAccounts s (opTrx slot sent s).1 :=
  .inRange (.setTrigger _ _ s)

theorem acceptExport (kind : ExportKind) (service : Option Nat) (items : List ExportItem) (marks : List Text) (s : State) :
    KeepsAccounts s (acceptExport kind service items marks s).1 := by
  have started : KeepsAccounts s (startExport kind service items s) :=
    .ite ((modEe s _).trans (.endExport _ _)) (.modEe s _)
  unfold Machine.acceptExport exportAllowed
  split
  · exact .refl s
  · exact .answer (.refl s) (.answer (.refl s) (.answer (.refl s) (.answer (.refl s) started)))

theorem opExp (form : ExportForm) (sent : List Text) (s : State) : KeepsAccounts s (opExp form sent s).1 := by
  cases form <;> exact .inRange (.inRange (.acceptExport _ _ _ _ s))

theorem opXab (s : State) : KeepsAccounts s (opXab s).1 := by
  unfold Machine.opXab
  split
  · exact .refl s
  · exact .ite ((modEe s _).trans (.endExport _ _)) (.modEe s _)

theorem archiveAllowed {verb : String} {latchFirst ok : Bool} {s : State} {rest : Answer} (h : KeepsAccounts s rest.1) :
    KeepsAccounts s (archiveAllowed verb latchFirst ok s rest).1 :=
  .answer (.refl s) (.answer (.refl s) (.answer (.refl s) (.answer (.refl s) h)))

theorem opOfl (s : State) : KeepsAccounts s (opOfl s).1 := .archiveAllowed (.said (.modAm s _))

theorem opOnl (s : State) : KeepsAccounts s (opOnl s).1 := .archiveAllowed (.said (.modAm s _))

theorem opSav (s : State) : KeepsAccounts s (opSav s).1 :=
  .answer (.refl s) (.answer (.refl s) (.answer (.refl s) ((markDirty s _).trans (.logTake _ _ _))))

theorem opFmt (low : Option Nat) (s : State) : KeepsAccounts s (opFmt low s).1 :=
  .archiveAllowed ((modAm s _).trans (.writeFormatPage _ _))

theorem opRst (s : State) : KeepsAccounts s (opRst s).1 := by
  have flushing (c : Prop) [Decidable c] (t : State) :
      KeepsAccounts t (if c then t.modAm (Archive.startRstFlush s.now) else t) := .ite (.modAm t _) (.refl t)
  exact .answer (((modAm s _).trans (.queueAllFilling _)).trans (flushing _ _)) (.resetTo _ s)

/-- What a command record does keeps the accounts, verb by verb. -/
theorem operate (i : Instr) (sent : List Text) (s : State) : KeepsAccounts s (operate i sent s).1 := by
  cases i with
  | sta group => exact .opSta group s
  | svs svc group k => exact .opSvs svc group k sent s
  | sve svc => exact .opSve svc sent s
  | svd svc => exact .opSvd svc sent s
  | prf svc settings => exact .opPrf svc settings sent s
  | prq svc keys => exact .opPrq svc keys sent s
  | wgt svc sec b0 b1 b2 a1 a2 => exact .opWgt svc sec _ sent s
  | tim second => exact .opTim second s
  | mtr svc => exact .inRange (.refl s)
  | log n part => exact .opLog n part sent s
  | lgc n => exact .opLgc n sent s
  | lgn => exact .opLgn s
  | ack svc => exact .opAck svc sent s
  | wch slot svc meter interval => exact .opWch slot svc meter interval sent s
  | wcx slot => exact .opWcx slot sent s
  | hld svc lo hi keep => exact .opHld svc lo hi keep sent s
  | hlr id => exact .opHlr id sent s
  | hlq id => exact .opHlq id sent s
  | trg slot event svc action pre post => exact .opTrg slot event svc action pre post sent s
  | trx slot => exact .opTrx slot sent s
  | exp form => exact .opExp form sent s
  | xab => exact .opXab s
  | ofl => exact .opOfl s
  | onl => exact .opOnl s
  | sav => exact .opSav s
  | fmt low => exact .opFmt low s
  | rst => exact .opRst s
  | ctq svc form => exact .opCtq svc form sent s
  | _ => exact .refl s

/-! ### The line (R171 to R173, R176 to R179) -/

theorem putReply {s : State} {a : Answer} (h : KeepsAccounts s a.1) : KeepsAccounts s (putReply a) := by
  unfold Machine.putReply
  split
  · exact h
  · exact h.trans (.modLc _ _)

theorem runRecord {op : State → Answer} {s : State} (h : KeepsAccounts s (op s).1) (verb : Text) (fault : Option Nat) :
    KeepsAccounts s (runRecord verb fault op s) := by
  unfold Machine.runRecord
  split
  · exact .putReply (.refl s)
  · split
    · exact .putReply (.refl s)
    · refine .putReply ?_
      unfold fitReply
      split
      · exact h
      · exact .answer (.refl s) h

theorem runText (t : Text) (s : State) : KeepsAccounts s (runText t s) := by
  unfold Machine.runText
  split
  · exact .refl s
  · split
    · exact .putReply (.refl s)
    · split
      · exact .putReply (.refl s)
      · split
        · exact .runRecord (.refl s) _ _
        · exact .runRecord (.operate _ _ s) _ _

/-- The record being received is complete: it is empty, is executed, or waits (R171, R173). -/
theorem completeRecord {s : State} (room : s.lc.used < Config.receiveChars) :
    KeepsAccounts s (completeRecord s.lc.current s) := by
  have cleared : KeepsAccounts s (s.modLc fun l => { l with current := [] }) :=
    .modLc s _ fun h => Line.bounded_of_le h (used := Line.cleared_used s.lc)
  exact .ite cleared (.ite (cleared.trans (.runText _ _))
    (.modLc s (fun l => { l with current := [], waiting := l.waiting ++ [s.lc.current] }) (Line.waiting_bounded room)))

theorem receive (c : LineChar) (s : State) : KeepsAccounts s (receive c s) := by
  unfold Machine.receive
  split
  · exact .modLc s _ (Line.receiveFaulted_bounded _ c)
  · split
    · exact .modLc s _ (Line.receiveFull_bounded c)
    · next room =>
      have room := Nat.lt_of_not_le room
      exact .ite (.completeRecord room)
        (.ite (.modLc s _ fun h => Line.bounded_of_le h (used := Line.cleared_used s.lc))
          (.modLc s _ (Line.appended_bounded c room)))

theorem takeCharacter (s : State) (c : LineChar) : KeepsAccounts s (takeCharacter s c) := .settled (.receive c s)

theorem deliver (t : Text) (s : State) : KeepsAccounts s (deliver t s) :=
  .foldl (fun u c => .takeCharacter u ⟨c, false⟩) _ s

/-- A record of the line is its verb's operation (R173). -/
theorem record (i : Instr) (s : State) : KeepsAccounts s (Machine.verbRow i (Machine.operate i (fieldsOf i)) s) :=
  .ite (.settled (.runRecord (.operate i _ s) _ _)) (.deliver _ s)

/-- The end of `=RST`, or a line break in its stead, is marked while an RST is pending (R192). -/
theorem markReplyEnded (c : Prop) [Decidable c] (s : State) :
    KeepsAccounts s (if c then s.modAm fun a => { a with rstReplyEnded := true } else s) := .ite (.modAm s _) (.refl s)

theorem executeNext (s : State) : KeepsAccounts s (executeNext s) := by
  unfold Machine.executeNext
  split
  · next waiting => exact (modLc s _ (Line.next_bounded waiting)).trans (.runText _ _)
  · exact .refl s

theorem endTransmission (s : State) : KeepsAccounts s (endTransmission s) := by
  unfold Machine.endTransmission
  split
  · exact .refl s
  · have idle (t : State) : KeepsAccounts t (t.modLc fun l => { l with sending := none }.startSending) :=
      .modLc t _ fun h => Line.startSending_bounded (l := { t.lc with sending := none }) h
    exact ((markReplyEnded _ s).trans (idle _)).trans (.executeNext _)

/-- A line break empties the queues and the buffer (R179). -/
theorem breakLine (s : State) : KeepsAccounts s (breakLine s) :=
  (markReplyEnded _ s).trans (.modLc _ (fun l => { Line.reset with sending := l.sending }) fun _ =>
    ⟨Nat.zero_le _, Nat.zero_le _, Nat.zero_le _⟩)

theorem watchFallsDue (k : Nat) (s : State) : KeepsAccounts s (watchFallsDue k s) := by
  unfold Machine.watchFallsDue
  split
  · exact .refl s
  · next w _ =>
    refine .ite (.trans ?_ (.setWatch _ _ _)) (.refl s)
    split
    · next room => exact .reported s (s.watchReport k w) room
    · exact .refl s

/-! ### Every command -/

/-- An operation that fails is one of the port's (R139). -/
theorem operationFails (op : Operation) (s : State) : KeepsAccounts s (operationFails op s) := by
  cases op with
  | directory page image => exact .directoryWriteEnded false page image s
  | log position boot entries overflowed => exact .logWriteEnded false position s
  | recorded e page b => exact .recordedFailed _ _ _ s
  | exportRead e page => exact .exportReadEnded _ s
  | mountRead address => exact .mountAnswered s _
  | mountWrite image => exact .mountAnswered s _
  | formatWrite page image => exact .formatAnswered s _

end KeepsAccounts

/-- A command's outcome: a next state that keeps the accounts. -/
def Result.KeepsAccounts (s : State) (r : Result) : Prop := ∀ t, r = .next t → Machine.KeepsAccounts s t

theorem Result.keepsAccounts_next {s t : State} (h : Machine.KeepsAccounts s t) : Result.KeepsAccounts s (.next t) :=
  fun _ same => Host.Outcome.next.inj same ▸ h

/-- Every command keeps the accounts of the log, the line and the archive's directory. -/
theorem exec_keepsAccounts (i : Instr) (s : State) : Result.KeepsAccounts s (exec i s) := by
  cases i <;> refine Result.keepsAccounts_next ?_
  case wordClockEdge near =>
    exact .settled (.ite ((KeepsAccounts.leaveHoldover s).trans (.restartDivider _)) (.takeEdge s))
  case dividerTick => exact (KeepsAccounts.advanceTick s).trans (.modTb _ _)
  case holdoverEntry => exact .ite (.settled (.enterHoldover s)) (.refl s)
  case hourBoundary => exact .ite (.settled (.hourBoundary s)) (.refl s)
  case feedUnit bytes => exact .takeUnits _ _ s
  case waitExpiry svc => exact .ite (.settled (.goLost svc s)) (.refl s)
  case audioTimeoutExpiry svc => exact .ite (.settled (.goLost svc s)) (.refl s)
  case acquisitionWindowExpiry svc slot => exact .ite (.modSvc s svc _) (.refl s)
  case carriageTimeoutExpiry svc slot => exact .ite (.settled (.lapseSlot svc slot s)) (.refl s)
  case cueShow svc => exact .settled (.showHead svc s)
  case cueEnd svc slot =>
    split
    · exact .refl s
    · exact .ite (.uncover svc slot s) (.refl s)
  case subGapOpen svc slot =>
    exact .ite (.settled ((KeepsAccounts.modSvc s svc _).trans (.openCond _ _ _ _ _))) (.refl s)
  case adTimeOpen svc => exact .ite (.settled (.openCond _ _ _ _ s)) (.refl s)
  case logBufferDue => exact .ite (.modCl s _) (.refl s)
  case verdictCompletion =>
    split
    · exact .refl s
    · exact .ite (.settled (.completeVerdict _ s)) (.refl s)
  case spGrant => exact .ite (.settled (.grantNext _ s)) (.refl s)
  case recordedWriteSuccess =>
    split
    · exact .settled (.recordedSucceeded _ _ s)
    · exact .refl s
  case recordedWriteFailure =>
    split
    · exact .settled (.recordedFailed _ _ _ s)
    · exact .refl s
  case logPageWriteDone ok =>
    split
    · exact .settled (.logWriteEnded _ _ s)
    · exact .refl s
  case directoryWriteDone ok =>
    split
    · exact .settled (.directoryWriteEnded _ _ _ s)
    · exact .refl s
  case storageOperationTimeout =>
    split
    · exact .refl s
    · exact .ite (.settled (.operationFails _ s)) (.refl s)
  case exportReadDone page =>
    split
    · exact .settled (.exportReadEnded _ s)
    · exact .refl s
  case exportFrameEnd =>
    split
    · exact .refl s
    · split
      · exact .settled (.exportFrameEnded _ _ s)
      · exact .refl s
  case lowSupplyAssert =>
    have level := KeepsAccounts.modPart s fun p => { p with lowSupply := true }
    exact .ite (.refl s) (.ite (.settled (level.trans (.assertSupply _))) level)
  case lowSupplyDeassert =>
    have level := KeepsAccounts.modPart s fun p => { p with lowSupply := false }
    exact .ite (.ite (.settled (level.trans (.deassertSupply _))) level) (.refl s)
  case powerOnReset => exact .resetTo _ s
  case pinReset => exact .resetTo _ s
  case rstResetApplied => exact .ite (.resetTo _ s) (.refl s)
  case probeEnd capacity => exact .ite (.settled (.probeEnds _ s)) (.refl s)
  case mountEnd answers =>
    split
    · exact .settled (.foldl KeepsAccounts.mountAnswered _ s)
    · exact .settled (.foldl KeepsAccounts.mountAnswered _ s)
    · exact .refl s
  case formatEnd answers =>
    split
    · exact .settled (.foldl KeepsAccounts.formatAnswered _ s)
    · exact .refl s
  case lineCharacter code framing => exact .takeCharacter s _
  case lineBreak => exact .breakLine s
  case transmitEnd => exact .settled (.endTransmission s)
  case watchDue slot => exact .settled (.watchFallsDue slot s)
  case unknownVerb text => exact .ite (.settled (.runText _ s)) (.deliver _ s)
  all_goals exact .record _ s

theorem step_keepsAccounts {s t : State} (h : step s = .next t) : KeepsAccounts s t := by
  unfold step at h
  split at h
  · exact Host.Outcome.next.inj h ▸ .refl s
  · exact (KeepsAccounts.besidePort s s.feedBytes s.feedLost s.pending.tail).trans (exec_keepsAccounts _ _ t h)

/-- Settles O55: the ring changes where an entry is taken, and the mark where a group is refused; nothing else of a
command touches the log's account but a reset, which begins it anew. -/
theorem stepKeepsLogRing : Obligations.StepKeepsLogRing :=
  fun _ _ ring runs => (step_keepsAccounts runs).ring ring

end Sys2Proof.Machine
end


section
/-! SUPPORT. The log's read cursor, and its obligation (R123, R124). -/

namespace Sys2Proof.Machine

/-! ### LGC (R124) -/

theorem sequenceOk_iff {n : Nat} : sequenceOk n = true ↔ 1 ≤ n ∧ n ≤ 4294967295 := decide_eq_true_iff

/-- The words that show a log sequence, or its absence, leave room for two more. -/
theorem optText_natText_length (o : Option Nat) : (optText natText o).length ≤ 40 := by
  cases o with
  | none => decide
  | some n => exact natText_length n

/-- LGC sets the cursor to part 1 of the sequence it names, held or not. -/
theorem exec_lgc {s : State} {n : Nat} (ready : s.ready = true) (settled : s.settled = true) (least : 1 ≤ n)
    (most : n ≤ 4294967295) :
    exec (.lgc n) s = .next ((s.modCl fun c => { c with cursorSeq := n, cursorPart := 1 }).replying
      (words [ascii "=LGC", natText n, optText natText s.oldestHeld,
        if s.cl.ring.isEmpty then noneText else natText s.cl.lastSeq])) := by
  have sequence : sequenceOk n = true := sequenceOk_iff.mpr ⟨least, most⟩
  have named := natText_length n
  have oldest := optText_natText_length s.oldestHeld
  have last : (if s.cl.ring.isEmpty then noneText else natText s.cl.lastSeq).length ≤ 40 := by
    split
    · decide
    · exact natText_length _
  have room : fieldsRoom [natText n, optText natText s.oldestHeld,
      if s.cl.ring.isEmpty then noneText else natText s.cl.lastSeq] ≤ 156 := by
    simp only [fieldsRoom, List.map_cons, List.map_nil, List.sum_cons, List.sum_nil]
    omega
  refine exec_record rfl ready (sendable_ofNumber (by omega) rfl rfl rfl rfl) (fits_of_fields rfl room) ?_ settled
    rfl rfl
  simp only [operate, opLgc, sequence, inRange_true]
  rfl

/-- LGC refuses a sequence that no entry can have. -/
theorem exec_lgc_refused {s : State} {n : Nat} (ready : s.ready = true) (settled : s.settled = true)
    (outside : n < 1 ∨ 4294967295 < n) (form : n < 10 ^ 12) :
    exec (.lgc n) s = .next (s.replying (words [ascii "!LGC", ascii "RANGE", natText n])) := by
  have sequence : sequenceOk n = false := by rw [← Bool.not_eq_true, sequenceOk_iff]; omega
  have named := natText_length n
  have word : (ascii "RANGE").length = 5 := by decide
  have room : fieldsRoom [ascii "RANGE", natText n] ≤ 156 := by
    simp only [fieldsRoom, List.map_cons, List.map_nil, List.sum_cons, List.sum_nil]
    omega
  refine exec_readout rfl ready settled (sendable_ofNumber form rfl rfl rfl rfl) (fits_of_fields rfl room) ?_
  simp only [operate, opLgc, sequence]
  rfl

/-! ### LGN (R124) -/

/-- A refusal of LGN with one number meets R174. -/
theorem fits_lgn_refused {word : Text} (short : word.length ≤ 4) (n : Nat) :
    fits (words [ascii "!LGN", word, natText n]) = true := by
  have named := natText_length n
  refine fits_of_fields rfl ?_
  simp only [fieldsRoom, List.map_cons, List.map_nil, List.sum_cons, List.sum_nil]
  omega

/-- An entry that is not yet written is answered NONE. -/
theorem exec_lgn_unwritten {s : State} (ready : s.ready = true) (settled : s.settled = true)
    (ahead : s.cl.lastSeq < s.cl.cursorSeq) :
    exec .lgn s = .next (s.replying (words [ascii "!LGN", ascii "NONE", natText s.cl.lastSeq])) := by
  refine exec_readout rfl ready settled (by decide) (fits_lgn_refused (by decide) _) ?_
  simp only [operate, opLgn, withEntry, if_pos ahead]
  rfl

/-- An entry that is overwritten is answered GONE, and the cursor moves to the oldest held one. -/
theorem exec_lgn_overwritten {s : State} {o : Nat} (ready : s.ready = true) (settled : s.settled = true)
    (written : s.cl.cursorSeq ≤ s.cl.lastSeq) (oldest : s.oldestHeld = some o)
    (gone : s.heldEntry s.cl.cursorSeq = none) :
    exec .lgn s = .next ((s.modCl fun c => { c with cursorSeq := o, cursorPart := 1 }).replying
      (words [ascii "!LGN", ascii "GONE", natText o])) := by
  refine exec_record rfl ready (by decide) (fits_lgn_refused (by decide) o) ?_ settled rfl rfl
  have head : s.cl.ring.head?.map Entry.seq = some o := oldest
  simp only [operate, opLgn, withEntry, if_neg (Nat.not_lt.mpr written), oldest, gone, State.modCl, head,
    Option.getD_some]
  rfl

/-- A held entry is answered with the part at the cursor, which moves on. -/
theorem exec_lgn_held {s : State} {e : Entry} {o : Nat} (ready : s.ready = true) (settled : s.settled = true)
    (held : s.heldEntry s.cl.cursorSeq = some e) (written : s.cl.cursorSeq ≤ s.cl.lastSeq)
    (oldest : s.oldestHeld = some o) (fit : fits (e.partReply s.cl.cursorPart) = true) :
    exec .lgn s =
      .next ((s.modCl fun c => c.advance e.parts.length).replying (e.partReply s.cl.cursorPart)) := by
  have op : opLgn s = (s.modCl fun c => c.advance e.parts.length, some (e.partReply s.cl.cursorPart)) := by
    simp only [opLgn, withEntry, if_neg (Nat.not_lt.mpr written), oldest, held]
  have moved : (s.modCl fun c => c.advance e.parts.length).settled = s.settled := by
    simp only [State.settled, State.modCl, LogState.advance]
    split <;> rfl
  exact exec_record rfl ready (by decide) fit op (moved.trans settled) rfl rfl

theorem LogState.advance_eq (c : LogState) (parts : Nat) : c.advance parts =
    { c with
      cursorSeq := if c.cursorPart < parts then c.cursorSeq else c.cursorSeq + 1
      cursorPart := if c.cursorPart < parts then c.cursorPart + 1 else 1 } := by
  unfold advance
  split <;> rfl

/-! ### Resets and line breaks (R179, R185) -/

theorem breakLine_cl (s : State) : (breakLine s).cl = s.cl := by
  unfold breakLine
  dsimp only
  split <;> rfl

/-- Settles O47: the cases of LGC and LGN one by one; a reset gives the log its reset values, and a line break touches
the line alone. -/
theorem logCursorMoves : Obligations.LogCursorMoves := by
  unfold Obligations.LogCursorMoves
  refine ⟨fun s ready settled => ⟨fun n least most => exec_lgc ready settled least most,
    fun n outside form => exec_lgc_refused ready settled outside form, exec_lgn_unwritten ready settled,
    fun o written oldest gone => exec_lgn_overwritten ready settled written oldest gone,
    fun e o held written oldest fit => ?_⟩, fun s t reset => ?_, fun s t broken => ?_⟩
  · rw [exec_lgn_held ready settled held written oldest fit]
    simp only [State.modCl, LogState.advance_eq]
  · obtain powerOn | pin | ⟨due, applied⟩ := reset
    · rw [← Host.Outcome.next.inj powerOn]
      exact ⟨rfl, rfl⟩
    · rw [← Host.Outcome.next.inj pin]
      exact ⟨rfl, rfl⟩
    · rw [exec_rstResetApplied, if_pos due] at applied
      rw [← Host.Outcome.next.inj applied]
      exact ⟨rfl, rfl⟩
  · rw [← Host.Outcome.next.inj broken]
    exact breakLine_cl s

end Sys2Proof.Machine
end

section
/-! SUPPORT. What the end of an event leaves of the dirty pages, and the obligation of the ends of log and directory
page writes and of the log page buffer's due event (R125, R127, R139, R148). -/

namespace Sys2Proof.Machine

/-- The start of an evaluation touches the pool and CU alone (R102). -/
theorem startVerdict_eq (s : State) : ∃ pool cu, startVerdict s = { s with pool := pool, cu := cu } := by
  unfold startVerdict
  split
  · exact ⟨_, _, rfl⟩
  · exact ⟨s.pool, s.cu, rfl⟩

theorem startVerdict_am (s : State) : (startVerdict s).am = s.am := by
  obtain ⟨pool, cu, only⟩ := startVerdict_eq s
  rw [only]

/-! ### Dirty pages at the end of an event -/

theorem markDirty_mem (p : Nat) (s : State) : p ∈ (s.markDirty p).am.dirty := mem_insertRising.mpr (.inl rfl)

/-- No mark of a dirty page is cleared. -/
def KeepsMarks (s t : State) : Prop := s.am.dirty ⊆ t.am.dirty

namespace KeepsMarks

variable {s t u : State}

theorem refl (s : State) : KeepsMarks s s := List.Subset.refl _

theorem trans (h : KeepsMarks s t) (k : KeepsMarks t u) : KeepsMarks s u := List.Subset.trans h k

theorem ofAm (h : t.am = s.am) : KeepsMarks s t := by rw [KeepsMarks, h]; exact List.Subset.refl _

theorem markDirty (p : Nat) (s : State) : KeepsMarks s (s.markDirty p) := fun _ hx => mem_insertRising.mpr (.inr hx)

theorem logTake (svc : Option Nat) (b : Body) (s : State) : KeepsMarks s (logTake svc b s) :=
  .ofAm (logTake_only svc b s).am

theorem ite {c : Prop} [Decidable c] (h : KeepsMarks s t) (k : KeepsMarks s u) : KeepsMarks s (if c then t else u) := by
  split
  · exact h
  · exact k

theorem foldl {α : Type} {f : State → α → State} (h : ∀ s a, KeepsMarks s (f s a)) (l : List α) (s : State) :
    KeepsMarks s (l.foldl f s) := by
  induction l generalizing s with
  | nil => exact refl s
  | cons a l ih => exact (h s a).trans (ih _)

theorem requestHold (r : HoldRequest) (s : State) : KeepsMarks s (requestHold r s).1 := by
  unfold Machine.requestHold
  split
  · exact .logTake _ _ s
  · have created : KeepsMarks s (s.modAm fun a =>
        { a with holds := insertByKey Hold.id (s.holdFor r) a.holds, nextHold := nextIdAfter (s.holdFor r).id }) := refl s
    exact (created.trans (.logTake _ _ _)).trans (.markDirty _ _)

theorem actOnSlot (e : Entry) (s : State) (k : Nat) : KeepsMarks s (actOnSlot e s k) := by
  unfold Machine.actOnSlot
  split
  · exact .refl s
  · have reported (c : Prop) [Decidable c] (r : Text) : KeepsMarks s (if c then s else Machine.pushReport r s) :=
      .ite (.refl s) (.ofAm rfl)
    exact .ite (.ite (reported _ _) ((reported _ _).trans (requestHold _ _))) (.refl s)

theorem fanOut (s : State) : KeepsMarks s (fanOut s) :=
  foldl (fun t e => (ofAm (logReserve_only _ t).am).trans (.foldl (actOnSlot e) _ _)) _ s

theorem endExport (o : ExportOutcome) (s : State) : KeepsMarks s (endExport o s) := by
  unfold Machine.endExport
  split
  · exact .refl s
  · exact .logTake _ _ (s.modEe _)

theorem abortExport (o : ExportOutcome) (s : State) : KeepsMarks s (abortExport o s) := by
  unfold Machine.abortExport
  split
  · exact .refl s
  · split
    · exact .refl s
    · exact .endExport o s

theorem offlineChange (s : State) : KeepsMarks s (offlineChange s) :=
  .ite ((logTake none .storageOffline (s.modAm fun a => { a with state := .offline, oflPending := false })).trans
    (.abortExport .offline _)) (.refl s)

theorem endFlush (o : FlushOutcome) (s : State) : KeepsMarks s (endFlush o s) :=
  .ite (.logTake _ _ (s.modAm Archive.flushDone)) (.refl s)

theorem flushStep (s : State) : KeepsMarks s (flushStep s) :=
  .ite (.ite (endFlush _ s) (.ite (endFlush _ s) (.ite (.markDirty 0 (s.modAm fun a => { a with cleanFlag := true }))
    (.refl s)))) (.refl s)

/-- The end of an event may mark pages dirty and cleans none (R148). -/
theorem settle (s : State) : KeepsMarks s (settle s) :=
  ((((fanOut s).trans (.ofAm (startVerdict_am _))).trans (offlineChange _)).trans (flushStep _)).trans (fanOut _)

end KeepsMarks

/-! ### The ends of log and directory page writes (R127, R139, R148) -/

/-- Below the second failure in a row nothing latches (R144). -/
theorem latchIfDue_early {s : State} (target : WriteTarget) (failed : Option Buffer) (early : s.sp.failures < 2) :
    latchIfDue target failed s = s :=
  if_neg fun due => absurd due.1 (Nat.not_le.mpr early)

theorem directoryWriteEnded_ok (p : Nat) (image : DirectoryImage) (s : State) :
    SameCore (writeSucceeded (endOperation s)) (directoryWriteEnded true p image s) := by
  unfold directoryWriteEnded
  dsimp only
  rw [if_pos rfl]
  split
  · exact endFlush_same _ _
  · exact .refl _

theorem directoryWriteEnded_failed {s : State} (p : Nat) (image : DirectoryImage) (first : s.sp.failures = 0) :
    directoryWriteEnded false p image s = countFailure ((endOperation s).markDirty p) :=
  latchIfDue_early _ _ (show s.sp.failures + 1 < 2 by omega)

/-- Settles O25: what each write's end does before the end of the event, which leaves the port, the extents and the next
log page and cleans no page; the due event's condition is its rule's. -/
theorem logAndDirectoryWritesEnd : Obligations.LogAndDirectoryWritesEnd := by
  unfold Obligations.LogAndDirectoryWritesEnd
  refine fun s => ⟨fun k b es o op => ?_, fun p image op => ⟨?_, fun first => ?_⟩, fun filling due => ?_⟩
  · have ended := settle_same (logWriteEnded true k s)
    exact ⟨_, exec_logPageWriteDone op true, ended.nextPage, ended.sp, KeepsMarks.settle _ (markDirty_mem 0 _),
      ended.services,
      ended.extents, ended.tb⟩
  · have ended := (directoryWriteEnded_ok p image s).trans (settle_same _)
    exact ⟨_, exec_directoryWriteDone op true, ended.sp, ended.services, ended.extents, ended.tb, ended.nextPage⟩
  · have failed := directoryWriteEnded_failed p image first
    have ended := settle_same (directoryWriteEnded false p image s)
    have marked := KeepsMarks.settle (directoryWriteEnded false p image s)
    rw [failed] at ended marked
    refine ⟨_, exec_directoryWriteDone op false, ?_⟩
    rw [failed]
    refine ⟨ended.sp.trans ?_, marked (markDirty_mem p _), ended.services, ended.extents, ended.tb, ended.nextPage⟩
    show { s.sp with operation := none, failures := s.sp.failures + 1 } = _
    rw [first]
  · exact congrArg Host.Outcome.next (if_pos ⟨filling, due⟩)

end Sys2Proof.Machine
end

section
/-! SUPPORT. The grants of the storage port (R140), and their obligation. -/

namespace Sys2Proof.Machine

/-! ### The rule of the free port, request by request (R126, R140, R148, R166) -/

theorem grantFirst_directory {s : State} {p : Nat} {rest : List Nat} (dirty : s.am.dirty = p :: rest) (fuel : Nat) :
    grantFirst (fuel + 1) s = grantDirectory p s := by
  rw [grantFirst, dirty]

theorem grantFirst_log {s : State} (clean : s.am.dirty = []) (request : s.logRequest = true) (fuel : Nat) :
    grantFirst (fuel + 1) s = grantLog s := by
  rw [grantFirst, clean]
  exact if_pos request

/-- A page whose service has a FILLING extent goes to the page that follows those written (R141). -/
theorem grantFirst_recorded {s : State} {b : Buffer} {rest : List Buffer} {e : Nat} (clean : s.am.dirty = [])
    (request : s.logRequest = false) (queue : s.writeQueue = b :: rest) (filling : s.fillingExtent b.service = some e)
    (fuel : Nat) : grantFirst (fuel + 1) s = grantRecorded b e (s.extent e).pages (s.modQueue fun _ => rest) := by
  have placed : placePage b.service (s.modQueue fun _ => rest) =
      (s.modQueue fun _ => rest, some (e, (s.extent e).pages)) := by
    rw [placePage, show (s.modQueue fun _ => rest).fillingExtent b.service = some e from filling]
    rfl
  rw [grantFirst, clean]
  simp only [request, Bool.false_eq_true, if_false, queue, placed]

theorem grantFirst_export {s : State} {x : Export} (clean : s.am.dirty = []) (request : s.logRequest = false)
    (queue : s.writeQueue = []) (current : s.ee.current = some x) (waiting : x.state = .waiting) (fuel : Nat) :
    grantFirst (fuel + 1) s = grantExport x s := by
  rw [grantFirst, clean]
  simp only [request, Bool.false_eq_true, if_false, queue, current, waiting, if_true]

/-- The page's grant takes its service's issue loss mark, and may set its extent's gap-inside flag (R137, R141). -/
theorem grantRecorded_starts (b : Buffer) (e page : Nat) (s : State) : ∃ services extents,
    grantRecorded b e page s =
      startOperation (.recorded e page { b with gap := b.gap.or (s.svc b.service).rc.issueMark })
        { s with services := services, am := { s.am with extents := extents } } := by
  unfold grantRecorded
  dsimp only
  split
  · exact ⟨_, _, rfl⟩
  · exact ⟨_, s.am.extents, rfl⟩

/-- The part in which a group of entries is counted before it is made (R121). -/
def State.inGroup (s : State) : State := s.modCl fun c => { c with lastSeq := 0, exhausted := false }

/-- A grant that makes no entry is no group (R121). -/
theorem grantNext_eq {fuel : Nat} {s t : State} (grants : grantFirst fuel s = t)
    (silent : (grantFirst fuel s.inGroup).cl.lastSeq = 0) : grantNext fuel s = t := by
  have none : entriesOf (grantFirst fuel) s = 0 := silent
  rw [grantNext, grouped_fits _ _ (none ▸ Nat.zero_le _), grants]

/-! ### The end of a grant -/

/-- After a grant the part is busy with it: no OFL takes effect, and no flush goes on (R151, R190). -/
structure State.granted (s : State) : Prop where
  handed : s.cl.handed = []
  online : s.am.state = .online
  noOffline : s.am.oflPending = false
  clear : s.sp.faultLatched = false
  busy : s.sp.operation.isSome = true

/-- With no entry to match TU does nothing (R128). -/
theorem fanOut_nothing {s : State} (h : s.cl.handed = []) : fanOut s = s := by
  have same : { s.cl with handed := [] } = s.cl := by rw [← h]
  rw [fanOut, h, List.foldl_nil, State.modCl, same]

/-- At the end of a grant a waiting evaluation starts and the transmitter takes its next record. -/
theorem settle_granted {s : State} (h : s.granted) : settle s = (startVerdict s).modLc Line.startSending := by
  obtain ⟨pool, cu, only⟩ := startVerdict_eq s
  have stays : offlineChange (startVerdict s) = startVerdict s := by
    rw [only, offlineChange]
    exact if_neg fun due => Bool.false_ne_true (h.noOffline.symm.trans due.1)
  have drained : (startVerdict s).drained = false := by
    rw [only, State.drained, ← Option.not_isSome, h.busy, Bool.not_true, Bool.and_false]
  have goesOn : flushStep (startVerdict s) = startVerdict s := by
    have latched : ¬ (startVerdict s).sp.faultLatched = true := by rw [only]; simp [h.clear]
    have online : ¬ (startVerdict s).am.state ≠ .online := by rw [only]; simp [h.online]
    unfold flushStep
    rw [if_neg latched, if_neg online, drained]
    simp
  have nothing : fanOut (startVerdict s) = startVerdict s := fanOut_nothing (by rw [only]; exact h.handed)
  rw [settle, fanOut_nothing h.handed, stays, goesOn, nothing]

/-- Of the part as the grant has made it the end of its event changes the pool, CU and the line alone. -/
theorem settle_granted_only {s : State} (h : s.granted) : ∃ pool cu lc,
    settle s = { s with pool := pool, cu := cu, lc := lc } := by
  obtain ⟨pool, cu, only⟩ := startVerdict_eq s
  exact ⟨pool, cu, _, by rw [settle_granted h, only]; rfl⟩

theorem mayGrant_parts {s : State} (may : s.mayGrant = true) :
    s.am.state = .online ∧ s.am.oflPending = false ∧ s.sp.faultLatched = false := by
  simp only [State.mayGrant, Bool.and_eq_true, Bool.not_eq_true', decide_eq_true_eq] at may
  exact ⟨may.1.1.2, may.1.2, may.2⟩

theorem exec_spGrant {s : State} (may : s.mayGrant = true) :
    exec .spGrant s = .next (settle (grantNext (s.writeQueue.length + 2) s)) :=
  congrArg Host.Outcome.next (if_pos may)

/-- The grant of an operation: its event, and the part at its end. -/
theorem exec_spGrant_starts {s u : State} {op : Operation} (may : s.mayGrant = true) (matched : s.cl.handed = [])
    (grants : grantNext (s.writeQueue.length + 2) s = startOperation op u) (handed : u.cl.handed = s.cl.handed)
    (state : u.am.state = s.am.state) (pending : u.am.oflPending = s.am.oflPending)
    (latched : u.sp.faultLatched = s.sp.faultLatched) :
    ∃ t, exec .spGrant s = .next t ∧ SameCore (startOperation op u) t ∧
      ∃ pool cu lc, t = { startOperation op u with pool := pool, cu := cu, lc := lc } := by
  obtain ⟨online, noOffline, clear⟩ := mayGrant_parts may
  have granted : (startOperation op u).granted :=
    ⟨handed.trans matched, state.trans online, pending.trans noOffline, latched.trans clear, rfl⟩
  exact ⟨_, by rw [exec_spGrant may, grants], settle_same _, settle_granted_only granted⟩

/-- Settles O22: the request that stands first in the order is the one the rule grants, and the end of the event leaves
the port, the log and the archive. -/
theorem spGrantsByPriority : Obligations.SpGrantsByPriority := by
  unfold Obligations.SpGrantsByPriority
  refine fun s may matched => ⟨fun p rest dirty => ?_, fun clean request => ?_, fun clean request =>
    ⟨fun b rest e queue filling => ?_, fun queue x current waiting => ?_⟩⟩
  · have grants : grantNext (s.writeQueue.length + 2) s = grantDirectory p s :=
      grantNext_eq (grantFirst_directory dirty _) (by rw [grantFirst_directory (s := s.inGroup) dirty]; rfl)
    obtain ⟨t, runs, same, pool, cu, lc, rfl⟩ := exec_spGrant_starts may matched grants rfl rfl rfl rfl
    exact ⟨_, runs, by simp [startOperation], { same with }⟩
  · have grants : grantNext (s.writeQueue.length + 2) s = grantLog s :=
      grantNext_eq (grantFirst_log clean request _) (by rw [grantFirst_log (s := s.inGroup) clean request]; rfl)
    obtain ⟨t, runs, -, pool, cu, lc, rfl⟩ := exec_spGrant_starts may matched grants rfl rfl rfl rfl
    exact ⟨_, runs, rfl, rfl, rfl, rfl, rfl⟩
  · obtain ⟨services, extents, starts⟩ := grantRecorded_starts b e (s.extent e).pages (s.modQueue fun _ => rest)
    have silent (page : Nat) (t : State) : (grantRecorded b e page t).cl = t.cl := by
      obtain ⟨_, _, starts⟩ := grantRecorded_starts b e page t
      rw [starts]
      rfl
    have grants := grantNext_eq (fuel := s.writeQueue.length + 2)
      ((grantFirst_recorded clean request queue filling _).trans starts)
      (by rw [grantFirst_recorded (s := s.inGroup) clean request queue filling, silent]; rfl)
    obtain ⟨t, runs, -, pool, cu, lc, rfl⟩ := exec_spGrant_starts may matched grants rfl rfl rfl rfl
    exact ⟨_, runs, rfl, rfl, rfl, rfl, rfl⟩
  · have grants : grantNext (s.writeQueue.length + 2) s = grantExport x s :=
      grantNext_eq (grantFirst_export clean request queue current waiting _)
        (by rw [grantFirst_export (s := s.inGroup) clean request queue current waiting]; rfl)
    obtain ⟨t, runs, -, pool, cu, lc, rfl⟩ := exec_spGrant_starts may matched grants rfl rfl rfl rfl
    exact ⟨_, runs, rfl, rfl, rfl⟩

end Sys2Proof.Machine
end


section
/-! SUPPORT. What TU does for one set slot, what the expiry of holds leaves of them, and the obligation of triggers and
holds (R128, R161, R164). -/

namespace Sys2Proof.Machine

/-! ### Which entries match a slot (R164) -/

theorem eventFits_condOpen (c : CondClass) (b : Body) :
    eventFits (.condOpen c) b = true ↔ ∃ slot cause, b = .condOpen c slot cause := by
  cases b <;> simp [eventFits, eq_comm]

theorem eventFits_condClose (c : CondClass) (b : Body) :
    eventFits (.condClose c) b = true ↔ ∃ slot cause dur q, b = .condClose c slot cause dur q := by
  cases b <;> simp [eventFits, eq_comm]

theorem eventFits_verdictFail (b : Body) :
    eventFits .verdictFail b = true ↔ ∃ v, b = .verdict v ∧ v.failed ≠ [] := by
  cases b <;> simp [eventFits]

theorem eventFits_peakOver (b : Body) :
    eventFits .peakOver b = true ↔ ∃ c kind id peak ceiling, b = .peakOver c kind id peak ceiling := by
  cases b <;> simp [eventFits]

theorem triggerMatches_iff (g : Trigger) (e : Entry) : triggerMatches g e = true ↔
    ∃ svc, e.service = some svc ∧ (g.service = none ∨ g.service = some svc) ∧ eventFits g.event e.body = true := by
  unfold triggerMatches
  cases e.service with
  | none => simp
  | some svc => cases g.service <;> simp

/-! ### AM's answer to a hold request (R156, R157) -/

/-- AM tests a request, and makes its hold, by the archive, the port and the time base (R156, R157). -/
theorem holdTests_ofLog {s t : State} (h : OnlyLog s t) (r : HoldRequest) : t.holdTests r = s.holdTests r := by
  simp only [State.holdTests, State.holdsBarred, h.am, h.sp, h.tb]

theorem holdFor_ofLog {s t : State} (h : OnlyLog s t) (r : HoldRequest) : t.holdFor r = s.holdFor r := by
  simp only [State.holdFor, State.wallNow, State.now, h.am, h.tb]

theorem requestHold_refused {s : State} {r : HoldRequest} {x : HoldRefusal} (refused : s.holdTests r = some x) :
    (requestHold r s).1.am = s.am := by
  simp only [requestHold, refused]
  exact (logTake_only _ _ s).am

/-- A request of an untimed entry is refused, by whichever test comes first (R156, R164). -/
theorem requestHold_untimed {r : HoldRequest} (untimed : r.untimed = true) (s : State) :
    (requestHold r s).1.am = s.am := by
  obtain ⟨x, refused⟩ : ∃ x, s.holdTests r = some x := by
    unfold State.holdTests
    split
    · exact ⟨_, rfl⟩
    · exact ⟨_, if_pos (.inr untimed)⟩
  exact requestHold_refused refused

/-- The archive with a hold created, and the page of holds dirty (R157, R148). -/
def Archive.withHold (h : Hold) (a : Archive) : Archive :=
  { a with
    holds := insertByKey Hold.id h a.holds
    nextHold := nextIdAfter h.id
    dirty := insertRising 257 a.dirty }

theorem requestHold_created {s : State} {r : HoldRequest} (passed : s.holdTests r = none) :
    (requestHold r s).1.am = s.am.withHold (s.holdFor r) := by
  simp only [requestHold, passed, State.markDirty, State.modAm]
  rw [(logTake_only _ _ _).am]
  rfl

/-- A report that waits stays in the queue while others join it (R177). -/
theorem pushReport_mem {r x : Text} {s : State} (h : x ∈ s.lc.reports) : x ∈ (pushReport r s).lc.reports := by
  simp only [pushReport, State.modLc_lc]
  split
  · exact List.mem_append_left _ h
  · exact h

theorem logTake_report_mem {svc : Option Nat} {b : Body} {x : Text} {s : State} (h : x ∈ s.lc.reports) :
    x ∈ (logTake svc b s).lc.reports := by
  unfold logTake
  split
  · exact h
  · exact pushReport_mem h

theorem requestHold_report_mem {r : HoldRequest} {x : Text} {s : State} (h : x ∈ s.lc.reports) :
    x ∈ (requestHold r s).1.lc.reports := by
  unfold requestHold
  split <;> exact logTake_report_mem h

/-! ### One set slot (R164) -/

/-- The trigger table with slot `k` alone set. -/
def soleTrigger (k : Nat) (g : Trigger) : List (Option Trigger) := (List.replicate 8 none).modify k fun _ => some g

theorem soleTrigger_self {k : Nat} (hk : k < 8) (g : Trigger) : (soleTrigger k g).getD k none = some g := by
  simp [soleTrigger, List.getD_eq_getElem?_getD, hk]

theorem soleTrigger_other {j k : Nat} (hj : j ≠ k) (g : Trigger) : (soleTrigger k g).getD j none = none := by
  rw [soleTrigger, List.getD_eq_getElem?_getD, List.getElem?_modify_ne _ _ (Ne.symm hj),
    List.getElem?_getD_replicate_default_eq]

/-- The `^T` report of a slot for an entry (R164). -/
def triggerReport (k : Nat) (e : Entry) : Text := words [ascii "^T", natText k, natText e.seq]

theorem actOnSlot_unset {e : Entry} {s : State} {k : Nat} (unset : s.triggers.getD k none = none) :
    actOnSlot e s k = s := by
  rw [actOnSlot, unset]

theorem actOnSlot_unmatched {e : Entry} {s : State} {k : Nat} {g : Trigger} (set : s.triggers.getD k none = some g)
    (unmatched : ¬ triggerMatches g e = true) : actOnSlot e s k = s := by
  rw [actOnSlot, set]
  exact if_neg unmatched

theorem actOnSlot_report {e : Entry} {s : State} {k : Nat} {g : Trigger} (set : s.triggers.getD k none = some g)
    (matched : triggerMatches g e = true) (action : g.action = .report) :
    actOnSlot e s k = pushReport (triggerReport k e) s := by
  rw [actOnSlot, set]
  simp only [matched, if_true, action, reduceCtorEq, if_false, triggerReport]

/-- A slot with HOLD or BOTH asks AM for the hold, after BOTH's report (R164). -/
theorem actOnSlot_hold {e : Entry} {s : State} {k : Nat} {g : Trigger} (set : s.triggers.getD k none = some g)
    (matched : triggerMatches g e = true) (action : g.action ≠ .report) : ∃ u, OnlyLog s u ∧
      (g.action = .both → u = pushReport (triggerReport k e) s) ∧
      actOnSlot e s k = (requestHold (s.triggerRequest g e) u).1 := by
  rw [actOnSlot, set]
  simp only [matched, if_true, action, if_false]
  refine ⟨if g.action = .hold then s else pushReport (triggerReport k e) s, ?_, fun both => ?_, ?_⟩
  · split
    · exact .refl s
    · exact pushReport_only _ s
  · simp only [both, reduceCtorEq, if_false]
  · split <;> rfl

/-- With slot `k` alone set the slots of an entry are that one. -/
theorem foldl_actOnSlot_sole {e : Entry} {s : State} {k : Nat} {g : Trigger} (hk : k < 8)
    (sole : s.triggers = soleTrigger k g) : (List.range 8).foldl (actOnSlot e) s = actOnSlot e s k := by
  have others (l : List Nat) (t : State) (sole : t.triggers = soleTrigger k g) (absent : k ∉ l) :
      l.foldl (actOnSlot e) t = t := by
    induction l with
    | nil => rfl
    | cons j l ih =>
      obtain ⟨ne, rest⟩ := not_or.mp (mt List.mem_cons.mpr absent)
      rw [List.foldl_cons, actOnSlot_unset (by rw [sole, soleTrigger_other (Ne.symm ne)]), ih rest]
  obtain ⟨before, after, split⟩ := List.append_of_mem (List.mem_range.mpr hk)
  have nodup : (before ++ k :: after).Nodup := split ▸ List.nodup_range
  obtain ⟨-, cons, apart⟩ := List.nodup_append.mp nodup
  rw [split, List.foldl_append, others before s sole fun h => apart k h k List.mem_cons_self rfl, List.foldl_cons,
    others after _ ((actOnSlot_same e s k).triggers.trans sole) (List.nodup_cons.mp cons).1]

/-- TU's work for one entry and one set slot: the slot's, in a part of which the log may be exhausted by then (R121). -/
theorem fanOut_sole {s : State} {e : Entry} {k : Nat} {g : Trigger} (hk : k < 8) (sole : s.triggers = soleTrigger k g)
    (handed : s.cl.handed = [e]) : ∃ n, fanOut s =
      (actOnSlot e (logReserve n s) k).modCl fun c => { c with handed := [] } := by
  refine ⟨entriesOf (fun t => (List.range 8).foldl (actOnSlot e) t) s, ?_⟩
  rw [fanOut, handed, List.foldl_cons, List.foldl_nil, matchEntry, grouped,
    foldl_actOnSlot_sole hk ((logReserve_same _ s).triggers.trans sole)]

theorem logReserve_lc (n : Nat) (s : State) : (logReserve n s).lc = s.lc := by
  unfold logReserve
  split <;> rfl

/-- A matched slot that asks for a hold, seen from before TU's work. -/
theorem fanOut_sole_hold {s : State} {e : Entry} {k : Nat} {g : Trigger} (hk : k < 8)
    (sole : s.triggers = soleTrigger k g) (handed : s.cl.handed = [e]) (matched : triggerMatches g e = true)
    (action : g.action ≠ .report) : ∃ u, OnlyLog s u ∧
      (g.action = .both → s.lc.reports.length < 32 → triggerReport k e ∈ u.lc.reports) ∧
      (fanOut s).am = (requestHold (s.triggerRequest g e) u).1.am ∧
      (fanOut s).lc = (requestHold (s.triggerRequest g e) u).1.lc := by
  obtain ⟨n, eq⟩ := fanOut_sole hk sole handed
  have reserved := logReserve_only n s
  obtain ⟨u, only, both, acts⟩ := actOnSlot_hold (e := e) (s := logReserve n s) (k := k) (g := g)
    (by rw [reserved.triggers, sole, soleTrigger_self hk]) matched action
  have request : (logReserve n s).triggerRequest g e = s.triggerRequest g e := by
    simp only [State.triggerRequest, State.svc, reserved.services]
  rw [request] at acts
  refine ⟨u, reserved.trans only, fun ha room => ?_, by rw [eq, acts]; rfl, by rw [eq, acts]; rfl⟩
  rw [both ha, pushReport, State.modLc_lc, if_pos (by rw [logReserve_lc]; exact room)]
  exact List.mem_append_right _ (List.mem_singleton.mpr rfl)

/-- The request of a matched slot for a timed entry of a service (R164). -/
theorem triggerRequest_timed {s : State} {g : Trigger} {e : Entry} {svc : Nat} {w : WallStamp}
    (service : e.service = some svc) (wall : e.wall = some w) : s.triggerRequest g e =
      ⟨svc, w.second - g.pre, min (w.second + g.post) 4294967295, .trigger, some e.seq, (s.svc svc).profile.keepDays,
        false⟩ := by
  simp only [State.triggerRequest, service, wall]
  rfl

/-- The hold that TU's request creates (R157, R164). -/
theorem fanOut_sole_created {s : State} {e : Entry} {k : Nat} {g : Trigger} (hk : k < 8)
    (sole : s.triggers = soleTrigger k g) (handed : s.cl.handed = [e]) (matched : triggerMatches g e = true)
    (action : g.action ≠ .report) (passed : s.holdTests (s.triggerRequest g e) = none) :
    (fanOut s).am = s.am.withHold (s.holdFor (s.triggerRequest g e)) := by
  obtain ⟨u, only, -, am, -⟩ := fanOut_sole_hold hk sole handed matched action
  rw [am, requestHold_created ((holdTests_ofLog only _).trans passed), only.am, holdFor_ofLog only]

/-- TU's work on one entry with one set slot. -/
theorem fanOut_sole_unmatched {s : State} {e : Entry} {k : Nat} {g : Trigger} (hk : k < 8)
    (sole : s.triggers = soleTrigger k g) (handed : s.cl.handed = [e]) (unmatched : ¬ triggerMatches g e = true) :
    (fanOut s).am = s.am ∧ (fanOut s).lc = s.lc := by
  obtain ⟨n, eq⟩ := fanOut_sole hk sole handed
  have reserved := logReserve_only n s
  rw [eq, actOnSlot_unmatched (g := g) (by rw [reserved.triggers, sole, soleTrigger_self hk]) unmatched]
  exact ⟨reserved.am, logReserve_lc n s⟩

theorem fanOut_sole_report {s : State} {e : Entry} {k : Nat} {g : Trigger} (hk : k < 8)
    (sole : s.triggers = soleTrigger k g) (handed : s.cl.handed = [e]) (matched : triggerMatches g e = true)
    (action : g.action = .report) : (fanOut s).am = s.am ∧
      (s.lc.reports.length < 32 → (fanOut s).lc.reports = s.lc.reports ++ [triggerReport k e]) := by
  obtain ⟨n, eq⟩ := fanOut_sole hk sole handed
  have reserved := logReserve_only n s
  rw [eq, actOnSlot_report (g := g) (by rw [reserved.triggers, sole, soleTrigger_self hk]) matched action]
  refine ⟨(pushReport_only (triggerReport k e) _).am.trans reserved.am, fun room => ?_⟩
  rw [State.modCl_lc, pushReport, State.modLc_lc, logReserve_lc, if_pos (show _ < Config.reportCount from room)]

/-! ### AD_TIME as it opens (R115, R164) -/

theorem fanOut_handed (s : State) : (fanOut s).cl.handed = [] := rfl

/-- The end of an event that leaves nothing but entries for TU is TU's work and the transmitter's. -/
theorem settle_of_fanOut {s : State} (h : (fanOut s).settled = true) :
    settle s = (fanOut s).modLc Line.startSending := by
  rw [← settle_eq _ h, settle, settle, fanOut_nothing (fanOut_handed s)]

/-- A settled part whose log alone has changed since is settled by TU's work, if that leaves OFL and the flush. -/
theorem settled_fanOut {s t : State} (settled : s.settled = true) (only : OnlyLog s t)
    (offline : (fanOut t).am.oflPending = t.am.oflPending) (flush : (fanOut t).am.flush = t.am.flush) :
    (fanOut t).settled = true := by
  have after := settled_ofLog only settled
  obtain ⟨cl, am, ee, lc, eq⟩ := fanOut_logArchive t
  have handed := fanOut_handed t
  rw [eq] at offline flush handed ⊢
  simp only [State.settled, Bool.and_eq_true] at after ⊢
  obtain ⟨⟨⟨-, verdict⟩, noOffline⟩, idle⟩ := after
  exact ⟨⟨⟨by rw [handed]; rfl, verdict⟩, by rw [offline]; exact noOffline⟩, by rw [flush]; exact idle⟩

/-- The entry of a condition that opens, and what it is handed to (R109, R120). -/
theorem openCond_handed {s : State} {i : Nat} {c : CondClass} {slot : Option Nat} {cause : Option GapCause}
    (enabled : (s.svc i).profile.enabled = true) (closed : s.isOpen (some i) c slot = false)
    (room : s.cl.exhausted = false) : (openCond i c slot cause s).cl.handed =
      s.cl.handed ++ [s.entryFor (some i) (.condOpen c slot cause)] := by
  rw [openCond, if_neg (by simp [enabled, closed]), logTake_cl _ _ (s.modCu _) room]
  rfl

/-! ### The expiry of holds (R161) -/

/-- A hold with a keep-until at or below the second is due (R161). -/
def Hold.due (second : Nat) (h : Hold) : Bool :=
  match h.keepUntil with
  | none => false
  | some k => decide (k ≤ second)

/-- A hold that is not due has no keep-until, or one above the second. -/
theorem Hold.not_due (second : Nat) (h : Hold) : (!h.due second) = match h.keepUntil with
    | none => true
    | some n => decide (second < n) := by
  unfold Hold.due
  cases h.keepUntil with
  | none => rfl
  | some n => simp [← decide_not]

theorem dropHold_holds (h : Hold) (expired : Bool) (s : State) :
    (dropHold h expired s).am.holds = s.am.holds.filter fun g => decide (g.id ≠ h.id) :=
  congrArg Archive.holds (logTake_only _ _ _).am

theorem foldl_dropHold_holds (l : List Hold) (s : State) :
    (l.foldl (fun t h => dropHold h true t) s).am.holds = s.am.holds.filter fun g => decide (g.id ∉ l.map Hold.id) := by
  induction l generalizing s with
  | nil => simp
  | cons h l ih =>
    rw [List.foldl_cons, ih, dropHold_holds, List.filter_filter]
    exact List.filter_congr fun g _ => by
      simp only [List.map_cons, List.mem_cons, not_or, ne_eq, Bool.decide_and, Bool.and_comm]

/-- By their ids the due holds are removed and no other (R161). -/
theorem expireHolds_holds {s : State} {second : Nat} (distinct : (s.am.holds.map Hold.id).Nodup) :
    (expireHolds second s).am.holds =
      if s.am.state = .online ∧ s.am.oflPending = false ∧ s.sp.faultLatched = false then
        s.am.holds.filter fun h => !h.due second
      else s.am.holds := by
  unfold expireHolds
  simp only [Bool.not_eq_true]
  split
  · have due : s.holdsDue second = s.am.holds.filter (Hold.due second) := rfl
    rw [foldl_dropHold_holds, (logReserve_only _ s).am, due]
    refine List.filter_congr fun h mem => ?_
    have named : h.id ∈ (s.am.holds.filter (Hold.due second)).map Hold.id ↔ h.due second = true := by
      refine ⟨fun hid => ?_, fun hd => List.mem_map_of_mem (List.mem_filter.mpr ⟨mem, hd⟩)⟩
      obtain ⟨g, hg, same⟩ := List.mem_map.mp hid
      obtain ⟨there, isDue⟩ := List.mem_filter.mp hg
      rwa [List.inj_on_of_nodup_map distinct there mem same] at isDue
    simp [named]
  · rfl

/-- Of the archive TB's and CU's part of a boundary changes nothing (R7, R116). -/
theorem boundaryTallies_archive (s : State) :
    (boundaryTallies s).am = s.am ∧ (boundaryTallies s).sp = s.sp ∧ (boundaryTallies s).triggers = s.triggers := by
  unfold boundaryTallies
  split
  · have turned := turnTallies_only false (boundaryTick s)
    exact ⟨turned.am, turned.sp, turned.triggers⟩
  · exact ⟨rfl, rfl, rfl⟩

theorem abortExport_am (o : ExportOutcome) (s : State) : (abortExport o s).am = s.am := by
  have ends : (endExport o s).am = s.am := by
    unfold endExport
    split
    · rfl
    · exact (logTake_only _ _ (s.modEe _)).am
  unfold abortExport
  split
  · rfl
  · split
    · rfl
    · exact ends

theorem offlineChange_holds (s : State) : (offlineChange s).am.holds = s.am.holds := by
  unfold offlineChange
  split
  · rw [abortExport_am, (logTake_only _ _ _).am]
    rfl
  · rfl

theorem endFlush_holds (o : FlushOutcome) (s : State) : (endFlush o s).am.holds = s.am.holds := by
  unfold endFlush
  dsimp only
  split
  · rw [(logTake_only _ _ _).am]
    rfl
  · rfl

theorem flushStep_holds (s : State) : (flushStep s).am.holds = s.am.holds := by
  unfold flushStep
  split
  · split
    · exact endFlush_holds _ s
    · split
      · exact endFlush_holds _ s
      · split <;> rfl
  · rfl

/-- With no trigger set the end of an event makes no hold and removes none (R161, R164). -/
theorem settle_holds {s : State} (h : s.noTriggers = true) : (settle s).am.holds = s.am.holds := by
  have fans (t : State) (ht : t.triggers = s.triggers) : (fanOut t).am = t.am := by
    rw [fanOut_noTriggers (by rw [State.noTriggers, ht]; exact h)]
    rfl
  have before := (((fanOut_same s).trans (startVerdict_same _)).trans (offlineChange_same _)).trans (flushStep_same _)
  show (fanOut (flushStep (offlineChange (startVerdict (fanOut s))))).am.holds = _
  rw [fans _ before.triggers, flushStep_holds, offlineChange_holds, startVerdict_am, fans s rfl]

/-- The holds at the end of a boundary, with no trigger set (R161). -/
theorem hourBoundary_holds {s : State} (distinct : (s.am.holds.map Hold.id).Nodup) :
    (hourBoundary s).am.holds = match s.wallNow with
      | none => s.am.holds
      | some w =>
        if s.am.state = .online ∧ s.am.oflPending = false ∧ s.sp.faultLatched = false then
          s.am.holds.filter fun h => !h.due w.second
        else s.am.holds := by
  obtain ⟨am, sp, -⟩ := boundaryTallies_archive s
  rw [hourBoundary_eq]
  cases s.wallNow with
  | none => exact congrArg Archive.holds am
  | some w =>
    show (expireHolds w.second (boundaryTallies s)).am.holds = _
    rw [expireHolds_holds (by rw [am]; exact distinct), am, sp]

/-! ### The obligation -/

/-- What TU does for one entry with one slot set. -/
theorem fanOut_sole_acts {s : State} {e : Entry} {k : Nat} {g : Trigger} (hk : k < 8)
    (sole : s.triggers = soleTrigger k g) (handed : s.cl.handed = [e]) (matched : triggerMatches g e = true) :
    (g.action = .both → s.lc.reports.length < 32 → triggerReport k e ∈ (fanOut s).lc.reports) ∧
    (e.wall = none → (fanOut s).am = s.am) := by
  by_cases report : g.action = .report
  · exact ⟨fun both => absurd (report.symm.trans both) (by decide),
      fun _ => (fanOut_sole_report hk sole handed matched report).1⟩
  · obtain ⟨u, only, pushed, am, lc⟩ := fanOut_sole_hold hk sole handed matched report
    refine ⟨fun both room => ?_, fun untimed => ?_⟩
    · rw [lc]
      exact requestHold_report_mem (pushed both room)
    · rw [am, requestHold_untimed (by simp only [State.triggerRequest, untimed, Option.isNone_none]), only.am]

/-- AD_TIME as it opens is matched by the slot that names it, at the end of its event (R115, R164). -/
theorem adTimeOpen_created {s : State} {i k : Nat} {g : Trigger} {w : WallStamp} (hk : k < 8)
    (sole : s.triggers = soleTrigger k g) (settled : s.settled = true) (room : s.cl.exhausted = false)
    (enabled : (s.svc i).profile.enabled = true) (closed : s.isOpen (some i) .adTime none = false)
    (event : g.event = .condOpen .adTime) (service : g.service = none ∨ g.service = some i) (action : g.action ≠ .report)
    (wall : s.wallNow = some w) :
    let request : HoldRequest := ⟨i, w.second - g.pre, min (w.second + g.post) 4294967295, .trigger,
      some (s.cl.lastSeq + 1), (s.svc i).profile.keepDays, false⟩
    s.holdTests request = none →
      (settle (openCond i .adTime none none s)).am = s.am.withHold (s.holdFor request) := by
  intro request passed
  have only := openCond_only i .adTime none none s
  have handed := openCond_handed (cause := none) enabled closed room
  rw [handed_of_settled settled, List.nil_append] at handed
  have matched : triggerMatches g (s.entryFor (some i) (.condOpen .adTime none none)) = true :=
    (triggerMatches_iff _ _).mpr ⟨i, rfl, service, by rw [event]; exact (eventFits_condOpen _ _).mpr ⟨_, _, rfl⟩⟩
  have asked : (openCond i .adTime none none s).triggerRequest g (s.entryFor (some i) (.condOpen .adTime none none)) =
      request := by
    rw [triggerRequest_timed (svc := i) (w := w) rfl wall, State.svc, only.services]
    rfl
  have created := fanOut_sole_created hk (only.triggers.trans sole) handed matched action
    (by rw [asked, holdTests_ofLog only, passed])
  rw [asked, holdFor_ofLog only] at created
  rw [settle_of_fanOut (settled_fanOut settled only (by rw [created]; rfl) (by rw [created]; rfl))]
  exact created.trans (by rw [only.am])

/-- Settles O20: with one slot set TU's work is that slot's; AD_TIME's opening hands on the entry the slot names; and at
a boundary the holds that are due are dropped by their ids, which are distinct. -/
theorem triggersMatchAndHoldsExpire : Obligations.TriggersMatchAndHoldsExpire := by
  unfold Obligations.TriggersMatchAndHoldsExpire
  refine ⟨fun s e k g hk sole handed => ?_, fun s i k g w hk sole settled room enabled above closed event service action
    wall => ?_, fun s due noTriggers distinct => ?_⟩
  · intro fitting matching request
    have fits : eventFits g.event e.body = true ↔ fitting := by
      cases event : g.event with
      | condOpen c => simp only [fitting, event]; exact eventFits_condOpen c _
      | condClose c => simp only [fitting, event]; exact eventFits_condClose c _
      | verdictFail => simp only [fitting, event]; exact eventFits_verdictFail _
      | peakOver => simp only [fitting, event]; exact eventFits_peakOver _
    have matches_iff : triggerMatches g e = true ↔ matching := by rw [triggerMatches_iff, fits]
    refine ⟨fanOut_same s, rfl, fun h => fanOut_sole_unmatched hk sole handed (mt matches_iff.mp h),
      fun h report => fanOut_sole_report hk sole handed (matches_iff.mpr h) report,
      fun h both => (fanOut_sole_acts hk sole handed (matches_iff.mpr h)).1 both,
      fun h asks svc w service wall passed => ?_, fun h => (fanOut_sole_acts hk sole handed (matches_iff.mpr h)).2⟩
    have asked := triggerRequest_timed (s := s) (g := g) service wall
    have created := fanOut_sole_created hk sole handed (matches_iff.mpr h) asks (by rw [asked]; exact passed)
    rw [created, asked]
    rfl
  · intro request passed
    have created := adTimeOpen_created hk sole settled room enabled closed event service action wall passed
    exact ⟨_, exec_adTimeOpen (decide_eq_true above), by rw [created]; rfl,
      by rw [created]; exact mem_insertRising.mpr (.inl rfl)⟩
  · refine ⟨settle (hourBoundary s), by rw [exec_hourBoundary, if_pos due], ?_⟩
    have triggers : (hourBoundary s).triggers = s.triggers :=
      (hourBoundary_same s).triggers.trans (boundaryTallies_archive s).2.2
    rw [settle_holds (by rw [State.noTriggers, triggers]; exact noTriggers), hourBoundary_holds distinct]
    cases s.wallNow with
    | none => rfl
    | some w =>
      exact ite_congr rfl (fun _ => congrArg (s.am.holds.filter ·) (funext (Hold.not_due w.second))) fun _ => rfl

end Sys2Proof.Machine
end

section
/-! SUPPORT. What the ends of a mount's operations do to the part (R186, R187), before and at the end of their event. -/

namespace Sys2Proof.Machine

/-! ### The order of a mount's reads (R186) -/

theorem mountNext_nil (n : Nat) : mountNext n [] = .read 0 := rfl

/-- Step 8 is reached with every page of steps 1 to 4 read. -/
theorem reads_of_mountNext {n : Nat} {pages : DevicePages} {m : MountTables} (h : mountNext n pages = .write m)
    {a : Nat} (ha : a = 0 ∨ a ∈ mountReads n pages) : pageRead pages a = true := by
  unfold mountNext at h
  split at h
  · cases h
  · next page0 =>
    split at h
    · cases h
    · split at h
      · cases h
      · next all =>
        rcases ha with rfl | ha
        · simpa using page0
        · simpa using List.find?_eq_none.mp all a ha

theorem mem_mountReads {n : Nat} {pages : DevicePages} {a : Nat}
    (ha : a ≤ 1 + (n - 1) / 4096 ∨ a = 257 ∨ a = 258) : a = 0 ∨ a ∈ mountReads n pages := by
  rcases ha with ha | ha
  · refine a.eq_zero_or_pos.imp_right fun pos => ?_
    have table : a - 1 ∈ List.range ((n - 1) / 4096 + 1) := List.mem_range.mpr (by omega)
    exact List.mem_append_left _ (List.mem_append_left _ (List.mem_map.mpr ⟨a - 1, table, by omega⟩))
  · exact .inr (List.mem_append_right _ (by simpa using ha))

theorem pageRead_iff {pages : DevicePages} {a : Nat} : pageRead pages a = true ↔ ∃ p ∈ pages, p.1 = a := by
  simp [pageRead]

/-! ### What an answer does (R186) -/

section Answers

variable {s : State} {n a : Nat} {pages : DevicePages}

/-- The end of a read: the mount goes on with the page read. -/
theorem mountAnswered_read (capacity : s.am.capacity = some n) (reading : s.am.mount = .reading pages)
    (op : s.sp.operation = some (.mountRead a)) (page : List Byte) :
    mountAnswered s (.read page) = mountGoesOn n (pages ++ [(a, page)]) s := by
  simp only [mountAnswered, op, State.mountPages, reading, capacity, Option.getD_some]

/-- The success of the write ends the mount (R186, step 8). -/
theorem mountAnswered_written {image : DirectoryImage} (capacity : s.am.capacity = some n)
    (reading : s.am.mount = .reading pages) (op : s.sp.operation = some (.mountWrite image)) :
    mountAnswered s .written =
      if s.part.state = .run then remountDone n pages (endOperation s) else mountDone n pages (endOperation s) := by
  simp only [mountAnswered, op, State.mountPages, reading, capacity, Option.getD_some]

theorem mountGoesOn_read {b : Nat} (h : mountNext n pages = .read b) :
    mountGoesOn n pages s = startOperation (.mountRead b) (s.modAm fun a => { a with mount := .reading pages }) := by
  rw [mountGoesOn, h]

theorem mountGoesOn_unformatted (h : mountNext n pages = .unformatted) : mountGoesOn n pages s =
    mountEndsWithout .unformatted .unformatted
      (endOperation (s.modAm fun a => { a with mount := .reading pages })) := by
  rw [mountGoesOn, h]

/-- The archive at step 8: the on-chip header has the boot counter of step 7 and no clean flag (R186). -/
def Archive.atStep8 (pages : DevicePages) (boot : Nat) (a : Archive) : Archive :=
  { a with mount := .reading pages, bootCounter := boot, cleanFlag := false }

/-- The write of page 0 in step 8 (R186). -/
def MountTables.page0 (n boot : Nat) (m : MountTables) : Operation :=
  .mountWrite (.header boot false n m.header.lowWater m.header.nextPage)

/-- With the settings taken before, or in RUN, step 8 starts at once. -/
theorem mountGoesOn_write {m : MountTables} (h : mountNext n pages = .write m)
    (kept : s.part.state = .run ∨ s.am.profilesLoaded = true) : mountGoesOn n pages s =
      startOperation (m.page0 n (s.mountBoot m)) (s.modAm (Archive.atStep8 pages (s.mountBoot m))) := by
  rw [mountGoesOn, h]
  simp only [if_pos kept]
  rfl

/-- A mount at a reset loads the settings before step 8, unless they have been (R185). -/
theorem mountGoesOn_write_loads {m : MountTables} (h : mountNext n pages = .write m)
    (loads : ¬ (s.part.state = .run ∨ s.am.profilesLoaded = true)) : mountGoesOn n pages s =
      startOperation (m.page0 n (s.mountBoot m))
        ((loadSettings m (s.modAm fun a => { a with mount := .reading pages })).modAm fun a =>
          { a with bootCounter := s.mountBoot m, cleanFlag := false }) := by
  rw [mountGoesOn, h]
  simp only [if_neg loads]
  rfl

end Answers

/-! ### The settings at a reset's mount (R185, R186) -/

theorem foldl_modRc_profiles (f : Recorder → Recorder) (l : List Nat) (s : State) : ∃ vs,
    l.foldl (fun (u : State) i => u.modRc i f) s = { s with services := vs } ∧
      ∀ j, (vs.getD j .reset).profile = (s.svc j).profile := by
  induction l generalizing s with
  | nil => exact ⟨_, rfl, fun _ => rfl⟩
  | cons i l ih =>
    obtain ⟨vs, eq, kept⟩ := ih (s.modRc i f)
    exact ⟨vs, eq, fun j => (kept j).trans (State.modSvc_svc_keeps Service.profile s i j fun _ => rfl)⟩

/-- The settings of the directory are loaded: the services take its profiles, TU its triggers. -/
theorem loadSettings_eq (m : MountTables) (s : State) : ∃ vs,
    loadSettings m s = { s with
      services := vs, triggers := m.triggers, am := { s.am with profilesLoaded := true } } ∧
      ∀ i p, i < s.services.length → m.profiles[i]? = some p → (vs.getD i .reset).profile = p := by
  obtain ⟨vs, eq, kept⟩ := foldl_modRc_profiles (fun r => { r with intakeMark := some .mount })
    _ { s with
      services := List.zipWith (fun (v : Service) p => { v with profile := p }) s.services m.profiles
      triggers := m.triggers }
  refine ⟨vs, by rw [loadSettings]; exact congrArg (State.modAm · fun a => { a with profilesLoaded := true }) eq,
    fun i p there profile => (kept i).trans ?_⟩
  simp [State.svc, List.getD_eq_getElem?_getD, List.getElem?_zipWith, profile, there]

theorem defaultSettings_profile (s : State) (i : Nat) : ((defaultSettings s).svc i).profile = .default := by
  simp only [defaultSettings, State.svc, List.getD_eq_getElem?_getD, List.getElem?_map]
  cases s.services[i]? <;> rfl

theorem takeBoot_profile (boot : Nat) (s : State) (i : Nat) :
    ((takeBoot boot s).svc i).profile = (s.svc i).profile := by
  simp only [takeBoot, State.svc, State.modCl, List.getD_eq_getElem?_getD, List.getElem?_map]
  cases s.services[i]? <;> rfl

/-! ### Entry to RUN (R187) -/

/-- An operation that changes the services, and else the log and the condition table alone. -/
def OnlyServices (s t : State) : Prop := ∃ vs, OnlyLog { s with services := vs } t

namespace OnlyServices

variable {s t u : State}

theorem ofLog (h : OnlyLog s t) : OnlyServices s t := ⟨s.services, h⟩

theorem refl (s : State) : OnlyServices s s := ofLog (.refl s)

theorem trans (h : OnlyServices s t) (k : OnlyServices t u) : OnlyServices s u := by
  obtain ⟨vs, h⟩ := h
  obtain ⟨ws, k⟩ := k
  exact ⟨ws, (show OnlyLog { s with services := ws } { t with services := ws } from { h with services := rfl }).trans k⟩

theorem modSvc (s : State) (i : Nat) (f : Service → Service) : OnlyServices s (s.modSvc i f) := ⟨_, .refl _⟩

theorem ite {c : Prop} [Decidable c] (h : OnlyServices s t) (k : OnlyServices s u) :
    OnlyServices s (if c then t else u) := by
  split
  · exact h
  · exact k

theorem foldl {α : Type} {f : State → α → State} (h : ∀ s a, OnlyServices s (f s a)) (l : List α) (s : State) :
    OnlyServices s (l.foldl f s) := by
  induction l generalizing s with
  | nil => exact refl s
  | cons a l ih => exact (h s a).trans (ih _)

theorem enableService (i : Nat) (s : State) : OnlyServices s (enableService i s) :=
  (modSvc s i _).trans (.ofLog (logTake_only _ _ _))

theorem startUpGap (s : State) (i : Nat) : OnlyServices s (startUpGap s i) :=
  (ofLog (openCond_only _ _ _ _ s)).trans (.modSvc _ i _)

end OnlyServices

/-- The part with RESET taken, and REF_LOST open where the reference is gone: entry to RUN before any service runs
(R187, steps 1 and 2). -/
def runEntered (shutdown : Shutdown) (outcome : MountOutcome) (s : State) : State :=
  let s1 := logTake none (.reset s.part.cause shutdown outcome (elapsed s.now s.am.mountStart))
    (s.modPart fun p => { p with state := .run })
  if s1.tb.refState = .holdover then logTake none (.refLost s1.tb.lastEdge) (openDevice .refLost s1) else s1

theorem runEntered_only (shutdown : Shutdown) (outcome : MountOutcome) (s : State) :
    OnlyLog (s.modPart fun p => { p with state := .run }) (runEntered shutdown outcome s) := by
  have entered := logTake_only none (.reset s.part.cause shutdown outcome (elapsed s.now s.am.mountStart))
    (s.modPart fun p => { p with state := .run })
  unfold runEntered
  dsimp only
  split
  · exact (entered.trans (openDevice_only _ _)).trans (logTake_only _ _ _)
  · exact entered

/-- With the reference present RESET is the one entry. -/
theorem runEntered_locked {s : State} (locked : s.tb.refState = .locked) (shutdown : Shutdown)
    (outcome : MountOutcome) : runEntered shutdown outcome s =
      logTake none (.reset s.part.cause shutdown outcome (elapsed s.now s.am.mountStart))
        (s.modPart fun p => { p with state := .run }) := by
  refine if_neg fun gone => ?_
  rw [(logTake_only _ _ _).tb, show (s.modPart _).tb = s.tb from rfl, locked] at gone
  cases gone

/-- The enabled services start (R187, step 3). -/
def servicesStarted (s : State) : State := s.enabledServices.foldl (fun t i => enableService i t) s

/-- The gaps of the recording ones open (R187, step 4). -/
def gapsOpened (s : State) : State :=
  (s.enabledServices.filter fun i => (s.svc i).profile.recording).foldl startUpGap s

theorem servicesStarted_only (s : State) : OnlyServices s (servicesStarted s) :=
  .foldl (fun t i => .enableService i t) _ s

theorem gapsOpened_only (s : State) : OnlyServices s (gapsOpened s) := .foldl OnlyServices.startUpGap _ s

theorem enterRun_eq (shutdown : Shutdown) (outcome : MountOutcome) (s : State) :
    let t := gapsOpened (servicesStarted (runEntered shutdown outcome s))
    enterRun shutdown outcome s = if t.part.lowSupply then assertSupply t else t := rfl

/-- Without LOW_SUPPLY entry to RUN changes the services, the log and the conditions (R187). -/
theorem enterRun_only {s : State} (supplied : s.part.lowSupply = false) (shutdown : Shutdown) (outcome : MountOutcome) :
    OnlyServices (s.modPart fun p => { p with state := .run }) (enterRun shutdown outcome s) := by
  have only := ((OnlyServices.ofLog (runEntered_only shutdown outcome s)).trans (servicesStarted_only _)).trans
    (gapsOpened_only _)
  obtain ⟨vs, log⟩ := only
  rw [enterRun_eq, if_neg (by rw [log.part]; exact Bool.eq_false_iff.mp supplied)]
  exact ⟨vs, log⟩

/-- With no service enabled entry to RUN is over with its first entries (R187). -/
theorem enterRun_disabled {s : State} (supplied : s.part.lowSupply = false)
    (disabled : ∀ i, (s.svc i).profile.enabled = false) (shutdown : Shutdown) (outcome : MountOutcome) :
    enterRun shutdown outcome s = runEntered shutdown outcome s := by
  have only := runEntered_only shutdown outcome s
  have noService : (runEntered shutdown outcome s).enabledServices = [] := by
    refine List.filter_eq_nil_iff.mpr fun i _ => ?_
    rw [State.svc, only.services]
    exact Bool.eq_false_iff.mp (disabled i)
  have nothing : gapsOpened (servicesStarted (runEntered shutdown outcome s)) = runEntered shutdown outcome s := by
    rw [servicesStarted, noService, List.foldl_nil, gapsOpened, noService, List.filter_nil, List.foldl_nil]
  rw [enterRun_eq, nothing, if_neg (by rw [only.part]; exact Bool.eq_false_iff.mp supplied)]

/-- Entries of no service join those that wait for TU, unless the log is exhausted (R120, R121). -/
theorem logTake_handed_device {s : State} (h : ∀ e ∈ s.cl.handed, e.service = none) (b : Body) :
    ∀ e ∈ (logTake none b s).cl.handed, e.service = none := by
  cases exhausted : s.cl.exhausted with
  | true => rwa [logTake_exhausted _ _ _ exhausted]
  | false =>
    rw [logTake_cl _ _ _ exhausted]
    intro e he
    rcases List.mem_append.mp he with he | he
    · exact h e he
    · rw [List.mem_singleton.mp he]
      rfl

theorem runEntered_handed {s : State} (h : ∀ e ∈ s.cl.handed, e.service = none) (shutdown : Shutdown)
    (outcome : MountOutcome) : ∀ e ∈ (runEntered shutdown outcome s).cl.handed, e.service = none := by
  have entered := logTake_handed_device (s := s.modPart fun p => { p with state := .run }) h
    (.reset s.part.cause shutdown outcome (elapsed s.now s.am.mountStart))
  unfold runEntered
  dsimp only
  split
  · exact logTake_handed_device (s := openDevice .refLost _) entered _
  · exact entered

end Sys2Proof.Machine
end


section
/-! SUPPORT. How a mount ends, at a reset and after ONL, with its obligation (R129, R152, R185 to R187). -/

namespace Sys2Proof.Machine

/-! ### The archive at the end of an event (R151, R164, R190) -/

/-- Of the archive the holds, the next id and the dirty marks alone differ. -/
def OnlyHolds (s t : State) : Prop := ∃ holds next dirty,
  t.am = { s.am with holds := holds, nextHold := next, dirty := dirty }

namespace OnlyHolds

variable {s t u : State}

theorem ofAm (h : t.am = s.am) : OnlyHolds s t := ⟨_, _, _, h⟩

theorem refl (s : State) : OnlyHolds s s := ofAm rfl

theorem trans (h : OnlyHolds s t) (k : OnlyHolds t u) : OnlyHolds s u := by
  obtain ⟨_, _, _, h⟩ := h
  obtain ⟨holds, next, dirty, k⟩ := k
  exact ⟨holds, next, dirty, by rw [k, h]⟩

theorem ite {c : Prop} [Decidable c] (h : OnlyHolds s t) (k : OnlyHolds s u) : OnlyHolds s (if c then t else u) := by
  split
  · exact h
  · exact k

theorem foldl {α : Type} {f : State → α → State} (h : ∀ s a, OnlyHolds s (f s a)) (l : List α) (s : State) :
    OnlyHolds s (l.foldl f s) := by
  induction l generalizing s with
  | nil => exact refl s
  | cons a l ih => exact (h s a).trans (ih _)

theorem requestHold (r : HoldRequest) (s : State) : OnlyHolds s (requestHold r s).1 := by
  cases tests : s.holdTests r with
  | some x => exact .ofAm (requestHold_refused tests)
  | none => exact ⟨_, _, _, requestHold_created tests⟩

theorem actOnSlot (e : Entry) (s : State) (k : Nat) : OnlyHolds s (actOnSlot e s k) := by
  unfold Machine.actOnSlot
  split
  · exact .refl s
  · have reported (c : Prop) [Decidable c] (r : Text) : OnlyHolds s (if c then s else pushReport r s) :=
      .ite (.refl s) (.ofAm (pushReport_only r s).am)
    exact .ite (.ite (reported _ _) ((reported _ _).trans (requestHold _ _))) (.refl s)

theorem fanOut (s : State) : OnlyHolds s (fanOut s) :=
  foldl (fun t e => (ofAm (logReserve_only _ t).am).trans (.foldl (actOnSlot e) _ _)) _ s

/-- With no OFL pending and the flush IDLE the end of an event changes of the archive what TU's holds do. -/
theorem settle (noOffline : s.am.oflPending = false) (idle : s.am.flush = .idle) : OnlyHolds s (settle s) := by
  have started : OnlyHolds s (startVerdict (Machine.fanOut s)) := (fanOut s).trans (.ofAm (startVerdict_am _))
  obtain ⟨holds, next, dirty, am⟩ := id started
  have stays : offlineChange (startVerdict (Machine.fanOut s)) = startVerdict (Machine.fanOut s) :=
    if_neg fun due => by rw [am] at due; exact Bool.false_ne_true (noOffline.symm.trans due.1)
  have rests : flushStep (startVerdict (Machine.fanOut s)) = startVerdict (Machine.fanOut s) :=
    if_neg fun flushing => by rw [am] at flushing; exact absurd (idle.symm.trans flushing) (by decide)
  rw [Machine.settle, stays, rests]
  exact started.trans (.fanOut _)

end OnlyHolds

/-! ### The end without an archive, at a reset (R186) -/

/-- Before entry to RUN: no archive, the default settings, boot number 0. -/
def State.withoutArchive (state : ArchiveState) (s : State) : State :=
  takeBoot 0 (defaultSettings (s.modAm fun a => a.unmounted state))

theorem mountWithout_eq {s : State} (supplied : s.part.lowSupply = false) (state : ArchiveState)
    (outcome : MountOutcome) : mountWithout state outcome s = runEntered .unknown outcome (s.withoutArchive state) :=
  enterRun_disabled (s := s.withoutArchive state) supplied (fun i => by
    rw [State.withoutArchive, takeBoot_profile, defaultSettings_profile]
    rfl) .unknown outcome

/-- What a mount at a reset that ends without an archive leaves at the end of its event. -/
structure RunWithout (state : ArchiveState) (s t : State) : Prop where
  part : t.part = { s.part with state := .run }
  am : t.am = s.am.unmounted state
  sp : t.sp = s.sp
  boot : t.cl.boot = 0
  profile : ∀ i, (t.svc i).profile = .default
  triggers : t.triggers = List.replicate 8 none
  tb : t.tb = s.tb

theorem settle_mountWithout {s : State} (supplied : s.part.lowSupply = false) (noOffline : s.am.oflPending = false)
    (idle : s.am.flush = .idle) (handed : s.cl.handed = []) (state : ArchiveState) (outcome : MountOutcome) :
    RunWithout state s (settle (mountWithout state outcome s)) ∧
      (settle (mountWithout state outcome s)).cl.ring = (mountWithout state outcome s).cl.ring := by
  rw [mountWithout_eq supplied]
  have entered := runEntered_only .unknown outcome (s.withoutArchive state)
  have noService : ∀ e ∈ (s.withoutArchive state).cl.handed, e.service = none := fun e he =>
    absurd (show e ∈ s.cl.handed from he) (handed ▸ List.not_mem_nil)
  obtain ⟨am, ring⟩ := settle_archive (runEntered_handed noService .unknown outcome)
    ((congrArg Archive.oflPending entered.am).trans noOffline) ((congrArg Archive.flush entered.am).trans idle)
  have ended := settle_same (runEntered .unknown outcome (s.withoutArchive state))
  refine ⟨{
    part := ended.part.trans entered.part
    am := am.trans entered.am
    sp := ended.sp.trans entered.sp
    boot := ended.boot.trans entered.boot
    profile := fun i => ?_
    triggers := ended.triggers.trans entered.triggers
    tb := ended.tb.trans entered.tb }, ring⟩
  rw [State.svc, ended.services, entered.services]
  exact (takeBoot_profile 0 (defaultSettings (s.modAm fun a => a.unmounted state)) i).trans
    (defaultSettings_profile (s.modAm fun a => a.unmounted state) i)

/-- With the reference present RESET is the entry of a mount that ends without an archive (R187). -/
theorem mountWithout_ring {s : State} (supplied : s.part.lowSupply = false) (locked : s.tb.refState = .locked)
    (room : s.cl.exhausted = false) (state : ArchiveState) (outcome : MountOutcome) :
    (mountWithout state outcome s).cl.ring =
      ringJoin s.cl.ring ⟨0, s.cl.lastSeq + 1, s.tb.stationTime, s.wallNow, none,
        .reset s.part.cause .unknown outcome (elapsed s.tb.stationTime s.am.mountStart)⟩ := by
  rw [mountWithout_eq supplied, runEntered_locked (s := s.withoutArchive state) locked]
  exact congrArg LogState.ring (logTake_cl none _ ((s.withoutArchive state).modPart _) room)

/-! ### The end with an archive, at a reset (R186, R187) -/

/-- With the directory's settings, unless they have been taken before (R185). -/
def State.withSettings (m : MountTables) (s : State) : State := if s.am.profilesLoaded then s else loadSettings m s

theorem State.withSettings_eq (m : MountTables) (s : State) : ∃ vs ts loaded, s.withSettings m =
    { s with services := vs, triggers := ts, am := { s.am with profilesLoaded := loaded } } := by
  unfold State.withSettings
  split
  · exact ⟨s.services, s.triggers, s.am.profilesLoaded, rfl⟩
  · obtain ⟨vs, eq, -⟩ := loadSettings_eq m s
    exact ⟨vs, _, _, eq⟩

/-- Before entry to RUN: the archive as the directory gives it, with the boot number of the boot. -/
def State.withArchive (n : Nat) (m : MountTables) (s : State) : State :=
  takeBoot (nextBoot m.header.bootCounter)
    ((writeSucceeded (s.modAm fun a => a.mounted n (nextBoot m.header.bootCounter) m)).modCl fun c =>
      { c with nextPage := m.header.nextPage })

theorem mountDone_eq {s : State} {n : Nat} {pages : DevicePages} {m : MountTables}
    (tables : mountTables n pages = some m) : mountDone n pages s =
      enterRun (if m.header.clean then .clean else .unclean) .online ((s.withSettings m).withArchive n m) := by
  rw [mountDone, tables]
  rfl

/-- What a mount that ends ONLINE leaves at the end of its event; `boot` is the boot counter. -/
structure MountedWith (m : MountTables) (boot : Nat) (s t : State) : Prop where
  state : t.am.state = .online
  mount : t.am.mount = .idle
  extents : t.am.extents = m.extents
  nextCompletion : t.am.nextCompletion = m.nextCompletion
  lowWater : t.am.lowWater = m.header.lowWater
  bootCounter : t.am.bootCounter = boot
  nextPage : t.cl.nextPage = m.header.nextPage
  cleanFlag : t.am.cleanFlag = false
  tb : t.tb = s.tb
  sp : t.sp = { s.sp with failures := 0 }

/-- What entry to RUN leaves at the end of its event, with no LOW_SUPPLY, no OFL pending and the flush IDLE. -/
theorem settle_enterRun {s : State} (supplied : s.part.lowSupply = false) (noOffline : s.am.oflPending = false)
    (idle : s.am.flush = .idle) (shutdown : Shutdown) (outcome : MountOutcome) :
    let t := settle (enterRun shutdown outcome s)
    OnlyHolds s t ∧ t.part = { s.part with state := .run } ∧ t.cl.boot = s.cl.boot ∧ t.cl.nextPage = s.cl.nextPage ∧
      t.tb = s.tb ∧ t.sp = s.sp := by
  obtain ⟨_, log⟩ := enterRun_only supplied shutdown outcome
  have ended := settle_same (enterRun shutdown outcome s)
  have entered : OnlyHolds s (enterRun shutdown outcome s) := .ofAm log.am
  exact ⟨entered.trans (.settle ((congrArg Archive.oflPending log.am).trans noOffline)
      ((congrArg Archive.flush log.am).trans idle)), ended.part.trans log.part, ended.boot.trans log.boot,
    ended.nextPage.trans log.nextPage, ended.tb.trans log.tb, ended.sp.trans log.sp⟩

theorem settle_mountDone {s : State} (supplied : s.part.lowSupply = false) (noOffline : s.am.oflPending = false)
    (idle : s.am.flush = .idle) {n : Nat} {pages : DevicePages} {m : MountTables}
    (tables : mountTables n pages = some m) :
    MountedWith m (nextBoot m.header.bootCounter) s (settle (mountDone n pages s)) ∧
      (settle (mountDone n pages s)).part.state = .run ∧
      (settle (mountDone n pages s)).cl.boot = nextBoot m.header.bootCounter := by
  obtain ⟨vs, ts, loaded, settings⟩ := s.withSettings_eq m
  have ends := settle_enterRun (s := (s.withSettings m).withArchive n m) (by rw [settings]; exact supplied)
    (by rw [settings]; exact noOffline) (by rw [settings]; exact idle)
    (if m.header.clean then .clean else .unclean) .online
  rw [← mountDone_eq tables, settings] at ends
  generalize settle (mountDone n pages s) = t at ends ⊢
  obtain ⟨⟨holds, next, dirty, am⟩, part, boot, nextPage, tb, sp⟩ := ends
  exact ⟨{
      state := by rw [am]; rfl
      mount := by rw [am]; rfl
      extents := by rw [am]; rfl
      nextCompletion := by rw [am]; rfl
      lowWater := by rw [am]; rfl
      bootCounter := by rw [am]; rfl
      nextPage := nextPage
      cleanFlag := by rw [am]; rfl
      tb := tb
      sp := sp }, by rw [part], boot⟩

/-! ### The end of a mount started by ONL (R152, R186) -/

/-- MOUNT_DONE is the one entry of a mount that ends without an archive (R152). -/
theorem reportMount_offline {s : State} (state : s.am.state ≠ .online) (outcome : MountOutcome) :
    reportMount outcome s = logTake none (.mountDone outcome (elapsed s.now s.am.mountStart)) s :=
  if_neg state

theorem reportMount_online {s : State} (state : s.am.state = .online) (outcome : MountOutcome) :
    reportMount outcome s =
      logTake none .storageOnline (logTake none (.mountDone outcome (elapsed s.now s.am.mountStart)) s) :=
  if_pos state

/-- The entries of one mount's end, of which two suffice, are no group too many (R121). -/
theorem grouped_reportMount {s : State} (room : s.cl.lastSeq + 2 ≤ 4294967295) (outcome : MountOutcome) :
    grouped (reportMount outcome) s = reportMount outcome s := by
  have first (t : State) (b : Body) (h : t.cl.exhausted = false) :
      (logTake none b t).cl.lastSeq = t.cl.lastSeq + 1 := by
    rw [logTake_cl _ _ _ h]
    rfl
  have made : entriesOf (reportMount outcome) s ≤ 2 := by
    show (reportMount outcome s.inGroup).cl.lastSeq ≤ 2
    have more (b : Body) : (logTake none b s.inGroup).cl.exhausted = false := by
      rw [logTake_cl _ _ _ rfl]
      rfl
    by_cases state : s.am.state = .online
    · rw [reportMount_online (s := s.inGroup) state, first _ _ (more _), first _ _ rfl]
      exact Nat.le_refl 2
    · rw [reportMount_offline (s := s.inGroup) state, first _ _ rfl]
      exact Nat.le_succ 1
  refine grouped_fits _ _ (made.trans ?_)
  show 2 ≤ 4294967295 - s.cl.lastSeq
  omega

/-- After an entry that is taken the next one has the sequence that follows (R120). -/
theorem entryFor_logTake {s : State} (exhausted : s.cl.exhausted = false) (svc other : Option Nat) (b c : Body) :
    (logTake svc b s).entryFor other c = { s.entryFor other c with seq := s.cl.lastSeq + 2 } := by
  have only := logTake_only svc b s
  simp only [State.entryFor, State.now, State.wallNow, only.tb, logTake_cl svc b s exhausted, LogState.take]

/-- The entry of a mount's end (R152). -/
def State.mountDoneEntry (s : State) (outcome : MountOutcome) : Entry :=
  s.entryFor none (.mountDone outcome (elapsed s.now s.am.mountStart))

/-- A mount started by ONL that ends without an archive (R186). -/
theorem settle_remountWithout {s : State} (noOffline : s.am.oflPending = false) (idle : s.am.flush = .idle)
    (handed : s.cl.handed = []) (exhausted : s.cl.exhausted = false) (room : s.cl.lastSeq + 2 ≤ 4294967295)
    {state : ArchiveState} (notOnline : state ≠ .online) (outcome : MountOutcome) :
    let t := settle (remountWithout state outcome s)
    SameCore (s.modAm fun a => a.unmounted state) t ∧ t.am = s.am.unmounted state ∧
      t.cl.ring = ringJoin s.cl.ring (s.mountDoneEntry outcome) := by
  have reported : remountWithout state outcome s = reportMount outcome (s.modAm fun a => a.unmounted state) :=
    grouped_reportMount (s := s.modAm fun a => a.unmounted state) room outcome
  have entry := reportMount_offline (s := s.modAm fun a => a.unmounted state) notOnline outcome
  have only := logTake_only none (.mountDone outcome (elapsed s.now s.am.mountStart))
    (s.modAm fun a => a.unmounted state)
  have noService : ∀ e ∈ (s.modAm fun a => a.unmounted state).cl.handed, e.service = none := fun e he =>
    absurd (show e ∈ s.cl.handed from he) (handed ▸ List.not_mem_nil)
  obtain ⟨am, ring⟩ := settle_archive (logTake_handed_device noService
      (.mountDone outcome (elapsed s.now s.am.mountStart)))
    ((congrArg Archive.oflPending only.am).trans noOffline) ((congrArg Archive.flush only.am).trans idle)
  rw [reported]
  refine ⟨(reportMount_same outcome _).trans (settle_same _), ?_, ?_⟩
  · rw [entry]
    exact am.trans only.am
  · rw [entry]
    exact ring.trans (congrArg LogState.ring (logTake_cl none _ (s.modAm fun a => a.unmounted state) exhausted))

/-- Before its report: the archive as the directory gives it, the boot counter as its header has it. -/
def State.remounted (n : Nat) (m : MountTables) (s : State) : State :=
  (writeSucceeded (s.modAm fun a => a.mounted n m.header.bootCounter m)).modCl fun c =>
    { c with nextPage := m.header.nextPage }

/-- A mount started by ONL that ends ONLINE (R186). -/
theorem settle_remountDone {s : State} (noOffline : s.am.oflPending = false) (idle : s.am.flush = .idle)
    (handed : s.cl.handed = []) (exhausted : s.cl.exhausted = false) (room : s.cl.lastSeq + 2 ≤ 4294967295)
    {n : Nat} {pages : DevicePages} {m : MountTables} (tables : mountTables n pages = some m) :
    let t := settle (remountDone n pages s)
    SameCore (s.remounted n m) t ∧ t.am = (s.remounted n m).am ∧
      t.cl.ring = ringJoin (ringJoin s.cl.ring (s.mountDoneEntry .online))
        { s.entryFor none .storageOnline with seq := s.cl.lastSeq + 2 } := by
  have reported : remountDone n pages s = reportMount .online (s.remounted n m) := by
    rw [remountDone, tables]
    exact grouped_reportMount (s := s.remounted n m) room .online
  have entries := reportMount_online (s := s.remounted n m) rfl .online
  have first := logTake_cl none (.mountDone .online (elapsed s.now s.am.mountStart)) (s.remounted n m) exhausted
  have only := logTake_only none (.mountDone .online (elapsed s.now s.am.mountStart)) (s.remounted n m)
  have more :
      (logTake none (.mountDone .online (elapsed s.now s.am.mountStart)) (s.remounted n m)).cl.exhausted = false := by
    rw [first]
    exact decide_eq_false (show s.cl.lastSeq + 1 ≠ 4294967295 by omega)
  have both := only.trans (logTake_only none .storageOnline _)
  have noService : ∀ e ∈ (s.remounted n m).cl.handed, e.service = none := fun e he =>
    absurd (show e ∈ s.cl.handed from he) (handed ▸ List.not_mem_nil)
  obtain ⟨am, ring⟩ := settle_archive (logTake_handed_device (logTake_handed_device noService
      (.mountDone .online (elapsed s.now s.am.mountStart))) .storageOnline)
    ((congrArg Archive.oflPending both.am).trans noOffline) ((congrArg Archive.flush both.am).trans idle)
  rw [reported]
  refine ⟨(reportMount_same .online _).trans (settle_same _), ?_, ?_⟩
  · rw [entries]
    exact am.trans both.am
  · rw [entries]
    refine ring.trans ?_
    rw [logTake_cl none .storageOnline _ more, entryFor_logTake (s := s.remounted n m) exhausted]
    show ringJoin (logTake none _ (s.remounted n m)).cl.ring _ = _
    rw [first]
    rfl

/-! ### The operations of a mount go on (R186) -/

/-- A page operation that follows on another, at the end of its event. -/
theorem settle_startOperation {s : State} (noOffline : s.am.oflPending = false) (idle : s.am.flush = .idle)
    (handed : s.cl.handed = []) (op : Operation) :
    let t := settle (startOperation op s)
    SameCore (startOperation op s) t ∧ t.am = s.am ∧ t.cl.ring = s.cl.ring := by
  obtain ⟨am, ring⟩ := settle_archive (s := startOperation op s)
    (fun e he => absurd (show e ∈ s.cl.handed from he) (handed ▸ List.not_mem_nil)) noOffline idle
  exact ⟨settle_same _, am, ring⟩

/-- A part at rest, with no OFL pending, still is when a read of a mount follows on another. -/
theorem still_startOperation {s : State} (still : s.still = true) (noOffline : s.am.oflPending = false)
    (op : Operation) (mount : MountPhase) :
    (startOperation op (s.modAm fun a => { a with mount := mount })).still = true := by
  simp only [State.still, State.settled, Bool.and_eq_true] at still ⊢
  obtain ⟨⟨⟨⟨handed, verdict⟩, -⟩, idle⟩, line⟩ := still
  refine ⟨⟨⟨⟨handed, verdict⟩, ?_⟩, idle⟩, line⟩
  show (!(s.am.oflPending && _)) = true
  rw [noOffline]
  rfl

section MountEnd

variable {s : State} {n a : Nat} {pages : DevicePages} {m : MountTables}

/-- One answer ends one operation (R186). -/
theorem exec_mountEnd_one {op : Operation} (inFlight : s.sp.operation = some op)
    (mount : (∃ a, op = .mountRead a) ∨ ∃ image, op = .mountWrite image) (answer : PageAnswer) :
    exec (.mountEnd [answer]) s = .next (settle (mountAnswered s answer)) := exec_mountEnd inFlight mount [answer]

theorem mountBoot_atReset (state : s.part.state = .mount) (m : MountTables) :
    s.mountBoot m = nextBoot m.header.bootCounter := if_neg fun run => by rw [state] at run; cases run

theorem mountBoot_inRun (state : s.part.state = .run) (m : MountTables) : s.mountBoot m = m.header.bootCounter :=
  if_pos state

theorem mountEndsWithout_atReset (start : s.part.state = .mount) (state : ArchiveState) (outcome : MountOutcome) :
    mountEndsWithout state outcome s = mountWithout state outcome s := if_neg fun run => by rw [start] at run; cases run

theorem mountEndsWithout_inRun (run : s.part.state = .run) (state : ArchiveState) (outcome : MountOutcome) :
    mountEndsWithout state outcome s = remountWithout state outcome s := if_pos run

/-- The end of a read, of the write, and a failure, by the state of the part (R186). -/
theorem exec_mountEnd_read (capacity : s.am.capacity = some n) (reading : s.am.mount = .reading pages)
    (op : s.sp.operation = some (.mountRead a)) (page : List Byte) :
    exec (.mountEnd [.read page]) s = .next (settle (mountGoesOn n (pages ++ [(a, page)]) s)) := by
  rw [exec_mountEnd_one op (.inl ⟨a, rfl⟩), mountAnswered_read capacity reading op]

theorem exec_mountEnd_failed_atReset {op : Operation} (start : s.part.state = .mount)
    (inFlight : s.sp.operation = some op) (mount : (∃ a, op = .mountRead a) ∨ ∃ image, op = .mountWrite image) :
    exec (.mountEnd [.failed]) s = .next (settle (mountWithout .unavailable .unavailable (endOperation s))) := by
  rw [exec_mountEnd_one inFlight mount, mountAnswered_failed inFlight mount,
    mountEndsWithout_atReset (s := endOperation s) start]

theorem exec_mountEnd_failed_inRun {op : Operation} (run : s.part.state = .run) (inFlight : s.sp.operation = some op)
    (mount : (∃ a, op = .mountRead a) ∨ ∃ image, op = .mountWrite image) :
    exec (.mountEnd [.failed]) s = .next (settle (remountWithout .unavailable .unavailable (endOperation s))) := by
  rw [exec_mountEnd_one inFlight mount, mountAnswered_failed inFlight mount,
    mountEndsWithout_inRun (s := endOperation s) run]

theorem exec_mountEnd_written_atReset {image : DirectoryImage} (start : s.part.state = .mount)
    (capacity : s.am.capacity = some n) (reading : s.am.mount = .reading pages)
    (op : s.sp.operation = some (.mountWrite image)) :
    exec (.mountEnd [.written]) s = .next (settle (mountDone n pages (endOperation s))) := by
  rw [exec_mountEnd_one op (.inr ⟨image, rfl⟩), mountAnswered_written capacity reading op,
    if_neg (by rw [start]; decide)]

theorem exec_mountEnd_written_inRun {image : DirectoryImage} (run : s.part.state = .run)
    (capacity : s.am.capacity = some n) (reading : s.am.mount = .reading pages)
    (op : s.sp.operation = some (.mountWrite image)) :
    exec (.mountEnd [.written]) s = .next (settle (remountDone n pages (endOperation s))) := by
  rw [exec_mountEnd_one op (.inr ⟨image, rfl⟩), mountAnswered_written capacity reading op, if_pos run]

/-- The last page read, and the port free: the mount ends UNFORMATTED here (R186). -/
def State.lastRead (pages : DevicePages) (s : State) : State :=
  endOperation (s.modAm fun a => { a with mount := .reading pages })

theorem mountGoesOn_unformatted_atReset (start : s.part.state = .mount) (h : mountNext n pages = .unformatted) :
    mountGoesOn n pages s = mountWithout .unformatted .unformatted (s.lastRead pages) := by
  rw [mountGoesOn_unformatted h, mountEndsWithout_atReset (s := endOperation (s.modAm _)) start]
  rfl

theorem mountGoesOn_unformatted_inRun (run : s.part.state = .run) (h : mountNext n pages = .unformatted) :
    mountGoesOn n pages s = remountWithout .unformatted .unformatted (s.lastRead pages) := by
  rw [mountGoesOn_unformatted h, mountEndsWithout_inRun (s := endOperation (s.modAm _)) run]
  rfl

theorem mountGoesOn_write_inRun (run : s.part.state = .run) (h : mountNext n pages = .write m) : mountGoesOn n pages s =
    startOperation (m.page0 n m.header.bootCounter) (s.modAm (Archive.atStep8 pages m.header.bootCounter)) := by
  rw [mountGoesOn_write h (.inl run), mountBoot_inRun run]

/-- The last read of a mount at a reset: the settings are loaded unless they have been, and page 0 is written (R185). -/
theorem mountGoesOn_write_atReset (start : s.part.state = .mount) (h : mountNext n pages = .write m) : ∃ vs ts,
    mountGoesOn n pages s = startOperation (m.page0 n (nextBoot m.header.bootCounter)) { s with
      services := vs, triggers := ts,
      am := { s.am.atStep8 pages (nextBoot m.header.bootCounter) with profilesLoaded := true } } ∧
    ts = (if s.am.profilesLoaded then s.triggers else m.triggers) ∧
    ∀ i p, i < s.services.length → m.profiles[i]? = some p →
      (vs.getD i .reset).profile = if s.am.profilesLoaded then (s.svc i).profile else p := by
  have notRun : s.part.state ≠ .run := by rw [start]; decide
  cases loaded : s.am.profilesLoaded with
  | true =>
    refine ⟨s.services, s.triggers, ?_, rfl, fun _ _ _ _ => rfl⟩
    rw [mountGoesOn_write h (.inr loaded), mountBoot_atReset start, ← loaded]
    rfl
  | false =>
    obtain ⟨vs, eq, taken⟩ := loadSettings_eq m (s.modAm fun a => { a with mount := .reading pages })
    refine ⟨vs, m.triggers, ?_, rfl, taken⟩
    rw [mountGoesOn_write_loads h (not_or.mpr ⟨notRun, by rw [loaded]; decide⟩), mountBoot_atReset start, eq]
    rfl

theorem settle_mountGoesOn_write (start : s.part.state = .mount) (noOffline : s.am.oflPending = false)
    (idle : s.am.flush = .idle) (handed : s.cl.handed = []) (h : mountNext n pages = .write m) :
    let boot := nextBoot m.header.bootCounter
    let t := settle (mountGoesOn n pages s)
    t.sp = { s.sp with operation := some (m.page0 n boot), grantTick := s.tb.stationTime } ∧
      t.am = { s.am.atStep8 pages boot with profilesLoaded := true } ∧
      t.triggers = (if s.am.profilesLoaded then s.triggers else m.triggers) ∧
      (∀ i p, i < s.services.length → m.profiles[i]? = some p →
        (t.svc i).profile = if s.am.profilesLoaded then (s.svc i).profile else p) ∧ t.part = s.part ∧ t.tb = s.tb := by
  obtain ⟨vs, ts, goesOn, triggers, profiles⟩ := mountGoesOn_write_atReset start h
  rw [goesOn]
  obtain ⟨same, am, -⟩ := settle_startOperation (s := { s with
      services := vs, triggers := ts,
      am := { s.am.atStep8 pages (nextBoot m.header.bootCounter) with profilesLoaded := true } })
    noOffline idle handed (m.page0 n (nextBoot m.header.bootCounter))
  refine ⟨same.sp, am, same.triggers.trans triggers, fun i p there profile => ?_, same.part, same.tb⟩
  rw [State.svc, same.services]
  exact profiles i p there profile

end MountEnd

/-! ### The obligation -/

/-- Settles O33: each answer ends one operation; what it does before the end of its event is the rule of its step, and
the end of the event leaves it, for the entries of a mount name no service, or, once ONLINE, changes the holds alone. -/
theorem mountEndEntersRun : Obligations.MountEndEntersRun := by
  unfold Obligations.MountEndEntersRun
  refine ⟨mountNext_nil, fun n pages m writes => ⟨tables_of_mountNext writes, fun a ha =>
    pageRead_iff.mp (reads_of_mountNext writes (mem_mountReads ha))⟩, ?_, ?_⟩
  · intro s n start supplied capacity noOffline idle
    refine ⟨fun pages a page reading op still => ?_, fun op inFlight mount locked room handed => ?_,
      fun pages m image reading op tables => ?_⟩
    · intro read next
      have settled : s.settled = true := by
        simp only [State.still, Bool.and_eq_true] at still
        exact still.1
      have handed := handed_of_settled settled
      have runs := exec_mountEnd_read capacity reading op page
      refine ⟨fun b reads => ?_, fun m writes => ?_, fun unformatted => ?_⟩
      · rw [runs, mountGoesOn_read reads, settle_still _ (still_startOperation still noOffline _ _)]
        rfl
      · exact ⟨_, runs, settle_mountGoesOn_write start noOffline idle handed writes⟩
      · rw [mountGoesOn_unformatted_atReset start unformatted] at runs
        obtain ⟨ended, -⟩ := settle_mountWithout (s := s.lastRead read) supplied noOffline idle handed .unformatted
          .unformatted
        exact ⟨_, runs, ended.part, congrArg Archive.state ended.am, congrArg Archive.mount ended.am, ended.sp,
          ended.boot, fun i _ => ended.profile i⟩
    · obtain ⟨ended, ring⟩ := settle_mountWithout (s := endOperation s) supplied noOffline idle handed .unavailable
        .unavailable
      have entry := mountWithout_ring (s := endOperation s) supplied locked room .unavailable .unavailable
      exact ⟨_, exec_mountEnd_failed_atReset start inFlight mount, ended.part, congrArg Archive.state ended.am,
        congrArg Archive.mount ended.am, congrArg Archive.holds ended.am, congrArg Archive.nextHold ended.am,
        ended.boot, fun i _ => ended.profile i, ended.triggers, ring.trans entry, ended.tb, ended.sp⟩
    · obtain ⟨ended, part, boot⟩ := settle_mountDone (s := endOperation s) supplied noOffline idle tables
      exact ⟨_, exec_mountEnd_written_atReset start capacity reading op, part, ended.state, ended.mount, ended.extents,
        ended.nextCompletion, ended.lowWater, ended.bootCounter, boot.trans ended.bootCounter.symm, ended.nextPage,
        ended.cleanFlag, ended.tb, ended.sp⟩
  · intro s n pages run capacity reading noOffline idle handed exhausted room keeps done
    refine ⟨fun a page op => ?_, fun op inFlight mount => ?_, fun m image op tables => ?_⟩
    · intro read
      have runs := exec_mountEnd_read capacity reading op page
      refine ⟨fun b reads => ?_, fun m writes => ?_, fun unformatted => ?_⟩
      · rw [mountGoesOn_read reads] at runs
        obtain ⟨same, am, ring⟩ := settle_startOperation (s := s.modAm fun a => { a with mount := .reading read })
          noOffline idle handed (.mountRead b)
        exact ⟨_, runs, ⟨same.services, same.triggers, same.boot, same.part, same.tb⟩, ring, am, same.sp⟩
      · rw [mountGoesOn_write_inRun run writes] at runs
        obtain ⟨same, am, ring⟩ := settle_startOperation (s := s.modAm (Archive.atStep8 read m.header.bootCounter))
          noOffline idle handed (m.page0 n m.header.bootCounter)
        exact ⟨_, runs, ⟨same.services, same.triggers, same.boot, same.part, same.tb⟩, ring, am, same.sp⟩
      · rw [mountGoesOn_unformatted_inRun run unformatted] at runs
        obtain ⟨same, am, ring⟩ := settle_remountWithout (s := s.lastRead read) noOffline idle handed exhausted room
          (state := .unformatted) (by decide) .unformatted
        exact ⟨_, runs, ⟨same.services, same.triggers, same.boot, same.part, same.tb⟩,
          congrArg Archive.state am, congrArg Archive.mount am, congrArg Archive.hasTable am,
          congrArg Archive.holds am, congrArg Archive.nextHold am, ring, same.sp⟩
    · obtain ⟨same, am, ring⟩ := settle_remountWithout (s := endOperation s) noOffline idle handed exhausted room
        (state := .unavailable) (by decide) .unavailable
      exact ⟨_, exec_mountEnd_failed_inRun run inFlight mount,
        ⟨same.services, same.triggers, same.boot, same.part, same.tb⟩,
        congrArg Archive.state am, congrArg Archive.mount am, congrArg Archive.hasTable am, congrArg Archive.holds am,
        congrArg Archive.nextHold am, ring, same.sp⟩
    · obtain ⟨same, am, ring⟩ := settle_remountDone (s := endOperation s) noOffline idle handed exhausted room tables
      exact ⟨_, exec_mountEnd_written_inRun run capacity reading op,
        ⟨same.services, same.triggers, same.boot, same.part, same.tb⟩,
        congrArg Archive.state am, congrArg Archive.mount am, congrArg Archive.extents am,
        congrArg Archive.nextCompletion am, congrArg Archive.lowWater am, congrArg Archive.bootCounter am, congrArg Archive.holds am,
        congrArg Archive.nextHold am, same.nextPage, congrArg Archive.cleanFlag am, ring, same.sp⟩

end Sys2Proof.Machine
end

section
/-! SUPPORT. The obligation of the archive's directory: the extent table's form and the rising dirty pages (R133, R148).
-/

namespace Sys2Proof.Machine

/-- Settles O57: every command keeps the accounts of the directory, the table's form and the order of its dirty pages
among them. -/
theorem stepKeepsExtentTable : Obligations.StepKeepsExtentTable :=
  ⟨fun _ _ table runs => (step_keepsAccounts runs).table table,
    fun _ _ rising runs => (step_keepsAccounts runs).dirty rising⟩

end Sys2Proof.Machine
end

section
/-! SUPPORT. The archive's own verbs OFL, ONL, SAV and FMT, and their obligation (R144, R151, R152, R188, R189). -/

namespace Sys2Proof.Machine

/-! ### Tests that the verbs share (R144, R151, R152, R188) -/

/-- With STORAGE_FAULT clear and the supply good, a verb that the archive state allows goes on. -/
theorem archiveAllowed_go {s : State} {ok : Bool} (clear : s.sp.faultLatched = false)
    (supplied : s.part.lowSupply = false) (allowed : ok = true) (verb : String) (latchFirst : Bool) (rest : Answer) :
    archiveAllowed verb latchFirst ok s rest = rest := by
  simp [archiveAllowed, clear, supplied, allowed]

/-- OFL and ONL are refused with FAULT while STORAGE_FAULT is latched, whatever else holds (log entry 15). -/
theorem archiveAllowed_latched {s : State} (latched : s.sp.faultLatched = true) (verb : String) (ok : Bool)
    (rest : Answer) : archiveAllowed verb true ok s rest = deny verb "STATE" [ascii "FAULT"] s :=
  if_pos ⟨rfl, latched⟩

/-- The refusal of a settled, ready part's OFL or ONL for its latch. -/
theorem exec_latched {s : State} (ready : s.ready = true) (settled : s.settled = true)
    (latched : s.sp.faultLatched = true) {i : Instr} (verb : i ∈ [Instr.ofl, .onl]) :
    exec i s = .next (s.replying (words [33 :: verbOf i, ascii "STATE", ascii "FAULT"])) := by
  rcases List.mem_pair.mp verb with rfl | rfl
  · exact exec_readout rfl ready settled (by decide) (by decide) (archiveAllowed_latched latched "OFL" _ _)
  · exact exec_readout rfl ready settled (by decide) (by decide) (archiveAllowed_latched latched "ONL" _ _)

/-- What `settled` says of the entries and of the flush. -/
theorem settled_parts {s : State} (settled : s.settled = true) : s.cl.handed = [] ∧ s.am.flush ≠ .flushing := by
  simp only [State.settled, Bool.and_eq_true, decide_eq_true_eq, List.isEmpty_iff] at settled
  exact ⟨settled.1.1.1, settled.2⟩

/-- A settled part that starts an operation, or has one in flight, stays settled. -/
theorem settled_busy {s t : State} (settled : s.settled = true) (busy : t.sp.operation.isSome = true)
    (log : t.cl = s.cl := by rfl) (cu : t.cu = s.cu := by rfl) (flush : t.am.flush = s.am.flush := by rfl) :
    t.settled = true := by
  simp only [State.settled, log, cu, flush, Option.isNone_eq_false_iff.mpr busy, Bool.and_false, Bool.not_false,
    Bool.and_true, Bool.and_eq_true] at settled ⊢
  exact ⟨settled.1.1, settled.2⟩

/-! ### OFL (R151) -/

theorem opOfl_go {s : State} (clear : s.sp.faultLatched = false) (supplied : s.part.lowSupply = false)
    (online : s.am.state = .online) :
    opOfl s = (s.modAm fun a => { a with oflPending := true }, some (ascii "=OFL")) :=
  archiveAllowed_go clear supplied (decide_eq_true online) _ _ _

/-- With no operation in flight a pending OFL takes the archive OFFLINE at the end of its event. -/
theorem settle_offline {s : State} (handed : s.cl.handed = []) (pending : s.am.oflPending = true)
    (free : s.sp.operation = none) (rests : s.am.flush ≠ .flushing) :
    OnlyHolds (s.modAm fun a => { a with state := .offline, oflPending := false }) (settle s) := by
  obtain ⟨pool, cu, only⟩ := startVerdict_eq s
  have due : (startVerdict s).am.oflPending = true ∧ (startVerdict s).sp.operation.isNone = true := by
    rw [only]; exact ⟨pending, by rw [free]; rfl⟩
  have offline : (offlineChange (startVerdict s)).am = { s.am with state := .offline, oflPending := false } := by
    rw [offlineChange, if_pos due, abortExport_am, (logTake_only _ _ _).am, State.modAm_am, startVerdict_am]
  have stays : flushStep (offlineChange (startVerdict s)) = offlineChange (startVerdict s) :=
    if_neg (by rw [offline]; exact rests)
  rw [settle, fanOut_nothing handed, stays]
  exact (OnlyHolds.ofAm offline).trans (.fanOut _)

theorem exec_ofl_free {s : State} (ready : s.ready = true) (settled : s.settled = true)
    (clear : s.sp.faultLatched = false) (supplied : s.part.lowSupply = false) (online : s.am.state = .online)
    (free : s.sp.operation = none) :
    ∃ t, exec .ofl s = .next t ∧ SameCore s t ∧
      OnlyHolds (s.modAm fun a => { a with state := .offline, oflPending := false }) t := by
  have sent : sendable .ofl = true := by decide
  have fit : fits (ascii "=OFL") = true := by decide
  have op := opOfl_go clear supplied online
  obtain ⟨handed, rests⟩ := settled_parts settled
  refine ⟨verbRow .ofl opOfl s, rfl, ?_, ?_⟩
  · exact (show SameCore s (s.modAm fun a => { a with oflPending := true }) by constructor <;> rfl).trans
      (verbRow_same (i := .ofl) ready sent op fit)
  · rw [verbRow_ready .ofl opOfl s _ _ ready sent op fit]
    exact settle_offline (s := putReply (s.modAm fun a => { a with oflPending := true }, some (ascii "=OFL")))
      handed rfl free rests

/-! ### ONL, SAV and FMT (R152, R188, R189) -/

theorem exec_onl_go {s : State} (ready : s.ready = true) (settled : s.settled = true)
    (clear : s.sp.faultLatched = false) (supplied : s.part.lowSupply = false)
    (away : s.am.state = .offline ∨ s.am.state = .unformatted ∨ s.am.state = .unavailable) :
    exec .onl s = .next ((s.modAm fun a =>
      { a with state := .mounting, mount := .probing, mountStart := s.tb.stationTime }).replying (ascii "=ONL")) :=
  exec_record rfl ready (by decide) (by decide) (archiveAllowed_go clear supplied (decide_eq_true away) _ _ _) settled
    rfl rfl

theorem opSav_go {s : State} (clear : s.sp.faultLatched = false) (online : s.am.state = .online)
    (noOffline : s.am.oflPending = false) :
    opSav s = (logTake none .profileSaved (s.markDirty 258), some (ascii "=SAV")) := by
  simp only [opSav, clear, online, noOffline, ne_eq, not_true_eq_false, if_false, Bool.false_eq_true]
  rfl

theorem exec_sav_go {s : State} (ready : s.ready = true) (clear : s.sp.faultLatched = false)
    (online : s.am.state = .online) (noOffline : s.am.oflPending = false) :
    ∃ t, exec .sav s = .next t ∧ 258 ∈ t.am.dirty ∧ SameCore s t := by
  have sent : sendable .sav = true := by decide
  have fit : fits (ascii "=SAV") = true := by decide
  have op := opSav_go clear online noOffline
  refine ⟨verbRow .sav opSav s, rfl, ?_, ?_⟩
  · rw [verbRow_ready .sav opSav s _ _ ready sent op fit]
    exact KeepsMarks.settle _ (KeepsMarks.logTake none .profileSaved _ (markDirty_mem 258 s))
  · exact ((markDirty_same 258 s).trans (logTake_same _ _ _)).trans (verbRow_same (i := .sav) ready sent op fit)

/-- FMT without a low-water mark takes 32 (R188). -/
theorem opFmt_default {s : State} (clear : s.sp.faultLatched = false) (supplied : s.part.lowSupply = false)
    (away : s.am.state = .offline ∨ s.am.state = .unformatted) :
    opFmt none s = (writeFormatPage 0 (s.modAm fun a =>
        { a with state := .mounting, mount := .formatting, mountStart := s.tb.stationTime, lowWater := 32 }),
      some (words [ascii "=FMT", optText natText s.am.capacity, ascii "32"])) :=
  archiveAllowed_go clear supplied (decide_eq_true away.symm) _ _ _

theorem capacityText_length (n : Option Nat) : (optText natText n).length ≤ 40 := by
  cases n with
  | none => decide
  | some n => exact natText_length n

theorem exec_fmt_default {s : State} (ready : s.ready = true) (settled : s.settled = true)
    (clear : s.sp.faultLatched = false) (supplied : s.part.lowSupply = false)
    (away : s.am.state = .offline ∨ s.am.state = .unformatted) :
    exec (.fmt none) s = .next ((writeFormatPage 0 (s.modAm fun a =>
        { a with state := .mounting, mount := .formatting, mountStart := s.tb.stationTime, lowWater := 32 })).replying
      (words [ascii "=FMT", optText natText s.am.capacity, ascii "32"])) := by
  have fit : fits (words [ascii "=FMT", optText natText s.am.capacity, ascii "32"]) = true := by
    refine fits_of_fields rfl ?_
    have short := capacityText_length s.am.capacity
    have two : (ascii "32").length = 2 := rfl
    simp only [fieldsRoom, List.map_cons, List.map_nil, List.sum_cons, List.sum_nil, two]
    omega
  exact exec_record rfl ready (by decide) fit (opFmt_default clear supplied away) (settled_busy settled rfl) rfl rfl

/-- Settles O51: each verb's operation, and what the end of its event adds: the change to OFFLINE at an OFL whose port
is free, and nothing else. -/
theorem archiveCommandsAct : Obligations.ArchiveCommandsAct := by
  unfold Obligations.ArchiveCommandsAct
  refine fun s ready settled => ⟨fun clear supplied => ⟨fun online _ free => ?_, fun online op inFlight => ?_,
    fun away => ?_, fun online noOffline => ?_, fun away => ?_⟩,
    fun latched i verb => exec_latched ready settled latched verb⟩
  · obtain ⟨t, runs, same, holds, next, dirty, am⟩ := exec_ofl_free ready settled clear supplied online free
    exact ⟨t, runs, by rw [am]; rfl, by rw [am]; rfl, same.extents, same.writeQueue, same.services⟩
  · have busy : s.sp.operation.isSome = true := by rw [inFlight]; rfl
    exact exec_record rfl ready (by decide) (by decide) (opOfl_go clear supplied online) (settled_busy settled busy) rfl
      rfl
  · exact ⟨_, exec_onl_go ready settled clear supplied away, rfl, rfl⟩
  · obtain ⟨t, runs, marked, same⟩ := exec_sav_go ready clear online noOffline
    exact ⟨t, runs, marked, same.services, same.triggers, same.extents⟩
  · exact ⟨_, exec_fmt_default ready settled clear supplied away, rfl, rfl, rfl⟩

end Sys2Proof.Machine
end

section
/-! SUPPORT. The writes of a format one by one and its two ends, with their obligation (R139, R144, R188). -/

namespace Sys2Proof.Machine

/-! ### The pages of a format in their order (R188) -/

/-- On a capacity that a device may have, the page after one of a format is one of the extent table, 257 or 258, and
nothing follows 258. -/
theorem formatPageAfter_spec {n page next : Nat} (least : 1024 ≤ n) (most : n ≤ 1048576)
    (after : formatPageAfter n page = some next) : (1 ≤ next ∧ next ≤ 256) ∨ next = 257 ∨ next = 258 := by
  unfold formatPageAfter at after
  split at after
  · have := Option.some.inj after; omega
  · split at after
    · exact .inr (.inl (Option.some.inj after).symm)
    · split at after
      · exact .inr (.inr (Option.some.inj after).symm)
      · cases after

theorem formatPageAfter_last {n : Nat} (most : n ≤ 1048576) : formatPageAfter n 258 = none := by
  rw [formatPageAfter, if_neg (by omega), if_neg (by decide), if_neg (by decide)]

/-- What a format writes to a page after page 0: every extent FREE, no hold and next id 1, or the settings as they
stand. -/
def State.formatImage (s : State) (page : Nat) : DirectoryImage :=
  if page ≤ 256 then .extents [] else if page = 257 then .holds 1 []
  else .settings (s.services.map Service.profile) s.triggers

theorem formatted_directoryImage (s : State) {page : Nat} (later : (1 ≤ page ∧ page ≤ 256) ∨ page = 257 ∨ page = 258) :
    s.formatted.directoryImage page = s.formatImage page := by
  rcases later with ⟨least, most⟩ | rfl | rfl
  · simp only [State.directoryImage, State.formatImage, if_pos most, if_neg (by omega : ¬ page = 0),
      if_neg (by omega : ¬ page = 257), if_neg (by omega : ¬ page = 258)]
    rfl
  · rfl
  · rfl

/-! ### A format's report (R152, R188) -/

theorem reportMount_only (outcome : MountOutcome) (s : State) : OnlyLog s (reportMount outcome s) := by
  unfold reportMount
  dsimp only
  split
  · exact (logTake_only _ _ s).trans (logTake_only _ _ _)
  · exact logTake_only _ _ s

theorem grouped_reportMount_only (outcome : MountOutcome) (s : State) :
    OnlyLog s (grouped (reportMount outcome) s) := (logReserve_only _ s).trans (reportMount_only outcome _)

theorem logReserve_handed (n : Nat) (s : State) : (logReserve n s).cl.handed = s.cl.handed := by
  unfold logReserve
  split <;> rfl

/-- The entries of a format's end are of no service. -/
theorem grouped_reportMount_handed {s : State} (handed : s.cl.handed = []) (outcome : MountOutcome) :
    ∀ e ∈ (grouped (reportMount outcome) s).cl.handed, e.service = none := by
  have noService : ∀ e ∈ (logReserve (entriesOf (reportMount outcome) s) s).cl.handed, e.service = none := by
    rw [logReserve_handed, handed]
    exact fun e he => absurd he List.not_mem_nil
  unfold grouped reportMount
  dsimp only
  split
  · exact logTake_handed_device (logTake_handed_device noService _) _
  · exact logTake_handed_device noService _

/-- The end of the event whose entries are a format's report leaves the archive. -/
theorem settle_reportMount {s : State} (handed : s.cl.handed = []) (noOffline : s.am.oflPending = false)
    (idle : s.am.flush = .idle) (outcome : MountOutcome) :
    (settle (grouped (reportMount outcome) s)).am = s.am ∧ SameCore s (settle (grouped (reportMount outcome) s)) := by
  have only := grouped_reportMount_only outcome s
  have ends := settle_archive (grouped_reportMount_handed handed outcome)
    ((congrArg Archive.oflPending only.am).trans noOffline) ((congrArg Archive.flush only.am).trans idle)
  exact ⟨ends.1.trans only.am, (grouped_same (reportMount_same outcome) s).trans (settle_same _)⟩

/-! ### The latch, when due (R144) -/

/-- Below the second failure in a row, or latched already, nothing latches; else the latch is set. -/
theorem latchIfDue_sp (target : WriteTarget) (failed : Option Buffer) (s : State) : (latchIfDue target failed s).sp =
    { s.sp with faultLatched := s.sp.faultLatched || decide (2 ≤ s.sp.failures) } := by
  unfold latchIfDue
  split
  · next due =>
    have second : decide (2 ≤ s.sp.failures) = true := decide_eq_true due.1
    rw [(latchSteps_latches target failed _).sp, (logReserve_same _ s).sp, second, Bool.or_true]
  · next early =>
    have stands : (s.sp.faultLatched || decide (2 ≤ s.sp.failures)) = s.sp.faultLatched := by
      cases latched : s.sp.faultLatched with
      | true => rfl
      | false => exact decide_eq_false fun second => early ⟨second, by rw [latched]; exact Bool.false_ne_true⟩
    rw [stands]

/-- TB and the archive's tables stand. -/
structure KeepsArchive (s t : State) : Prop where
  tb : t.tb = s.tb
  am : t.am = s.am

namespace KeepsArchive

variable {s t u : State}

theorem refl (s : State) : KeepsArchive s s := ⟨rfl, rfl⟩

theorem trans (h : KeepsArchive s t) (k : KeepsArchive t u) : KeepsArchive s u := ⟨k.tb.trans h.tb, k.am.trans h.am⟩

theorem ofLog (h : OnlyLog s t) : KeepsArchive s t := ⟨h.tb, h.am⟩

theorem foldl {α : Type} {f : State → α → State} (h : ∀ s a, KeepsArchive s (f s a)) (l : List α) (s : State) :
    KeepsArchive s (l.foldl f s) := by
  induction l generalizing s with
  | nil => exact refl s
  | cons a l ih => exact (h s a).trans (ih _)

theorem modRc (i : Nat) (f : Recorder → Recorder) (s : State) : KeepsArchive s (s.modRc i f) := ⟨rfl, rfl⟩

theorem modSp (f : StoragePort → StoragePort) (s : State) : KeepsArchive s (s.modSp f) := ⟨rfl, rfl⟩

theorem recordLoss (i : Nat) (cause : GapCause) (opened : GapRecord) (s : State) :
    KeepsArchive s (recordLoss i cause opened s) :=
  have within := recordLoss_within i cause opened s
  ⟨within.tb, within.am⟩

theorem issueLoss (i : Nat) (cause : GapCause) (s : State) : KeepsArchive s (issueLoss i cause s) :=
  (modRc i _ s).trans (.recordLoss i cause .placement _)

theorem emptied (s : State) : KeepsArchive s s.emptied := by
  rw [emptied_eq]
  exact ⟨rfl, rfl⟩

theorem abortExport (o : ExportOutcome) (s : State) : KeepsArchive s (abortExport o s) :=
  ⟨(abortExport_same o s).tb, abortExport_am o s⟩

theorem logReserve (n : Nat) (s : State) : KeepsArchive s (logReserve n s) := ofLog (logReserve_only n s)

theorem latchSteps (target : WriteTarget) (failed : Option Buffer) (s : State) :
    KeepsArchive s (latchSteps target failed s) := by
  have latched := modSp (fun p => { p with faultLatched := true }) s
  have logged := (openDevice_only .storageFault (s.modSp fun p => { p with faultLatched := true })).trans
    (logTake_only none (.storageFault target) _)
  exact ((((latched.trans (.ofLog logged)).trans (.emptied _)).trans (.foldl (fun t i => .issueLoss i .fault t) _ _)).trans
    (.foldl (fun t i => .recordLoss i .fault .placement t) _ _)).trans (.abortExport _ _)

theorem latchIfDue (target : WriteTarget) (failed : Option Buffer) (s : State) :
    KeepsArchive s (latchIfDue target failed s) := by
  unfold Machine.latchIfDue
  split
  · exact (logReserve _ s).trans (.latchSteps target failed _)
  · exact refl s

end KeepsArchive

/-! ### The ends of a format's writes (R139, R188) -/

theorem formatAnswered_next {s : State} {n page next : Nat} {image : DirectoryImage}
    (op : s.sp.operation = some (.formatWrite page image)) (capacity : s.am.capacity = some n)
    (after : formatPageAfter n page = some next) :
    formatAnswered s true = writeFormatPage next (writeSucceeded (endOperation s)) := by
  simp only [formatAnswered, op, capacity, Option.getD_some, after, if_true]

theorem formatAnswered_last {s : State} {n page : Nat} {image : DirectoryImage}
    (op : s.sp.operation = some (.formatWrite page image)) (capacity : s.am.capacity = some n)
    (last : formatPageAfter n page = none) :
    formatAnswered s true = grouped (reportMount .formatted) (writeSucceeded (endOperation s)).formatted := by
  simp only [formatAnswered, op, capacity, Option.getD_some, last, if_true]

/-- The next page of a format is written, its contents those of the archive that the format makes. -/
theorem writeFormatPage_eq {s : State} {page : Nat} (later : (1 ≤ page ∧ page ≤ 256) ∨ page = 257 ∨ page = 258) :
    writeFormatPage page (writeSucceeded (endOperation s)) = { s with
      sp := { s.sp with
        operation := some (.formatWrite page (s.formatImage page)), grantTick := s.tb.stationTime, failures := 0 } } := by
  rw [writeFormatPage, formatted_directoryImage _ later]
  rfl

/-- What a failed write leaves of a format (R139, R144, R188). -/
theorem settle_formatFailed {s : State} (noOffline : s.am.oflPending = false) (idle : s.am.flush = .idle) (page : Nat) :
    let t := settle (formatFailed page (endOperation s))
    t.am.state = .unformatted ∧ t.am.mount = .idle ∧ t.am.hasTable = false ∧ t.tb = s.tb ∧
      t.sp = { s.sp with
        operation := none
        failures := s.sp.failures + 1
        faultLatched := s.sp.faultLatched || decide (1 ≤ s.sp.failures) } := by
  have reported := grouped_reportMount_only .failed
    ((countFailure (endOperation s)).modAm fun a => a.unmounted .unformatted)
  have failed := (KeepsArchive.ofLog reported).trans (.latchIfDue (.directory page) none _)
  have am : (formatFailed page (endOperation s)).am = s.am.unmounted .unformatted := failed.am
  have same := settle_same (formatFailed page (endOperation s))
  obtain ⟨_, _, _, archive⟩ := OnlyHolds.settle (s := formatFailed page (endOperation s))
    ((congrArg Archive.oflPending am).trans noOffline) ((congrArg Archive.flush am).trans idle)
  dsimp only
  refine ⟨by rw [archive, am]; rfl, by rw [archive, am]; rfl, by rw [archive, am]; rfl, same.tb.trans failed.tb, ?_⟩
  rw [same.sp, formatFailed, latchIfDue_sp, reported.sp]
  simp [countFailure, endOperation]

/-- Settles O34: the write that succeeds starts the next one, the last one ends the format with its report, and a failed
one ends it without an archive. -/
theorem formatBuildsEmptyArchive : Obligations.FormatBuildsEmptyArchive := by
  unfold Obligations.FormatBuildsEmptyArchive
  refine fun s n page image op capacity least most noOffline idle handed =>
    ⟨fun next after still => ?_, fun last => ?_, ?_⟩
  · rw [exec_formatEnd op, List.foldl_cons, List.foldl_nil, formatAnswered_next op capacity after,
      writeFormatPage_eq (formatPageAfter_spec least most after), settle_still]
    · rfl
    · simp only [State.still, Bool.and_eq_true] at still ⊢
      exact ⟨settled_busy still.1 rfl, still.2⟩
  · have none_after : formatPageAfter n page = none := last ▸ formatPageAfter_last most
    obtain ⟨am, same⟩ := settle_reportMount (s := (writeSucceeded (endOperation s)).formatted) handed noOffline idle
      .formatted
    rw [exec_formatEnd op, List.foldl_cons, List.foldl_nil, formatAnswered_last op capacity none_after]
    refine ⟨_, rfl, ?_⟩
    rw [am]
    refine ⟨rfl, rfl, rfl, ?_, rfl, rfl, rfl, rfl, same.nextPage, same.services, same.tb, same.sp⟩
    exact congrArg (fun c : Option Nat => (List.range (c.getD 0)).drop 288) capacity
  · obtain ⟨state, mount, table, tb, sp⟩ := settle_formatFailed noOffline idle page
    rw [exec_formatEnd op, List.foldl_cons, List.foldl_nil, formatAnswered_failed op]
    exact ⟨_, rfl, state, mount, table, sp, tb⟩

end Sys2Proof.Machine
end

section
/-! SUPPORT. How recorded page writes end, with their obligation (R139, R142, R143). -/

namespace Sys2Proof.Machine

/-! ### Updates of one extent (R133) -/

theorem State.tableOk.rising {s : State} (h : s.tableOk) : (s.am.extents.map Prod.fst).Pairwise (· < ·) :=
  (extentsWf_iff.mp h).1

/-- The record written reads back. -/
theorem State.setExtent_extent_same {s : State} (ok : s.tableOk) (e : Nat) (x : Extent) : (s.setExtent e x).extent e = x :=
  tableGet_set_same _ _ e x ok.rising

/-- A record's change leaves the other extents. -/
theorem State.setExtent_extent_other {s : State} (ok : s.tableOk) {e y : Nat} (x : Extent) (other : y ≠ e) :
    (s.setExtent e x).extent y = s.extent y :=
  tableGet_set_other _ _ x other ok.rising

/-- The extents are the archive's. -/
theorem State.extent_congr {s t : State} (h : t.am = s.am) (e : Nat) : t.extent e = s.extent e := by
  rw [State.extent, h]; rfl

theorem SameCore.extent {s t : State} (h : SameCore s t) (e : Nat) : t.extent e = s.extent e := by
  rw [State.extent, h.extents]; rfl

/-- What COMPLETE or DAMAGED makes of an extent's record: its state and its completion sequence (R134). -/
theorem finishExtent_extent_same {s : State} (ok : s.tableOk) (e : Nat) (state : ExtentState) :
    (finishExtent e state s).extent e = { s.extent e with state := state, completion := s.am.nextCompletion } :=
  State.setExtent_extent_same ok _ _

theorem finishExtent_extent_other {s : State} (ok : s.tableOk) {e y : Nat} (state : ExtentState) (other : y ≠ e) :
    (finishExtent e state s).extent y = s.extent y :=
  State.setExtent_extent_other ok _ other

/-! ### Success (R142) -/

/-- An extent's record with one page more, the page's wall seconds in its range (R142). -/
def Extent.withPage (x : Extent) (b : Buffer) : Extent :=
  { x with
    pages := x.pages + 1
    wall := joinWall (joinWall x.wall (b.firstWall.map WallStamp.second)) (b.lastWall.map WallStamp.second) }

/-- The part with the page counted, and the extent COMPLETE when it is its last (R142). -/
def countPage (e : Nat) (b : Buffer) (s : State) : State :=
  let counted := s.setExtent e ((s.extent e).withPage b)
  if (s.extent e).pages + 1 = 16 ∨ b.closeMark = true then finishExtent e .complete counted else counted

theorem recordedSucceeded_eq (e : Nat) (b : Buffer) (s : State) : recordedSucceeded e b s =
    resumeRecording b.service .placement (writeSucceeded (endOperation (countPage e b s))) := rfl

/-- Beside the archive's tables the counting of a page changes nothing, and of them neither the other extents nor the
free list. -/
theorem countPage_frame {s : State} (ok : s.tableOk) (e : Nat) (b : Buffer) :
    (countPage e b s).sp = s.sp ∧ (countPage e b s).tb = s.tb ∧ (countPage e b s).writeQueue = s.writeQueue ∧
      (countPage e b s).am.free = s.am.free ∧ ∀ y, y ≠ e → (countPage e b s).extent y = s.extent y := by
  have others (y : Nat) (other : y ≠ e) : (s.setExtent e ((s.extent e).withPage b)).extent y = s.extent y :=
    State.setExtent_extent_other ok _ other
  have counted := (KeepsAccounts.setExtent s e ((s.extent e).withPage b)).table ok
  unfold countPage
  dsimp only
  split
  · exact ⟨rfl, rfl, rfl, rfl, fun y other => (finishExtent_extent_other counted _ other).trans (others y other)⟩
  · exact ⟨rfl, rfl, rfl, rfl, others⟩

/-- A page that is the extent's last, or carries a close mark, completes it (R134, R142). -/
theorem countPage_last {s : State} (ok : s.tableOk) {e : Nat} {b : Buffer}
    (last : (s.extent e).pages + 1 = 16 ∨ b.closeMark = true) :
    (countPage e b s).extent e =
        { (s.extent e).withPage b with state := .complete, completion := s.am.nextCompletion } ∧
      (countPage e b s).am.order = s.am.order ++ [e] ∧
      (countPage e b s).am.nextCompletion = completionAfter s.am.nextCompletion := by
  have counted := (KeepsAccounts.setExtent s e ((s.extent e).withPage b)).table ok
  rw [countPage, if_pos last]
  refine ⟨?_, rfl, rfl⟩
  rw [finishExtent_extent_same counted, State.setExtent_extent_same ok]
  rfl

/-- Any other page is counted alone (R142). -/
theorem countPage_more {s : State} (ok : s.tableOk) {e : Nat} {b : Buffer}
    (more : ¬ ((s.extent e).pages + 1 = 16 ∨ b.closeMark = true)) :
    (countPage e b s).extent e = (s.extent e).withPage b ∧ (countPage e b s).am.order = s.am.order ∧
      (countPage e b s).am.nextCompletion = s.am.nextCompletion := by
  rw [countPage, if_neg more]
  exact ⟨State.setExtent_extent_same ok _ _, rfl, rfl⟩

/-- The resuming of a service's recording leaves SP and the staged pages (R138). -/
theorem KeepsStaging.resumeRecording (i : Nat) (which : GapRecord) (s : State) :
    KeepsStaging s (resumeRecording i which s) := by
  unfold Machine.resumeRecording
  split
  · exact (ofLog (closeCond_only _ _ _ _ s)).trans (modRc (by exact fun _ => rfl) i _)
  · exact refl s

theorem exec_recordedWriteSuccess {s : State} {e p : Nat} {b : Buffer} (op : s.sp.operation = some (.recorded e p b)) :
    exec .recordedWriteSuccess s = .next (settle (recordedSucceeded e b s)) := by
  show execRecordedWriteSuccess s = _
  rw [execRecordedWriteSuccess, op]

/-- At the end of its event a successful write has freed the port, cleared the failure count and counted its page. -/
structure PageCounted (e : Nat) (b : Buffer) (s t : State) : Prop where
  sp : t.sp = { s.sp with operation := none, failures := 0 }
  tb : t.tb = s.tb
  writeQueue : t.writeQueue = s.writeQueue
  free : t.am.free = s.am.free
  order : t.am.order = (countPage e b s).am.order
  nextCompletion : t.am.nextCompletion = (countPage e b s).am.nextCompletion
  extent : ∀ y, t.extent y = (countPage e b s).extent y

theorem recordedSucceeded_counts {s : State} (ok : s.tableOk) (e : Nat) (b : Buffer) :
    PageCounted e b s (settle (recordedSucceeded e b s)) := by
  obtain ⟨sp, tb, writeQueue, free, -⟩ := countPage_frame ok e b
  rw [recordedSucceeded_eq]
  have within := resumeRecording_within b.service .placement (writeSucceeded (endOperation (countPage e b s)))
  have staged := KeepsStaging.resumeRecording b.service .placement (writeSucceeded (endOperation (countPage e b s)))
  have same := settle_same (resumeRecording b.service .placement (writeSucceeded (endOperation (countPage e b s))))
  exact {
    sp := (same.sp.trans within.sp).trans
      (congrArg (fun p : StoragePort => { p with operation := none, failures := 0 }) sp)
    tb := (same.tb.trans within.tb).trans tb
    writeQueue := (same.writeQueue.trans staged.writeQueue).trans writeQueue
    free := (same.freeList.trans (congrArg Archive.free within.am)).trans free
    order := same.order.trans (congrArg Archive.order within.am)
    nextCompletion := same.nextCompletion.trans (congrArg Archive.nextCompletion within.am)
    extent := fun y => (same.extent y).trans (State.extent_congr within.am y) }

/-! ### Failure (R143) -/

/-- Before the retry: the extent DAMAGED with its entry, the port free, the failure counted (R139, R143). -/
def damageExtent (e page : Nat) (s : State) : State :=
  countFailure (endOperation
    (logTake (some (s.extent e).service) (.extentDamaged e (s.extent e).pages page) (finishExtent e .damaged s)))

/-- A first failure puts the page with its retry mark at the head of the write queue (R143). -/
theorem failRecorded_first {s : State} {b : Buffer} (first : s.sp.failures = 0) (fresh : b.retryMark = false)
    (e page : Nat) : failRecorded e page b s =
      (damageExtent e page s).modQueue fun q => { b with retryMark := true } :: q := by
  have only := logTake_only (some (s.extent e).service) (.extentDamaged e (s.extent e).pages page)
    (finishExtent e .damaged s)
  have failures : (damageExtent e page s).sp.failures = 1 := by
    show (logTake _ _ _).sp.failures + 1 = 1
    rw [only.sp]
    exact congrArg (· + 1) first
  have early : ¬ Config.faultFailures ≤ (damageExtent e page s).sp.failures := by rw [failures]; decide
  rw [failRecorded]
  exact (if_neg early).trans (if_neg (by rw [fresh]; exact Bool.false_ne_true))

/-- What a first failure leaves at the end of its event. -/
structure PageRetried (e : Nat) (b : Buffer) (s t : State) : Prop where
  sp : t.sp = { s.sp with operation := none, failures := 1 }
  order : t.am.order = s.am.order ++ [e]
  extent : ∀ y, t.extent y = (finishExtent e .damaged s).extent y
  writeQueue : t.writeQueue = { b with retryMark := true } :: s.writeQueue
  services : t.services = s.services
  tb : t.tb = s.tb

theorem damageExtent_only (e page : Nat) (s : State) : OnlyLog
    ((finishExtent e .damaged s).modSp fun p => { p with operation := none, failures := p.failures + 1 })
    (damageExtent e page s) := by
  have only := logTake_only (some (s.extent e).service) (.extentDamaged e (s.extent e).pages page)
    (finishExtent e .damaged s)
  exact { only with
    sp := congrArg (fun p : StoragePort => { p with operation := none, failures := p.failures + 1 }) only.sp }

/-- A group that is refused sets the exhausted mark, and one that is made changes nothing (R121). -/
theorem logReserve_eq (n : Nat) (s : State) : ∃ x, logReserve n s = s.modCl fun c => { c with exhausted := x } := by
  unfold logReserve
  split
  · exact ⟨true, rfl⟩
  · exact ⟨s.cl.exhausted, rfl⟩

theorem recordedFailed_retries {s : State} {b : Buffer} (first : s.sp.failures = 0) (fresh : b.retryMark = false)
    (e page : Nat) : PageRetried e b s (settle (recordedFailed e page b s)) := by
  have same := settle_same (recordedFailed e page b s)
  obtain ⟨x, reserved⟩ := logReserve_eq (entriesOf (failRecorded e page b) s) s
  rw [recordedFailed, grouped, reserved, failRecorded_first (by exact first) fresh] at same ⊢
  have only := damageExtent_only e page (s.modCl fun c => { c with exhausted := x })
  exact {
    sp := same.sp.trans (only.sp.trans (congrArg (fun n => { s.sp with operation := none, failures := n + 1 }) first))
    order := same.order.trans (congrArg Archive.order only.am)
    extent := fun y => (same.extent y).trans (State.extent_congr (s := finishExtent e .damaged s) only.am y)
    writeQueue := same.writeQueue.trans (congrArg _ only.writeQueue)
    services := same.services.trans only.services
    tb := same.tb.trans only.tb }

/-- Settles O24: a page that is written is counted, and may complete its extent; a first failure damages the extent and
queues the page again. -/
theorem recordedWritesEnd : Obligations.RecordedWritesEnd := by
  unfold Obligations.RecordedWritesEnd
  refine fun s e p b op ok => ⟨?_, fun first fresh => ?_⟩
  · have counted := recordedSucceeded_counts ok e b
    obtain ⟨-, -, -, -, others⟩ := countPage_frame ok e b
    refine ⟨_, exec_recordedWriteSuccess op, counted.sp, ?_, ?_, fun y other => (counted.extent y).trans (others y other),
      counted.free, counted.writeQueue, counted.tb⟩
    · rw [counted.extent]
      by_cases last : (s.extent e).pages + 1 = 16 ∨ b.closeMark = true
      · rw [(countPage_last ok last).1]; rfl
      · rw [(countPage_more ok last).1]; rfl
    · rw [counted.extent, counted.order, counted.nextCompletion]
      by_cases last : (s.extent e).pages + 1 = 16 ∨ b.closeMark = true
      · obtain ⟨extent, order, completion⟩ := countPage_last ok last
        obtain ⟨least, most⟩ := completionAfter_range s.am.nextCompletion
        rw [if_pos last, extent, order, completion]
        exact ⟨rfl, rfl, rfl, least, most, fun below => if_pos below⟩
      · obtain ⟨extent, order, completion⟩ := countPage_more ok last
        rw [if_neg last, extent, order, completion]
        exact ⟨rfl, rfl, rfl⟩
  · have retried := recordedFailed_retries first fresh e p
    have damaged := finishExtent_extent_same ok e .damaged
    refine ⟨_, exec_recordedWriteFailure op, retried.sp, ?_, ?_, ?_, retried.order, retried.writeQueue,
      fun y other => (retried.extent y).trans (finishExtent_extent_other ok _ other), retried.services, retried.tb⟩
    all_goals rw [retried.extent, damaged]

end Sys2Proof.Machine
end

section
/-! SUPPORT. The placement of pages and the reclaim of extents, with their obligation (R133, R134, R141, R145 to R147).
-/

namespace Sys2Proof.Machine

/-! ### What hold counts and retention read (R146, R158) -/

/-- What hold counts and retention read of an extent. -/
def Extent.retained (x : Extent) : ExtentState × Nat × Option (Nat × Nat) := (x.state, x.service, x.wall)

/-- What hold counts and retention read beside the extents stands. -/
structure SameRetention (s t : State) : Prop where
  tb : t.tb = s.tb
  holds : t.am.holds = s.am.holds
  inExport : ∀ e, t.inExport e = s.inExport e
  profile : ∀ i, (t.svc i).profile = (s.svc i).profile

namespace SameRetention

variable {s t u : State}

theorem refl (s : State) : SameRetention s s := ⟨rfl, rfl, fun _ => rfl, fun _ => rfl⟩

theorem trans (h : SameRetention s t) (k : SameRetention t u) : SameRetention s u :=
  ⟨k.tb.trans h.tb, k.holds.trans h.holds, fun e => (k.inExport e).trans (h.inExport e),
    fun i => (k.profile i).trans (h.profile i)⟩

theorem holdCount (h : SameRetention s t) {e : Nat} (same : (t.extent e).retained = (s.extent e).retained) :
    t.holdCount e = s.holdCount e := by
  simp only [Extent.retained, Prod.mk.injEq] at same
  obtain ⟨state, service, wall⟩ := same
  simp only [State.holdCount, coversExtent, h.holds, h.inExport, state, service, wall]

theorem passedRetention (h : SameRetention s t) {x y : Extent} (same : y.retained = x.retained) :
    t.passedRetention y = s.passedRetention x := by
  simp only [Extent.retained, Prod.mk.injEq] at same
  obtain ⟨-, service, wall⟩ := same
  simp only [State.passedRetention, State.wallNow, State.now, h.tb, h.profile, service, wall]

end SameRetention

/-! ### What a search takes (R145 to R147) -/

/-- An extent that a search may take: in the completion order, unheld, and past retention or of a service whose
retention is not strict. -/
def State.reclaimable (s : State) (e : Nat) : Prop :=
  e ∈ s.am.order ∧ s.holdCount e = 0 ∧
    (s.passedRetention (s.extent e) = true ∨ (s.svc (s.extent e).service).profile.strict = false)

theorem searchReclaim_reclaimable {s : State} {e : Nat} (found : s.searchReclaim = some e) : s.reclaimable e := by
  unfold State.searchReclaim at found
  split at found
  · next x passed =>
    obtain rfl := Option.some.inj found
    have unheld := List.find?_some passed
    rw [Bool.and_eq_true, decide_eq_true_eq] at unheld
    exact ⟨List.mem_of_find?_eq_some passed, unheld.1, .inl unheld.2⟩
  · have unheld := List.find?_some found
    rw [Bool.and_eq_true, decide_eq_true_eq, Bool.not_eq_true'] at unheld
    exact ⟨List.mem_of_find?_eq_some found, unheld.1, .inr unheld.2⟩

/-- Of the extents that are not free only reclaimable ones change in what is read of them or join the free list; those
leave the completion order, and none that is DAMAGED joins. -/
structure ReclaimsOnly (s t : State) : Prop extends SameRetention s t where
  order : t.am.order ⊆ s.am.order
  kept : ∀ e, e ∉ s.am.free →
    ((t.extent e).retained = (s.extent e).retained ∧ e ∉ t.am.free) ∨
      (s.reclaimable e ∧ e ∉ t.am.order ∧ (e ∈ t.am.free → (s.extent e).state ≠ .damaged))

namespace ReclaimsOnly

variable {s t u : State}

/-- An operation that leaves the archive's tables. -/
theorem ofTables (same : SameRetention s t) (extents : t.am.extents = s.am.extents := by rfl)
    (free : t.am.free = s.am.free := by rfl) (order : t.am.order = s.am.order := by rfl) : ReclaimsOnly s t where
  toSameRetention := same
  order := by rw [order]; exact List.Subset.refl _
  kept e unlisted := .inl ⟨by rw [State.extent, extents]; rfl, by rw [free]; exact unlisted⟩

theorem refl (s : State) : ReclaimsOnly s s := .ofTables (.refl s)

theorem trans (h : ReclaimsOnly s t) (k : ReclaimsOnly t u) : ReclaimsOnly s u where
  toSameRetention := h.toSameRetention.trans k.toSameRetention
  order := List.Subset.trans k.order h.order
  kept e unlisted := by
    rcases h.kept e unlisted with ⟨same, unlisted'⟩ | ⟨taken, left, undamaged⟩
    · have state : (t.extent e).state = (s.extent e).state := congrArg Prod.fst same
      have service : (t.extent e).service = (s.extent e).service := congrArg (fun r => r.2.1) same
      rcases k.kept e unlisted' with ⟨same', free⟩ | ⟨⟨listed, unheld, due⟩, left, undamaged⟩
      · exact .inl ⟨same'.trans same, free⟩
      · refine .inr ⟨⟨h.order listed, (h.holdCount same).symm.trans unheld, ?_⟩, left,
          fun joins => state ▸ undamaged joins⟩
        rwa [h.passedRetention same, h.profile, service] at due
    · refine .inr ⟨taken, fun listed => left (k.order listed), fun joins => ?_⟩
      by_cases joined : e ∈ t.am.free
      · exact undamaged joined
      · rcases k.kept e joined with ⟨-, stays⟩ | ⟨again, -⟩
        · exact absurd joins stays
        · exact absurd again.1 left

end ReclaimsOnly

/-! ### Reclaim (R145, R146) -/

theorem reclaimExtent_only (e : Nat) (s : State) : ∃ am, reclaimExtent e s = { s with am := am } := by
  unfold reclaimExtent
  dsimp only
  split <;> exact ⟨_, rfl⟩

theorem reclaimExtent_order (e : Nat) (s : State) :
    (reclaimExtent e s).am.order = s.am.order.filter fun n => decide (n ≠ e) := by
  unfold reclaimExtent
  dsimp only
  split <;> rfl

/-- A reclaimed extent joins the tail of the free list unless it is DAMAGED (R146). -/
theorem reclaimExtent_free (e : Nat) (s : State) : (reclaimExtent e s).am.free =
    if (s.extent e).state = .damaged then s.am.free else s.am.free ++ [e] := by
  unfold reclaimExtent
  dsimp only
  split
  · next damaged => rw [if_pos damaged]; rfl
  · next undamaged => rw [if_neg undamaged]; rfl

theorem reclaimExtent_extent_other {s : State} (ok : s.tableOk) {e y : Nat} (other : y ≠ e) :
    (reclaimExtent e s).extent y = s.extent y := by
  unfold reclaimExtent
  dsimp only
  split
  all_goals exact tableGet_set_other _ _ _ other ok.rising

theorem reclaimExtent_holds (e : Nat) (s : State) : (reclaimExtent e s).am.holds = s.am.holds := by
  unfold reclaimExtent
  dsimp only
  split <;> rfl

theorem reclaimExtent_reclaims {s : State} (ok : s.tableOk) {e : Nat} (found : s.reclaimable e) :
    ReclaimsOnly s (reclaimExtent e s) := by
  obtain ⟨am, only⟩ := reclaimExtent_only e s
  have order := reclaimExtent_order e s
  refine { tb := by rw [only], holds := reclaimExtent_holds e s, inExport := fun x => by rw [only]; rfl,
           profile := fun i => by rw [only]; rfl, order := ?_, kept := fun y unlisted => ?_ }
  · rw [order]
    exact List.filter_subset_self _
  · rcases eq_or_ne y e with rfl | other
    · refine .inr ⟨found, by rw [order]; simp, fun joins damaged => unlisted ?_⟩
      rwa [reclaimExtent_free, if_pos damaged] at joins
    · refine .inl ⟨by rw [reclaimExtent_extent_other ok other], fun joins => ?_⟩
      rw [reclaimExtent_free] at joins
      split at joins
      · exact unlisted joins
      · rcases List.mem_append.mp joins with joins | joins
        · exact unlisted joins
        · exact other (List.mem_singleton.mp joins)

/-- What holds of every extent that a search finds, and of one after another, holds of a reclaim run. -/
theorem reclaimRun_induction {P : State → State → Prop} (refl : ∀ s, P s s) (trans : ∀ s t u, P s t → P t u → P s u)
    (one : ∀ s e, s.tableOk → s.reclaimable e → P s (reclaimExtent e s)) (goal fuel : Nat) {s : State} (ok : s.tableOk) :
    P s (reclaimRun goal fuel s) := by
  induction fuel generalizing s with
  | zero => exact refl s
  | succ fuel ih =>
    unfold reclaimRun
    split
    · exact refl s
    · split
      · exact refl s
      · next e found =>
        exact trans _ _ _ (one s e ok (searchReclaim_reclaimable found)) (ih ((KeepsAccounts.reclaimExtent e s).table ok))

theorem reclaimRun_reclaims (goal fuel : Nat) {s : State} (ok : s.tableOk) : ReclaimsOnly s (reclaimRun goal fuel s) :=
  reclaimRun_induction (P := ReclaimsOnly) .refl (fun _ _ _ h k => h.trans k) (fun _ _ ok => reclaimExtent_reclaims ok)
    goal fuel ok

/-- A reclaim changes the archive alone, no extent outside the completion order, and clears no dirty mark. -/
structure KeepsUnordered (s t : State) : Prop where
  only : ∃ am, t = { s with am := am }
  order : t.am.order ⊆ s.am.order
  extent : ∀ e, e ∉ s.am.order → t.extent e = s.extent e
  marks : KeepsMarks s t

theorem KeepsUnordered.refl (s : State) : KeepsUnordered s s :=
  ⟨⟨s.am, rfl⟩, List.Subset.refl _, fun _ _ => rfl, .refl s⟩

theorem KeepsUnordered.trans {s t u : State} (h : KeepsUnordered s t) (k : KeepsUnordered t u) : KeepsUnordered s u where
  only := by
    obtain ⟨_, rfl⟩ := h.only
    obtain ⟨am, rfl⟩ := k.only
    exact ⟨am, rfl⟩
  order := List.Subset.trans k.order h.order
  extent e unlisted := (k.extent e fun listed => unlisted (h.order listed)).trans (h.extent e unlisted)
  marks := h.marks.trans k.marks

theorem reclaimExtent_marks (e : Nat) (s : State) : KeepsMarks s (reclaimExtent e s) := by
  unfold reclaimExtent
  dsimp only
  split <;> exact KeepsMarks.markDirty (extentPage e) _

theorem reclaimRun_unordered (goal fuel : Nat) {s : State} (ok : s.tableOk) :
    KeepsUnordered s (reclaimRun goal fuel s) := by
  refine reclaimRun_induction (P := KeepsUnordered) .refl (fun _ _ _ h k => h.trans k) (fun s e ok found => ?_) goal fuel ok
  refine ⟨reclaimExtent_only e s, ?_, fun y unlisted => reclaimExtent_extent_other ok fun same => ?_,
    reclaimExtent_marks e s⟩
  · rw [reclaimExtent_order]
    exact List.filter_subset_self _
  · exact unlisted (same ▸ found.1)

/-- With no extent in the completion order a reclaim finds none. -/
theorem reclaim_nothing {s : State} (empty : s.am.order = []) (goal : Nat) : reclaim goal s = s := by
  rw [reclaim, empty]
  rfl

/-! ### Placement (R134, R141) -/

/-- An extent of the free list becomes FILLING for a service (R134). -/
def takeExtent (i e : Nat) (rest : List Nat) (s : State) : State :=
  ((s.modAm fun a => { a with free := rest }).setExtent e ⟨.filling, i, 0, none, 0, false⟩).markDirty (extentPage e)

/-- Below the low-water mark the free list is filled by a reclaim (R145). -/
def refill (s : State) : State := if s.am.free.length < s.am.lowWater then reclaim s.am.lowWater s else s

/-- With the free list empty a page that needs an extent first asks for a reclaim (R141, R145). -/
def State.withFree (s : State) : State := if s.am.free.isEmpty then reclaim 1 s else s

theorem placePage_filling {s : State} {i e : Nat} (filling : s.fillingExtent i = some e) :
    placePage i s = (s, some (e, (s.extent e).pages)) := by
  rw [placePage, filling]

theorem placePage_taken {s : State} {i e : Nat} {rest : List Nat} (none_filling : s.fillingExtent i = none)
    (free : s.withFree.am.free = e :: rest) : placePage i s = (refill (takeExtent i e rest s.withFree), some (e, 0)) := by
  unfold State.withFree at *
  simp only [placePage, none_filling, free]
  rfl

theorem placePage_full {s : State} {i : Nat} (none_filling : s.fillingExtent i = none) (full : s.withFree.am.free = []) :
    placePage i s = (s.withFree, none) := by
  unfold State.withFree at *
  simp only [placePage, none_filling, full]

theorem withFree_reclaims {s : State} (ok : s.tableOk) : ReclaimsOnly s s.withFree := by
  unfold State.withFree
  split
  · exact reclaimRun_reclaims _ _ ok
  · exact .refl s

theorem withFree_table {s : State} (ok : s.tableOk) : s.withFree.tableOk :=
  (KeepsAccounts.ite (.reclaimRun 1 s.am.order.length s) (.refl s) : KeepsAccounts s s.withFree).table ok

theorem takeExtent_table {s : State} (ok : s.tableOk) (i e : Nat) (rest : List Nat) : (takeExtent i e rest s).tableOk :=
  (KeepsAccounts.setExtent (s.modAm fun a => { a with free := rest }) e _).table ok

theorem takeExtent_extent_same {s : State} (ok : s.tableOk) (i e : Nat) (rest : List Nat) :
    (takeExtent i e rest s).extent e = ⟨.filling, i, 0, none, 0, false⟩ :=
  tableGet_set_same _ _ e _ ok.rising

theorem takeExtent_extent_other {s : State} (ok : s.tableOk) (i : Nat) (rest : List Nat) {e y : Nat} (other : y ≠ e) :
    (takeExtent i e rest s).extent y = s.extent y :=
  tableGet_set_other _ _ _ other ok.rising

theorem takeExtent_reclaims {s : State} (ok : s.tableOk) {i e : Nat} {rest : List Nat} (free : s.am.free = e :: rest) :
    ReclaimsOnly s (takeExtent i e rest s) where
  tb := rfl
  holds := rfl
  inExport _ := rfl
  profile _ := rfl
  order := List.Subset.refl _
  kept y unlisted := by
    rw [free, List.mem_cons, not_or] at unlisted
    exact .inl ⟨congrArg Extent.retained (takeExtent_extent_other ok i rest unlisted.1), unlisted.2⟩

theorem refill_reclaims {s : State} (ok : s.tableOk) : ReclaimsOnly s (refill s) := by
  unfold refill
  split
  · exact reclaimRun_reclaims _ _ ok
  · exact .refl s

theorem refill_table {s : State} (ok : s.tableOk) : (refill s).tableOk :=
  (KeepsAccounts.ite (.reclaimRun s.am.lowWater s.am.order.length s) (.refl s) : KeepsAccounts s (refill s)).table ok

theorem refill_unordered {s : State} (ok : s.tableOk) : KeepsUnordered s (refill s) := by
  unfold refill
  split
  · exact reclaimRun_unordered _ _ ok
  · exact .refl s

/-- On the way to a place for a page only reclaimable extents are taken (R141). -/
theorem placePage_reclaims {s : State} (ok : s.tableOk) (i : Nat) : ReclaimsOnly s (placePage i s).1 := by
  cases filling : s.fillingExtent i with
  | some e => rw [placePage_filling filling]; exact .refl s
  | none =>
    have readied := withFree_reclaims ok
    cases free : s.withFree.am.free with
    | nil => rw [placePage_full filling free]; exact readied
    | cons e rest =>
      rw [placePage_taken filling free]
      exact (readied.trans (takeExtent_reclaims (withFree_table ok) free)).trans
        (refill_reclaims (takeExtent_table (withFree_table ok) i e rest))

/-! ### Losses to a full archive (R137, R141) -/

theorem issueLoss_within (i : Nat) (cause : GapCause) (s : State) :
    WithinService Service.besideUnits i s (issueLoss i cause s) :=
  (modRc_within i s _).trans (recordLoss_within i _ _ _)

/-- What an update of a Recorder keeps of it reads back. -/
theorem State.modRc_svc_keeps {α : Type} (g : Recorder → α) (s : State) (i j : Nat) {f : Recorder → Recorder}
    (h : ∀ r, g (f r) = g r) : g ((s.modRc i f).svc j).rc = g (s.svc j).rc :=
  State.modSvc_svc_keeps (fun v => g v.rc) s i j fun v => h v.rc

theorem recordLoss_ee (i : Nat) (cause : GapCause) (opened : GapRecord) (s : State) :
    (recordLoss i cause opened s).ee = s.ee := by
  unfold recordLoss
  split
  · exact (openCond_only _ _ _ _ s).ee
  · rfl

theorem issueLoss_ee (i : Nat) (cause : GapCause) (s : State) : (issueLoss i cause s).ee = s.ee :=
  recordLoss_ee i cause .placement (s.modRc i _)

theorem issueLoss_sameRetention (i : Nat) (cause : GapCause) (s : State) : SameRetention s (issueLoss i cause s) := by
  have within := issueLoss_within i cause s
  refine ⟨within.tb, congrArg Archive.holds within.am, fun e => by rw [State.inExport, issueLoss_ee]; rfl, fun j => ?_⟩
  rcases eq_or_ne j i with rfl | other
  · exact congrArg Prod.fst within.kept
  · exact congrArg Service.profile (within.others j other)

theorem issueLoss_reclaims (i : Nat) (cause : GapCause) (s : State) : ReclaimsOnly s (issueLoss i cause s) :=
  have am := (issueLoss_within i cause s).am
  .ofTables (issueLoss_sameRetention i cause s) (congrArg Archive.extents am) (congrArg Archive.free am)
    (congrArg Archive.order am)

/-- The service's issue loss mark takes the cause unless it is set (R137). -/
theorem issueLoss_mark {i : Nat} {s : State} (there : i < s.services.length) (cause : GapCause) :
    ((issueLoss i cause s).svc i).rc.issueMark = (s.svc i).rc.issueMark.or (some cause) := by
  have marked (t : State) : ((recordLoss i cause .placement t).svc i).rc.issueMark = (t.svc i).rc.issueMark := by
    unfold recordLoss
    split
    · refine (State.modRc_svc_keeps Recorder.issueMark _ i i (by exact fun _ => rfl)).trans ?_
      rw [State.svc, (openCond_only _ _ _ _ t).services]
      rfl
    · rfl
  rw [issueLoss, marked, State.modRc, State.modSvc_svc_same _ _ _ there]

/-- With a gap record that is not CLOSED a loss takes no entry (R138). -/
theorem issueLoss_open {i : Nat} {s : State} (open_gap : (s.svc i).rc.gapRecord ≠ .closed) (cause : GapCause) :
    issueLoss i cause s = s.modRc i fun r => { r with issueMark := r.issueMark.or (some cause) } := by
  rw [issueLoss, recordLoss, if_neg]
  intro due
  refine open_gap (Eq.trans (Eq.symm ?_) due.2)
  exact State.modRc_svc_keeps Recorder.gapRecord s i i (by exact fun _ => rfl)

/-! ### The grant of a page (R140, R141) -/

theorem grantFirst_placed {s t : State} {b : Buffer} {rest : List Buffer} {e page : Nat} (clean : s.am.dirty = [])
    (request : s.logRequest = false) (queue : s.writeQueue = b :: rest)
    (placed : placePage b.service (s.modQueue fun _ => rest) = (t, some (e, page))) (fuel : Nat) :
    grantFirst (fuel + 1) s = grantRecorded b e page t := by
  rw [grantFirst, clean]
  simp only [request, Bool.false_eq_true, if_false, queue, placed]

/-- A page that finds no room is discarded, and the port grants again. -/
theorem grantFirst_discarded {s t : State} {b : Buffer} {rest : List Buffer} (clean : s.am.dirty = [])
    (request : s.logRequest = false) (queue : s.writeQueue = b :: rest)
    (full : placePage b.service (s.modQueue fun _ => rest) = (t, none)) (fuel : Nat) :
    grantFirst (fuel + 1) s = grantFirst fuel (issueLoss b.service .archiveFull t) := by
  rw [grantFirst, clean]
  simp only [request, Bool.false_eq_true, if_false, queue, full]

/-- With no page queued and no list being sent the port grants the log page buffer or nothing. -/
theorem grantFirst_idle {s : State} (clean : s.am.dirty = []) (queue : s.writeQueue = []) (idle : s.ee.current = none)
    (fuel : Nat) : grantFirst (fuel + 1) s = if s.logRequest then grantLog s else s := by
  rw [grantFirst, clean]
  simp only [queue, idle]

theorem grantRecorded_extent_same {s : State} (ok : s.tableOk) (b : Buffer) (e page : Nat) :
    (grantRecorded b e page s).extent e =
      { s.extent e with gapInside := (b.gap.or (s.svc b.service).rc.issueMark).isSome || (s.extent e).gapInside } := by
  unfold grantRecorded
  dsimp only
  split
  · next gap => rw [gap, Bool.true_or]; exact State.setExtent_extent_same (s := s.modRc _ _) ok _ _
  · next clear => rw [Bool.eq_false_iff.mpr clear, Bool.false_or]; rfl

theorem grantRecorded_extent_other {s : State} (ok : s.tableOk) (b : Buffer) {e y : Nat} (page : Nat) (other : y ≠ e) :
    (grantRecorded b e page s).extent y = s.extent y := by
  unfold grantRecorded
  dsimp only
  split
  · exact State.setExtent_extent_other (s := s.modRc _ _) ok _ other
  · rfl

/-- Beside the gap-inside flag of the page's extent a grant leaves the tables (R141). -/
theorem grantRecorded_reclaims {s : State} (ok : s.tableOk) (b : Buffer) (e page : Nat) :
    ReclaimsOnly s (grantRecorded b e page s) := by
  have retained (y : Nat) : ((grantRecorded b e page s).extent y).retained = (s.extent y).retained := by
    rcases eq_or_ne y e with rfl | other
    · rw [grantRecorded_extent_same ok]; rfl
    · rw [grantRecorded_extent_other ok b page other]
  have cleared (i : Nat) : ((grantRecorded b e page s).svc i).profile = (s.svc i).profile := by
    unfold grantRecorded
    dsimp only
    split
    all_goals exact State.modSvc_svc_keeps Service.profile s b.service i fun _ => rfl
  have tables : (grantRecorded b e page s).am.order = s.am.order ∧ (grantRecorded b e page s).am.free = s.am.free ∧
      (grantRecorded b e page s).am.holds = s.am.holds ∧ (grantRecorded b e page s).tb = s.tb ∧
      (grantRecorded b e page s).ee = s.ee := by
    unfold grantRecorded
    dsimp only
    split <;> exact ⟨rfl, rfl, rfl, rfl, rfl⟩
  obtain ⟨order, free, holds, tb, ee⟩ := tables
  refine { tb, holds, inExport := fun y => by rw [State.inExport, ee]; rfl, profile := cleared,
           order := by rw [order]; exact List.Subset.refl _,
           kept := fun y unlisted => .inl ⟨retained y, by rw [free]; exact unlisted⟩ }

/-- The start of the next read for EE leaves its list (R166). -/
theorem grantExport_reclaims {s : State} {x : Export} (current : s.ee.current = some x) :
    ReclaimsOnly s (grantExport x s) :=
  .ofTables ⟨rfl, rfl, fun e => by simp [State.inExport, grantExport, startOperation, current], fun _ => rfl⟩

/-- Whatever the port grants, only reclaimable extents are taken on the way (R140, R141). -/
theorem grantFirst_reclaims (fuel : Nat) {s : State} (ok : s.tableOk) : ReclaimsOnly s (grantFirst fuel s) := by
  induction fuel generalizing s with
  | zero => exact .refl s
  | succ fuel ih =>
    unfold grantFirst
    split
    · exact .ofTables ⟨rfl, rfl, fun _ => rfl, fun _ => rfl⟩
    · split
      · exact .ofTables ⟨rfl, rfl, fun _ => rfl, fun _ => rfl⟩
      · split
        · next b rest _ =>
          have dequeued : ReclaimsOnly s (s.modQueue fun _ => rest) := .ofTables ⟨rfl, rfl, fun _ => rfl, fun _ => rfl⟩
          have placed := dequeued.trans (placePage_reclaims (s := s.modQueue fun _ => rest) ok b.service)
          have table := (KeepsAccounts.placePage b.service (s.modQueue fun _ => rest)).table ok
          split
          · next placing =>
            rw [placing] at placed table
            exact placed.trans (grantRecorded_reclaims table b _ _)
          · next placing =>
            rw [placing] at placed table
            exact (placed.trans (issueLoss_reclaims _ _ _)).trans
              (ih ((KeepsAccounts.issueLoss _ _ _).table table))
        · split
          · next current =>
            split
            · exact grantExport_reclaims current
            · exact .refl s
          · exact .refl s

/-! ### The obligation -/

/-- The grant's event: its rule, in a part whose exhausted mark alone may have been set, and the event's end. -/
theorem exec_spGrant_rule {s : State} (may : s.mayGrant = true) : ∃ x, exec .spGrant s =
    .next (settle (grantFirst (s.writeQueue.length + 2) (s.modCl fun c => { c with exhausted := x }))) := by
  obtain ⟨x, reserved⟩ := logReserve_eq (entriesOf (grantFirst (s.writeQueue.length + 2)) s) s
  exact ⟨x, by rw [exec_spGrant may, grantNext, grouped, reserved]⟩

/-- Of the extents that were not free, those FILLING or held keep their state, and only reclaimed ones join the free
list. -/
theorem grant_keepsHeld {s : State}
    (ordered : ∀ x ∈ s.am.order, (s.extent x).state = .complete ∨ (s.extent x).state = .damaged) {t : State}
    (reclaims : ReclaimsOnly s t) :
    (∀ x, x ∉ s.am.free → (s.extent x).state = .filling ∨ 0 < s.holdCount x →
      (t.extent x).state = (s.extent x).state ∧ x ∉ t.am.free) ∧
    (∀ x, x ∉ s.am.free → x ∈ t.am.free → x ∈ s.am.order ∧ (s.extent x).state = .complete ∧ s.holdCount x = 0 ∧
      (s.passedRetention (s.extent x) = true ∨ (s.svc (s.extent x).service).profile.strict = false)) := by
  refine ⟨fun x unlisted kept => ?_, fun x unlisted joins => ?_⟩
  · rcases reclaims.kept x unlisted with ⟨same, free⟩ | ⟨⟨listed, unheld, -⟩, -⟩
    · exact ⟨congrArg Prod.fst same, free⟩
    · rcases kept with filling | held
      · rcases ordered x listed with state | state <;> exact absurd (filling.symm.trans state) (by decide)
      · exact absurd unheld held.ne'
  · rcases reclaims.kept x unlisted with ⟨-, stays⟩ | ⟨⟨listed, unheld, due⟩, -, undamaged⟩
    · exact absurd joins stays
    · exact ⟨listed, (ordered x listed).resolve_right (undamaged joins), unheld, due⟩

theorem withFree_eq {s : State} {e : Nat} {free : List Nat} (listed : s.am.free = e :: free) : s.withFree = s := by
  rw [State.withFree, listed]
  rfl

/-- A page whose service has no FILLING extent goes to the head of the free list, as its page 0 (R134, R141). -/
theorem grantFirst_takes {s : State} {b : Buffer} {rest : List Buffer} {e : Nat} {free : List Nat} (ok : s.tableOk)
    (clean : s.am.dirty = []) (request : s.logRequest = false) (queue : s.writeQueue = b :: rest)
    (none_filling : s.fillingExtent b.service = none) (listed : s.am.free = e :: free) (unordered : e ∉ s.am.order)
    (fuel : Nat) :
    let gap := b.gap.or (s.svc b.service).rc.issueMark
    let t := grantFirst (fuel + 1) s
    t.writeQueue = rest ∧
      t.sp = { s.sp with operation := some (.recorded e 0 { b with gap := gap }), grantTick := s.tb.stationTime } ∧
      t.extent e = ⟨.filling, b.service, 0, none, 0, gap.isSome⟩ ∧ extentPage e ∈ t.am.dirty := by
  have taken := takeExtent_table (s := s.modQueue fun _ => rest) ok b.service e free
  have placed : placePage b.service (s.modQueue fun _ => rest) =
      (refill (takeExtent b.service e free (s.modQueue fun _ => rest)), some (e, 0)) := by
    have ready := withFree_eq (s := s.modQueue fun _ => rest) listed
    have placing := placePage_taken (s := s.modQueue fun _ => rest) (rest := free) none_filling
      (by rw [ready]; exact listed)
    rwa [ready] at placing
  obtain ⟨⟨am, only⟩, -, extent, marks⟩ := refill_unordered taken
  have record := (extent e unordered).trans (takeExtent_extent_same (s := s.modQueue fun _ => rest) ok b.service e free)
  have written := grantRecorded_extent_same (refill_table taken) b e 0
  have marked := marks (markDirty_mem (extentPage e) _)
  obtain ⟨services, extents, starts⟩ := grantRecorded_starts b e 0
    (refill (takeExtent b.service e free (s.modQueue fun _ => rest)))
  dsimp only
  rw [grantFirst_placed clean request queue placed]
  refine ⟨?_, ?_, ?_, ?_⟩
  · rw [starts, only]; rfl
  · rw [starts, only]; rfl
  · rw [written, record, only, Bool.or_false]; rfl
  · rw [starts]; exact marked

/-- With no extent free and none to reclaim the page is discarded as an issue loss, and the port may then grant the log
page buffer with the loss's entry (R137, R141). -/
theorem grantFirst_full {s : State} {b : Buffer} (clean : s.am.dirty = []) (request : s.logRequest = false)
    (queue : s.writeQueue = [b]) (none_filling : s.fillingExtent b.service = none) (noFree : s.am.free = [])
    (noOrder : s.am.order = []) (idle : s.ee.current = none) (fuel : Nat) :
    let lost := issueLoss b.service .archiveFull (s.modQueue fun _ => [])
    grantFirst (fuel + 2) s = if lost.logRequest then grantLog lost else lost := by
  have ready : (s.modQueue fun _ => []).withFree = s.modQueue fun _ => [] := by
    rw [State.withFree, reclaim_nothing (by exact noOrder), ite_self]
  have full := placePage_full (s := s.modQueue fun _ => []) none_filling (by rw [ready]; exact noFree)
  rw [ready] at full
  have within := issueLoss_within b.service .archiveFull (s.modQueue fun _ => [])
  dsimp only
  rw [grantFirst_discarded clean request queue full]
  have stays : (issueLoss b.service .archiveFull (s.modQueue fun _ => [])).am.dirty = [] :=
    (congrArg Archive.dirty within.am).trans clean
  exact grantFirst_idle stays (KeepsStaging.issueLoss _ _ _).writeQueue
    ((congrArg ExportEngine.current (issueLoss_ee _ _ _)).trans idle) fuel

/-- What a discard leaves, whether or not the log page buffer is granted after it. -/
theorem grantFirst_full_leaves {s : State} {b : Buffer} (clean : s.am.dirty = []) (request : s.logRequest = false)
    (queue : s.writeQueue = [b]) (none_filling : s.fillingExtent b.service = none) (noFree : s.am.free = [])
    (noOrder : s.am.order = []) (idle : s.ee.current = none) (there : b.service < s.services.length) (fuel : Nat) :
    let t := grantFirst (fuel + 2) s
    t.writeQueue = [] ∧ t.am.extents = s.am.extents ∧ ((s.svc b.service).rc.gapRecord ≠ .closed → t.sp = s.sp) ∧
      (t.svc b.service).rc.issueMark = (s.svc b.service).rc.issueMark.or (some .archiveFull) := by
  have within := issueLoss_within b.service .archiveFull (s.modQueue fun _ => [])
  have staged := KeepsStaging.issueLoss b.service .archiveFull (s.modQueue fun _ => [])
  have mark := issueLoss_mark (s := s.modQueue fun _ => []) there .archiveFull
  have silent (open_gap : (s.svc b.service).rc.gapRecord ≠ .closed) :
      (issueLoss b.service .archiveFull (s.modQueue fun _ => [])).logRequest = false := by
    rw [issueLoss_open (s := s.modQueue fun _ => []) open_gap]
    exact request
  dsimp only
  rw [grantFirst_full clean request queue none_filling noFree noOrder idle]
  refine ⟨?_, ?_, fun open_gap => ?_, ?_⟩
  · split <;> exact staged.writeQueue
  · split <;> exact congrArg Archive.extents within.am
  · rw [silent open_gap, if_neg Bool.false_ne_true]
    exact staged.sp
  · split <;> exact mark

/-- Settles O23: the invariant of reclaims along the grant's rule, the placement in the head of the free list, and the
discard; the end of the event leaves the extents, the port and the services. -/
theorem placementReclaimsOnlyUnheldExtents : Obligations.PlacementReclaimsOnlyUnheldExtents := by
  unfold Obligations.PlacementReclaimsOnlyUnheldExtents
  intro s b rest may _ clean request queue ok ordered
  obtain ⟨x, runs⟩ := exec_spGrant_rule may
  have same := settle_same (grantFirst (s.writeQueue.length + 2) (s.modCl fun c => { c with exhausted := x }))
  refine ⟨⟨_, runs, ?_⟩, fun none_filling => ⟨fun e free listed _ unordered => ⟨_, runs, ?_⟩,
    fun noFree noOrder last idle there => ⟨_, runs, ?_⟩⟩⟩
  · have reserved : ReclaimsOnly s (s.modCl fun c => { c with exhausted := x }) :=
      .ofTables ⟨rfl, rfl, fun _ => rfl, fun _ => rfl⟩
    simp only [same.extent, same.freeList]
    exact grant_keepsHeld ordered (reserved.trans (grantFirst_reclaims _ (by exact ok)))
  · obtain ⟨writeQueue, sp, extent, dirty⟩ := grantFirst_takes (s := s.modCl fun c => { c with exhausted := x }) ok
      clean request queue none_filling listed unordered (s.writeQueue.length + 1)
    exact ⟨same.writeQueue.trans writeQueue, same.sp.trans sp, (same.extent e).trans extent, KeepsMarks.settle _ dirty⟩
  · obtain ⟨writeQueue, extents, sp, mark⟩ := grantFirst_full_leaves (s := s.modCl fun c => { c with exhausted := x })
      clean request (last ▸ queue) none_filling noFree noOrder idle there s.writeQueue.length
    refine ⟨same.writeQueue.trans writeQueue, same.extents.trans extents,
      fun open_gap => same.sp.trans (sp open_gap), ?_⟩
    rw [settle_svc]
    exact mark

end Sys2Proof.Machine
end

section
/-! SUPPORT. What a PAYLOAD unit leaves of its service's recorder and of the write queue, with its obligation (R135 to
R138). -/

namespace Sys2Proof.Machine

/-! ### The recorder of one service and the write queue -/

/-- How many elements meet a test after one of them has changed. -/
theorem countP_modify {α : Type} (p : α → Bool) (f : α → α) {l : List α} {i : Nat} (there : i < l.length) :
    (l.modify i f).countP p + (p l[i]).toNat = l.countP p + (p (f l[i])).toNat := by
  induction l generalizing i with
  | nil => exact absurd there (Nat.not_lt_zero i)
  | cons a l ih =>
    cases i with
    | zero =>
      rw [List.modify_zero_cons, List.countP_cons, List.countP_cons, List.getElem_cons_zero, Bool.toNat, Bool.toNat]
      simp only [Bool.cond_eq_ite]
      omega
    | succ i =>
      have rest := ih (Nat.lt_of_succ_lt_succ there)
      rw [List.modify_succ_cons, List.countP_cons, List.countP_cons, List.getElem_cons_succ]
      omega

/-- Service `i`'s recorder becomes `rc` and `added` joins the tail of the write queue; the other services, the other
blocks of this one, TB and SP stand. -/
structure Staged (i : Nat) (rc : Recorder) (added : List Buffer) (s t : State) : Prop where
  services : t.services = (s.modRc i fun _ => rc).services
  writeQueue : t.writeQueue = s.writeQueue ++ added
  part : t.part = s.part
  tb : t.tb = s.tb
  sp : t.sp = s.sp
  boot : t.cl.boot = s.cl.boot

namespace Staged

variable {i : Nat} {rc rc' : Recorder} {added added' : List Buffer} {s t u : State}

theorem trans (h : Staged i rc added s t) (k : Staged i rc' added' t u) : Staged i rc' (added ++ added') s u where
  services := by
    rw [k.services, State.modRc, State.modSvc_services, h.services, State.modRc, State.modSvc_services,
      List.modify_modify_eq]
    rfl
  writeQueue := by rw [k.writeQueue, h.writeQueue, List.append_assoc]
  part := k.part.trans h.part
  tb := k.tb.trans h.tb
  sp := k.sp.trans h.sp
  boot := k.boot.trans h.boot

/-- What the end of an event leaves. -/
theorem same (h : Staged i rc added s t) (k : SameCore t u) : Staged i rc added s u :=
  ⟨k.services.trans h.services, k.writeQueue.trans h.writeQueue, k.part.trans h.part, k.tb.trans h.tb, k.sp.trans h.sp,
    k.boot.trans h.boot⟩

/-- An update of the recorder of a service that reads as `r`. -/
theorem modRc {r : Recorder} {f : Recorder → Recorder} (was : (s.svc i).rc = r) (becomes : f r = rc) :
    Staged i rc [] s (s.modRc i f) :=
  ⟨congrArg State.services (State.modSvc_congr (by rw [was, becomes])), (List.append_nil _).symm, rfl, rfl, rfl, rfl⟩

/-- An update after an operation of the log and the condition table. -/
theorem afterLog {r : Recorder} {f : Recorder → Recorder} (h : OnlyLog s t) (was : (s.svc i).rc = r)
    (becomes : f r = rc) : Staged i rc [] s (t.modRc i f) where
  services := (congrArg (List.modify · i _) h.services).trans (modRc was becomes).services
  writeQueue := h.writeQueue.trans (List.append_nil _).symm
  part := h.part
  tb := h.tb
  sp := h.sp
  boot := h.boot

theorem refl {r : Recorder} (was : (s.svc i).rc = r) : Staged i r [] s s :=
  ⟨(congrArg State.services (State.modSvc_eq_self (f := fun v => { v with rc := r }) (by rw [← was]))).symm,
    (List.append_nil _).symm, rfl, rfl, rfl, rfl⟩

theorem svc (h : Staged i rc added s t) (j : Nat) : t.svc j = (s.modRc i fun _ => rc).svc j := by
  rw [State.svc, h.services]
  rfl

theorem length (h : Staged i rc added s t) : t.services.length = s.services.length := by
  rw [h.services]
  exact List.length_modify ..

theorem others (h : Staged i rc added s t) {j : Nat} (other : j ≠ i) : t.svc j = s.svc j :=
  (h.svc j).trans (State.modSvc_svc_other _ _ other.symm)

theorem rc_eq (h : Staged i rc added s t) (there : i < s.services.length) : (t.svc i).rc = rc := by
  rw [h.svc, State.modRc, State.modSvc_svc_same _ _ _ there]

theorem profile (h : Staged i rc added s t) : (t.svc i).profile = (s.svc i).profile := by
  rw [h.svc]
  exact State.modSvc_svc_keeps Service.profile s i i fun _ => rfl

theorem wallNow (h : Staged i rc added s t) : t.wallNow = s.wallNow := by
  rw [State.wallNow, State.now, h.tb]
  rfl

/-- The buffers in use follow the filling buffer and the write queue (section 8.3). -/
theorem buffersInUse (h : Staged i rc added s t) (there : i < s.services.length) :
    t.buffersInUse + (s.svc i).rc.filling.isSome.toNat = s.buffersInUse + rc.filling.isSome.toNat + added.length := by
  have filling := countP_modify (fun v : Service => v.rc.filling.isSome) (fun v => { v with rc := rc }) there
  have was : s.services[i] = s.svc i := by simp [State.svc, List.getD_eq_getElem?_getD, there]
  rw [was] at filling
  dsimp only at filling
  simp only [State.buffersInUse, ← List.countP_eq_length_filter, h.writeQueue, List.length_append, h.sp, h.services,
    State.modRc, State.modSvc_services]
  omega

end Staged

/-! ### RC's operations (R135 to R138) -/

section Operations

variable {i : Nat} {s : State} {r : Recorder}

/-- The filling buffer joins the write queue (R135, R136). -/
theorem queueFilling_staged (was : (s.svc i).rc = r) :
    Staged i { r with filling := none } r.filling.toList s (queueFilling i false s) := by
  unfold queueFilling
  rw [was]
  split
  · next empty =>
    rw [empty]
    have stands : ({ r with filling := none } : Recorder) = r := by rw [← empty]
    rw [stands]
    exact .refl was
  · next b filling =>
    have emptied := Staged.modRc (f := fun r => { r with filling := none }) was rfl
    refine { emptied with writeQueue := ?_ }
    rw [filling, Option.toList_some, Bool.or_false]
    rfl

theorem queueFilling_cu (s : State) : (queueFilling i false s).cu = s.cu := by
  unfold queueFilling
  split <;> rfl

/-- The gap record after an intake loss in RUN (R138). -/
def GapRecord.lost (g : GapRecord) : GapRecord := if g = .closed then .intake else g

/-- The gap record once bytes are taken (R138). -/
def GapRecord.resumed (g : GapRecord) : GapRecord := if g = .intake then .closed else g

theorem GapRecord.lost_ne (g : GapRecord) : g.lost ≠ .closed := by cases g <;> decide

/-- An intake loss in RUN sets the mark unless it is set, and a CLOSED gap record becomes INTAKE (R137, R138). -/
theorem intakeLoss_staged (was : (s.svc i).rc = r) (there : i < s.services.length) (run : s.part.state = .run)
    (cause : GapCause) :
    Staged i { r with intakeMark := r.intakeMark.or (some cause), gapRecord := r.gapRecord.lost } [] s
      (intakeLoss i cause s) := by
  have marked := Staged.modRc (f := fun r => { r with intakeMark := r.intakeMark.or (some cause) }) was rfl
  have reads := marked.rc_eq there
  unfold intakeLoss recordLoss
  split
  · next due =>
    rw [reads] at due
    have lost : r.gapRecord.lost = .intake := if_pos due.2
    rw [lost]
    exact marked.trans (.afterLog (openCond_only _ _ _ _ _) reads rfl)
  · next stays =>
    have lost : r.gapRecord.lost = r.gapRecord := if_neg fun closed => stays ⟨run, by rw [reads]; exact closed⟩
    rw [lost]
    exact marked

/-- A loss with the gap record CLOSED opens RECORD_GAP (R138). -/
theorem intakeLoss_opens (run : s.part.state = .run) (enabled : (s.svc i).profile.enabled = true)
    (closed : (s.svc i).rc.gapRecord = .closed) (cause : GapCause) :
    (intakeLoss i cause s).isOpen (some i) .recordGap none = true := by
  unfold intakeLoss recordLoss
  rw [if_pos]
  · refine openCond_isOpen_same _ _ _ _ _ (Eq.trans ?_ enabled)
    exact State.modSvc_svc_keeps (fun v => v.profile.enabled) s i i fun _ => rfl
  · exact ⟨run, (State.modRc_svc_keeps Recorder.gapRecord s i i (by exact fun _ => rfl)).trans closed⟩

theorem resumeRecording_staged (was : (s.svc i).rc = r) :
    Staged i { r with gapRecord := r.gapRecord.resumed } [] s (resumeRecording i .intake s) := by
  unfold resumeRecording
  rw [was]
  split
  · next lost =>
    have resumed : r.gapRecord.resumed = .closed := if_pos lost
    rw [resumed]
    exact .afterLog (closeCond_only _ _ _ _ s) was rfl
  · next stays =>
    have resumed : r.gapRecord.resumed = r.gapRecord := if_neg stays
    rw [resumed]
    exact .refl was

/-- Recording that resumes closes RECORD_GAP (R138). -/
theorem resumeRecording_closes (lost : (s.svc i).rc.gapRecord = .intake) :
    (resumeRecording i .intake s).isOpen (some i) .recordGap none = false := by
  rw [resumeRecording, if_pos lost]
  exact closeCond_isOpen_same _ _ _ _ _

/-- A buffer with bytes more, the last of them taken at a wall time (R136). -/
def Buffer.taking (b : Buffer) (bytes : List Byte) (wall : Option WallStamp) : Buffer :=
  { b with payload := b.payload ++ bytes, lastWall := wall }

/-- Bytes that leave room stay in the filling buffer (R136). -/
theorem appendBytes_fills {b : Buffer} (was : (s.svc i).rc = r) (filling : r.filling = some b) {bytes : List Byte}
    (room : b.payload.length + bytes.length < 65472) :
    Staged i { r with filling := some (b.taking bytes s.wallNow) } [] s (appendBytes i bytes s) := by
  unfold appendBytes
  rw [was, filling]
  dsimp only
  rw [if_neg]
  · exact .modRc was rfl
  · rw [List.length_append]
    exact Nat.not_le.mpr room

/-- Bytes that fill the buffer send it to the write queue (R136). -/
theorem appendBytes_full {b : Buffer} (was : (s.svc i).rc = r) (filling : r.filling = some b)
    (there : i < s.services.length) {bytes : List Byte} (full : 65472 ≤ b.payload.length + bytes.length) :
    Staged i { r with filling := none } [b.taking bytes s.wallNow] s (appendBytes i bytes s) := by
  unfold appendBytes
  rw [was, filling]
  dsimp only
  rw [if_pos (by rw [List.length_append]; exact full)]
  have appended := Staged.modRc (f := fun r => { r with filling := some (b.taking bytes s.wallNow) }) was rfl
  exact appended.trans (queueFilling_staged (appended.rc_eq there))

theorem appendBytes_cu (bytes : List Byte) (s : State) : (appendBytes i bytes s).cu = s.cu := by
  unfold appendBytes
  split
  · rfl
  · dsimp only
    split
    · exact queueFilling_cu _
    · rfl

theorem beginBuffer_free (free : 0 < s.freeBuffers) : beginBuffer i s =
    some (s.modRc i fun r => { r with filling := some (s.newBuffer i), intakeMark := none }) :=
  if_neg free.ne'

theorem beginBuffer_none (short : s.freeBuffers = 0) : beginBuffer i s = none := if_pos short

end Operations

/-! ### The staging of a unit's bytes (R136, R138) -/

section Staging

variable {i : Nat} {s : State}

/-- The filling buffer of a service, or the one begun for it now (R136). -/
def State.stagingBuffer (s : State) (i : Nat) : Buffer := (s.svc i).rc.filling.getD (s.newBuffer i)

/-- The bytes that buffer still takes. -/
def State.stagingRoom (s : State) (i : Nat) : Nat := 65472 - (s.stagingBuffer i).payload.length

/-- The service's intake loss mark once it has a filling buffer: one begun now has taken it (R136, R137). -/
def State.stagingMark (s : State) (i : Nat) : Option GapCause :=
  if (s.svc i).rc.filling = none then none else (s.svc i).rc.intakeMark

/-- The service with a filling buffer. -/
def readied (i : Nat) (s : State) : State :=
  if (s.svc i).rc.filling.isSome then s
  else s.modRc i fun r => { r with filling := some (s.newBuffer i), intakeMark := none }

theorem readied_staged : Staged i { (s.svc i).rc with filling := some (s.stagingBuffer i), intakeMark := s.stagingMark i }
    [] s (readied i s) := by
  unfold readied State.stagingBuffer State.stagingMark
  cases filling : (s.svc i).rc.filling with
  | none =>
    simp only [Option.isSome_none, Bool.false_eq_true, if_false, Option.getD_none, if_true]
    exact .modRc rfl rfl
  | some b =>
    simp only [Option.isSome_some, if_true, Option.getD_some, reduceCtorEq, if_false]
    exact .refl (by rw [← filling])

theorem beginBuffer_readied (ready : (s.svc i).rc.filling ≠ none ∨ 0 < s.freeBuffers) :
    (if (s.svc i).rc.filling.isSome then some s else beginBuffer i s) = some (readied i s) := by
  unfold readied
  split
  · rfl
  · next empty =>
    exact beginBuffer_free (ready.resolve_left fun filled => empty (Option.isSome_iff_ne_none.mpr filled))

/-- The bytes that fit have joined the buffer (R136). -/
def appendFitting (i : Nat) (bytes : List Byte) (s : State) : State :=
  appendBytes i (bytes.take (s.stagingRoom i)) (readied i s)

/-- The bytes that fit are taken, and recording has resumed (R136, R138). -/
def takeFitting (i : Nat) (bytes : List Byte) (s : State) : State := resumeRecording i .intake (appendFitting i bytes s)

/-- The buffer with the bytes that fit. -/
def State.stagedBuffer (s : State) (i : Nat) (bytes : List Byte) : Buffer :=
  (s.stagingBuffer i).taking (bytes.take (s.stagingRoom i)) s.wallNow

theorem stageBytes_ready (there : i < s.services.length) (ready : (s.svc i).rc.filling ≠ none ∨ 0 < s.freeBuffers)
    (bytes : List Byte) (shortage : GapCause) :
    stageBytes i bytes shortage s = takeRest i (bytes.drop (s.stagingRoom i)) shortage (takeFitting i bytes s) := by
  have room : (readied i s).fillingRoom i = s.stagingRoom i := by
    rw [State.fillingRoom, readied_staged.rc_eq there]
    rfl
  rw [stageBytes, beginBuffer_readied ready]
  dsimp only
  rw [room]
  rfl

/-- With no buffer free and none filling the bytes are an intake loss (R136). -/
theorem stageBytes_short (empty : (s.svc i).rc.filling = none) (short : s.freeBuffers = 0) (bytes : List Byte)
    (shortage : GapCause) : stageBytes i bytes shortage s = intakeLoss i shortage s := by
  rw [stageBytes, empty, Option.isSome_none, if_neg Bool.false_ne_true, beginBuffer_none short]

/-- The service's recorder once the bytes that fit have joined the buffer, with the buffer that is then filling. -/
def State.appendedRc (s : State) (i : Nat) (filling : Option Buffer) : Recorder :=
  { (s.svc i).rc with filling := filling, intakeMark := s.stagingMark i }

theorem appendFitting_fits (there : i < s.services.length) {bytes : List Byte} (fits : bytes.length < s.stagingRoom i) :
    Staged i (s.appendedRc i (some (s.stagedBuffer i bytes))) [] s (appendFitting i bytes s) := by
  have ready := readied_staged (s := s) (i := i)
  have room : (s.stagingBuffer i).payload.length + (bytes.take (s.stagingRoom i)).length < 65472 := by
    rw [List.length_take, Nat.min_eq_right fits.le]
    rw [State.stagingRoom] at fits
    omega
  have appended := ready.trans (appendBytes_fills (ready.rc_eq there) rfl room)
  rwa [ready.wallNow] at appended

theorem appendFitting_fills (there : i < s.services.length) {bytes : List Byte} (full : s.stagingRoom i ≤ bytes.length) :
    Staged i (s.appendedRc i none) [s.stagedBuffer i bytes] s (appendFitting i bytes s) := by
  have ready := readied_staged (s := s) (i := i)
  have filled : 65472 ≤ (s.stagingBuffer i).payload.length + (bytes.take (s.stagingRoom i)).length := by
    rw [List.length_take, Nat.min_eq_left full, State.stagingRoom]
    omega
  have appended := ready.trans (appendBytes_full (ready.rc_eq there) rfl (ready.length.symm ▸ there) filled)
  rwa [ready.wallNow] at appended

/-- Bytes that are taken close RECORD_GAP where an intake loss has opened it (R138). -/
theorem takeFitting_closes (there : i < s.services.length) (lost : (s.svc i).rc.gapRecord = .intake)
    (bytes : List Byte) : (takeFitting i bytes s).isOpen (some i) .recordGap none = false := by
  refine resumeRecording_closes ?_
  rcases Nat.lt_or_ge bytes.length (s.stagingRoom i) with fits | full
  · rw [(appendFitting_fits there fits).rc_eq there]
    exact lost
  · rw [(appendFitting_fills there full).rc_eq there]
    exact lost

/-- The service's recorder once recording has resumed as well (R138). -/
def State.takenRc (s : State) (i : Nat) (filling : Option Buffer) : Recorder :=
  { s.appendedRc i filling with gapRecord := (s.svc i).rc.gapRecord.resumed }

theorem takeFitting_fits (there : i < s.services.length) {bytes : List Byte} (fits : bytes.length < s.stagingRoom i) :
    Staged i (s.takenRc i (some (s.stagedBuffer i bytes))) [] s (takeFitting i bytes s) :=
  have appended := appendFitting_fits there fits
  appended.trans (resumeRecording_staged (appended.rc_eq there))

theorem takeFitting_fills (there : i < s.services.length) {bytes : List Byte} (full : s.stagingRoom i ≤ bytes.length) :
    Staged i (s.takenRc i none) [s.stagedBuffer i bytes] s (takeFitting i bytes s) :=
  have appended := appendFitting_fills there full
  appended.trans (resumeRecording_staged (appended.rc_eq there))

/-- Once the buffer is full one buffer fewer is free if it was begun now, and as many as before otherwise (section 8.3).
-/
theorem takeFitting_free (there : i < s.services.length) {bytes : List Byte} (full : s.stagingRoom i ≤ bytes.length) :
    (takeFitting i bytes s).freeBuffers = s.freeBuffers - (if (s.svc i).rc.filling = none then 1 else 0) := by
  have used := (takeFitting_fills there full).buffersInUse there
  have emptied : (s.takenRc i none).filling.isSome.toNat = 0 := rfl
  rw [emptied] at used
  unfold State.freeBuffers
  cases filling : (s.svc i).rc.filling with
  | none =>
    rw [filling, Option.isSome_none, Bool.toNat_false, List.length_singleton] at used
    rw [if_pos rfl]
    omega
  | some b =>
    rw [filling, Option.isSome_some, Bool.toNat_true, List.length_singleton] at used
    rw [if_neg (by simp)]
    omega

/-! ### The rest of the bytes (R136) -/

theorem takeRest_nothing {rest : List Byte} (nothing : rest = []) (shortage : GapCause) (s : State) :
    takeRest i rest shortage s = s := by
  rw [nothing, takeRest, List.isEmpty_nil, if_pos rfl]

/-- With a buffer free the rest begins it, with the service's mark as its gap-before (R136, R137). -/
theorem takeRest_begins {r : Recorder} (was : (s.svc i).rc = r) (there : i < s.services.length) {rest : List Byte}
    (some_left : rest ≠ []) (short : rest.length < 65472) (free : 0 < s.freeBuffers) (shortage : GapCause) :
    Staged i { r with filling := some ((s.newBuffer i).taking rest s.wallNow), intakeMark := none } [] s
        (takeRest i rest shortage s) ∧
      (takeRest i rest shortage s).cu = s.cu := by
  have begun := Staged.modRc (f := fun r => { r with filling := some (s.newBuffer i), intakeMark := none }) was rfl
  have appended := begun.trans (appendBytes_fills (begun.rc_eq there) rfl (bytes := rest)
    (by rw [show (s.newBuffer i).payload.length = 0 from rfl, Nat.zero_add]; exact short))
  rw [takeRest, if_neg (by rwa [List.isEmpty_iff]), beginBuffer_free free]
  exact ⟨appended, appendBytes_cu _ _⟩

theorem takeRest_lost {rest : List Byte} (some_left : rest ≠ []) (short : s.freeBuffers = 0) (shortage : GapCause) :
    takeRest i rest shortage s = intakeLoss i shortage s := by
  rw [takeRest, if_neg (by rwa [List.isEmpty_iff]), beginBuffer_none short]

/-! ### The bytes of a unit as a whole -/

variable {bytes : List Byte} {shortage : GapCause}

/-- All the bytes fit. -/
theorem stageBytes_fits (there : i < s.services.length) (ready : (s.svc i).rc.filling ≠ none ∨ 0 < s.freeBuffers)
    (all : bytes.length ≤ s.stagingRoom i) : stageBytes i bytes shortage s = takeFitting i bytes s := by
  rw [stageBytes_ready there ready, takeRest_nothing (List.drop_eq_nil_iff.mpr all)]

/-- The rest begins another buffer. -/
theorem stageBytes_splits (there : i < s.services.length) (ready : (s.svc i).rc.filling ≠ none ∨ 0 < s.freeBuffers)
    (more : s.stagingRoom i < bytes.length) (short : bytes.length < 65472)
    (free : (if (s.svc i).rc.filling = none then 1 else 0) < s.freeBuffers) :
    Staged i { s.takenRc i (some { s.newBuffer i with gap := s.stagingMark i, payload := bytes.drop (s.stagingRoom i) })
        with intakeMark := none } [s.stagedBuffer i bytes] s (stageBytes i bytes shortage s) ∧
      (stageBytes i bytes shortage s).cu = (takeFitting i bytes s).cu := by
  have taken := takeFitting_fills there more.le
  have left : bytes.drop (s.stagingRoom i) ≠ [] := mt List.drop_eq_nil_iff.mp (Nat.not_le.mpr more)
  have begins := takeRest_begins (taken.rc_eq there) (taken.length.symm ▸ there) left
    (by rw [List.length_drop]; omega) (by rw [takeFitting_free there more.le]; omega) shortage
  have begun : (takeFitting i bytes s).newBuffer i = { s.newBuffer i with gap := s.stagingMark i } := by
    simp only [State.newBuffer, State.now, taken.wallNow, taken.tb, taken.boot, taken.rc_eq there]
    rfl
  rw [begun, taken.wallNow] at begins
  rw [stageBytes_ready there ready]
  exact ⟨taken.trans begins.1, begins.2⟩

/-- The rest is an intake loss. -/
theorem stageBytes_loses (there : i < s.services.length) (run : s.part.state = .run)
    (ready : (s.svc i).rc.filling ≠ none ∨ 0 < s.freeBuffers) (more : s.stagingRoom i < bytes.length)
    (short : s.freeBuffers ≤ (if (s.svc i).rc.filling = none then 1 else 0)) :
    Staged i { s.takenRc i none with
        intakeMark := (s.stagingMark i).or (some shortage)
        gapRecord := (s.svc i).rc.gapRecord.resumed.lost } [s.stagedBuffer i bytes] s (stageBytes i bytes shortage s) := by
  have taken := takeFitting_fills there more.le
  have left : bytes.drop (s.stagingRoom i) ≠ [] := mt List.drop_eq_nil_iff.mp (Nat.not_le.mpr more)
  have full : (takeFitting i bytes s).freeBuffers = 0 := by rw [takeFitting_free there more.le]; omega
  rw [stageBytes_ready there ready, takeRest_lost left full]
  exact taken.trans (intakeLoss_staged (taken.rc_eq there) (taken.length.symm ▸ there) (taken.part ▸ run) shortage)

end Staging

/-! ### PAYLOAD (R135) -/

/-- A PAYLOAD unit that fits its kind carries at most 4096 bytes (R11). -/
theorem payload_length {kind : Nat} {bytes body : List Byte} (fits : lengthFits kind bytes = true)
    (read : bodyOf kind bytes = some (.payload body)) : body.length ≤ 4096 := by
  unfold bodyOf at read
  split at read
  · unfold audioBody at read
    dsimp only at read
    split at read <;> cases read
  · unfold cueBody at read
    dsimp only at read
    split at read <;> cases read
  · split at read <;> cases read
  · split at read <;> cases read
  · unfold markBody at read
    split at read <;> cases read
  · obtain rfl := FeedBody.payload.inj (Option.some.inj read)
    exact (of_decide_eq_true fits).2
  · cases read

/-- What RC's part of a PAYLOAD unit does stands at the end of the event (R12). -/
theorem exec_feedUnit_payload {s u : State} {bytes body : List Byte} {i : Nat} {rc : Recorder} {added : List Buffer}
    (takes : s.takes bytes i (.payload body) = true) (unit : payloadUnit i body s = u) (staged : Staged i rc added s u) :
    ∃ t, exec (.feedUnit bytes) s = .next t ∧ Staged i rc added s t ∧ t.cu.conditions = u.cu.conditions := by
  have routed : routeUnit i (.payload body) s = u := unit
  have same := settle_same u
  have ended := staged.same same
  have runs := exec_feedUnit_takes takes
  rw [routed] at runs
  generalize settle u = v at same ended runs
  exact ⟨_, runs, ⟨ended.services, ended.writeQueue, ended.part, ended.tb, ended.sp, ended.boot⟩, same.conditions⟩

theorem payloadUnit_dropped {i : Nat} {s : State}
    (off : ¬ ((s.svc i).profile.recording = true ∧ s.am.rstPending = false)) (body : List Byte) :
    payloadUnit i body s = queueFilling i false s := by
  refine if_pos ?_
  by_cases recording : (s.svc i).profile.recording = true
  · exact .inr (Bool.eq_true_of_not_eq_false fun clear => off ⟨recording, clear⟩)
  · exact .inl recording

/-- The cause of an intake loss whatever the buffers (R135). -/
def State.lossCause (s : State) : GapCause :=
  if s.sp.faultLatched = true then .fault else if s.part.lowSupply = true then .supply else .unavailable

/-- The archive takes pages, or will (R135). -/
def State.stores (s : State) : Prop := s.am.state = .online ∨ s.am.state = .offline ∨ s.am.state = .mounting

theorem stores_iff (s : State) : s.stores ↔ ¬ (s.am.state = .unformatted ∨ s.am.state = .unavailable) := by
  unfold State.stores
  cases s.am.state <;> decide

theorem recording_iff {i : Nat} {s : State} (on : (s.svc i).profile.recording = true ∧ s.am.rstPending = false) :
    ¬ (¬ (s.svc i).profile.recording = true ∨ s.am.rstPending = true) := by
  rw [on.1, on.2]
  decide

theorem payloadUnit_lost {i : Nat} {s : State} (on : (s.svc i).profile.recording = true ∧ s.am.rstPending = false)
    (barred : s.sp.faultLatched = true ∨ s.part.lowSupply = true ∨ ¬ s.stores) (body : List Byte) :
    payloadUnit i body s = intakeLoss i s.lossCause (queueFilling i false s) := by
  rw [payloadUnit, if_neg (recording_iff on), State.lossCause]
  by_cases latched : s.sp.faultLatched = true
  · rw [if_pos latched, if_pos latched]
  · rw [if_neg latched, if_neg latched]
    by_cases low : s.part.lowSupply = true
    · rw [if_pos low, if_pos low]
    · have away := (barred.resolve_left latched).resolve_left low
      rw [stores_iff, not_not] at away
      rw [if_neg low, if_neg low, if_pos away]

/-- The cause of a loss for want of a buffer (R135). -/
def State.shortageCause (s : State) : GapCause :=
  if s.am.state = .online then .staging else if s.am.state = .offline then .offline else .mount

theorem shortageCause_eq {s : State} (stores : s.stores) : s.am.state.shortage = s.shortageCause := by
  unfold State.shortageCause
  rcases stores with state | state | state <;> rw [state] <;> rfl

/-- The taking of the bytes, in a part whose exhausted mark alone may have been set (R121, R135). -/
theorem payloadUnit_taken {i : Nat} {s : State} (on : (s.svc i).profile.recording = true ∧ s.am.rstPending = false)
    (clear : s.sp.faultLatched = false) (supplied : s.part.lowSupply = false) (stores : s.stores) (body : List Byte) :
    ∃ x, payloadUnit i body s = stageBytes i body s.shortageCause (s.modCl fun c => { c with exhausted := x }) := by
  obtain ⟨x, reserved⟩ := logReserve_eq (entriesOf (stageBytes i body s.shortageCause) s) s
  refine ⟨x, ?_⟩
  rw [payloadUnit, if_neg (recording_iff on), if_neg (by rw [clear]; exact Bool.false_ne_true),
    if_neg (by rw [supplied]; exact Bool.false_ne_true), if_neg ((stores_iff s).mp stores), shortageCause_eq stores,
    takePayload, grouped, reserved]

/-- The refusal of a group of entries leaves the recorder (R121). -/
theorem Staged.ofReserved {i : Nat} {rc : Recorder} {added : List Buffer} {s u : State} {x : Bool}
    (h : Staged i rc added (s.modCl fun c => { c with exhausted := x }) u) : Staged i rc added s u :=
  ⟨h.services, h.writeQueue, h.part, h.tb, h.sp, h.boot⟩

/-- What the staging of a unit's bytes leaves, by the room of the filling buffer and the buffers that are free (R136,
R138). -/
structure UnitStaged (i : Nat) (body : List Byte) (s t : State) : Prop where
  others : ∀ j, j ≠ i → t.svc j = s.svc j
  sp : t.sp = s.sp
  tb : t.tb = s.tb
  fits : body.length < s.stagingRoom i → t.writeQueue = s.writeQueue ∧
    (t.svc i).rc.filling = some (s.stagedBuffer i body) ∧ (t.svc i).rc.intakeMark = s.stagingMark i
  fills : s.stagingRoom i ≤ body.length → t.writeQueue = s.writeQueue ++ [s.stagedBuffer i body]
  ends : body.length = s.stagingRoom i → (t.svc i).rc.filling = none ∧ (t.svc i).rc.intakeMark = s.stagingMark i
  splits : s.stagingRoom i < body.length → (if (s.svc i).rc.filling = none then 1 else 0) < s.freeBuffers →
    (t.svc i).rc.filling =
        some { s.newBuffer i with gap := s.stagingMark i, payload := body.drop (s.stagingRoom i) } ∧
      (t.svc i).rc.intakeMark = none
  loses : s.stagingRoom i < body.length → s.freeBuffers ≤ (if (s.svc i).rc.filling = none then 1 else 0) →
    (t.svc i).rc.filling = none ∧ (t.svc i).rc.intakeMark = (s.stagingMark i).or (some s.shortageCause) ∧
      (t.svc i).rc.gapRecord ≠ .closed
  resumes : (s.svc i).rc.gapRecord = .intake → body.length ≤ s.stagingRoom i ∨ 1 < s.freeBuffers →
    (t.svc i).rc.gapRecord = .closed ∧ t.isOpen (some i) .recordGap none = false

section Outcomes

variable {i : Nat} {body : List Byte} {s t u : State} {x : Bool}

/-- Recording resumes with the bytes that fit, and no loss follows (R138). -/
theorem resumes_of_conditions (there : i < s.services.length) (lost : (s.svc i).rc.gapRecord = .intake)
    (conditions : t.cu.conditions = (takeFitting i body (s.modCl fun c => { c with exhausted := x })).cu.conditions) :
    (s.svc i).rc.gapRecord.resumed = .closed ∧ t.isOpen (some i) .recordGap none = false := by
  refine ⟨if_pos lost, ?_⟩
  rw [isOpen_congr conditions]
  exact takeFitting_closes (by exact there) (by exact lost) body

theorem unitStaged_fits (there : i < s.services.length) (room : body.length < s.stagingRoom i)
    (staged : Staged i (s.takenRc i (some (s.stagedBuffer i body))) [] s t)
    (conditions : t.cu.conditions = (takeFitting i body (s.modCl fun c => { c with exhausted := x })).cu.conditions) :
    UnitStaged i body s t where
  others _ other := staged.others other
  sp := staged.sp
  tb := staged.tb
  fits _ := by rw [staged.rc_eq there, staged.writeQueue, List.append_nil]; exact ⟨rfl, rfl, rfl⟩
  fills full := absurd room (Nat.not_lt.mpr full)
  ends full := absurd room full.not_lt
  splits more := absurd room more.not_gt
  loses more := absurd room more.not_gt
  resumes lost _ := by rw [staged.rc_eq there]; exact resumes_of_conditions there lost conditions

theorem unitStaged_ends (there : i < s.services.length) (full : body.length = s.stagingRoom i)
    (staged : Staged i (s.takenRc i none) [s.stagedBuffer i body] s t)
    (conditions : t.cu.conditions = (takeFitting i body (s.modCl fun c => { c with exhausted := x })).cu.conditions) :
    UnitStaged i body s t where
  others _ other := staged.others other
  sp := staged.sp
  tb := staged.tb
  fits room := absurd full room.ne
  fills _ := staged.writeQueue
  ends _ := by rw [staged.rc_eq there]; exact ⟨rfl, rfl⟩
  splits more := absurd full more.ne'
  loses more := absurd full more.ne'
  resumes lost _ := by rw [staged.rc_eq there]; exact resumes_of_conditions there lost conditions

theorem unitStaged_splits (there : i < s.services.length) (more : s.stagingRoom i < body.length)
    (free : (if (s.svc i).rc.filling = none then 1 else 0) < s.freeBuffers)
    (staged : Staged i { s.takenRc i (some { s.newBuffer i with
        gap := s.stagingMark i, payload := body.drop (s.stagingRoom i) }) with intakeMark := none }
      [s.stagedBuffer i body] s t)
    (conditions : t.cu.conditions = (takeFitting i body (s.modCl fun c => { c with exhausted := x })).cu.conditions) :
    UnitStaged i body s t where
  others _ other := staged.others other
  sp := staged.sp
  tb := staged.tb
  fits room := absurd room more.not_gt
  fills _ := staged.writeQueue
  ends full := absurd full more.ne'
  splits _ _ := by rw [staged.rc_eq there]; exact ⟨rfl, rfl⟩
  loses _ short := absurd free (Nat.not_lt.mpr short)
  resumes lost _ := by rw [staged.rc_eq there]; exact resumes_of_conditions there lost conditions

theorem unitStaged_loses (there : i < s.services.length) (more : s.stagingRoom i < body.length)
    (short : s.freeBuffers ≤ (if (s.svc i).rc.filling = none then 1 else 0))
    (staged : Staged i { s.takenRc i none with
        intakeMark := (s.stagingMark i).or (some s.shortageCause)
        gapRecord := (s.svc i).rc.gapRecord.resumed.lost } [s.stagedBuffer i body] s t) :
    UnitStaged i body s t where
  others _ other := staged.others other
  sp := staged.sp
  tb := staged.tb
  fits room := absurd room more.not_gt
  fills _ := staged.writeQueue
  ends full := absurd full more.ne'
  splits _ free := absurd free (Nat.not_lt.mpr short)
  loses _ _ := by rw [staged.rc_eq there]; exact ⟨rfl, rfl, GapRecord.lost_ne _⟩
  resumes _ enough := by
    have none_enough : ¬ (body.length ≤ s.stagingRoom i ∨ 1 < s.freeBuffers) := by
      split at short <;> omega
    exact absurd enough none_enough

end Outcomes

/-- With a buffer filling or free the bytes are staged as far as the buffers reach (R135, case 5). -/
theorem exec_feedUnit_staged {s : State} {bytes body : List Byte} {i : Nat}
    (takes : s.takes bytes i (.payload body) = true)
    (on : (s.svc i).profile.recording = true ∧ s.am.rstPending = false) (clear : s.sp.faultLatched = false)
    (supplied : s.part.lowSupply = false) (stores : s.stores)
    (ready : (s.svc i).rc.filling ≠ none ∨ 0 < s.freeBuffers) :
    ∃ t, exec (.feedUnit bytes) s = .next t ∧ UnitStaged i body s t := by
  have unit := unitTaken_of_takes takes
  have there : i < s.services.length := unit.sixteen ▸ unit.inRange
  have short : body.length < 65472 := (payload_length unit.length unit.body).trans_lt (by decide)
  obtain ⟨x, taken⟩ := payloadUnit_taken on clear supplied stores body
  rcases Nat.lt_trichotomy body.length (s.stagingRoom i) with room | full | more
  · rw [stageBytes_fits (by exact there) (by exact ready) (by exact room.le)] at taken
    obtain ⟨t, runs, staged, conditions⟩ := exec_feedUnit_payload takes taken
      (Staged.ofReserved (x := x) (takeFitting_fits (by exact there) (by exact room)))
    exact ⟨t, runs, unitStaged_fits there room staged conditions⟩
  · rw [stageBytes_fits (by exact there) (by exact ready) (by exact full.le)] at taken
    obtain ⟨t, runs, staged, conditions⟩ := exec_feedUnit_payload takes taken
      (Staged.ofReserved (x := x) (takeFitting_fills (by exact there) (by exact full.ge)))
    exact ⟨t, runs, unitStaged_ends there full staged conditions⟩
  · rcases Nat.lt_or_ge (if (s.svc i).rc.filling = none then 1 else 0) s.freeBuffers with free | full
    · obtain ⟨split, cu⟩ := stageBytes_splits (s := s.modCl fun c => { c with exhausted := x })
        (shortage := s.shortageCause) (by exact there) (by exact ready) (by exact more) short (by exact free)
      obtain ⟨t, runs, staged, conditions⟩ := exec_feedUnit_payload takes taken (Staged.ofReserved (x := x) split)
      exact ⟨t, runs, unitStaged_splits there more free staged (conditions.trans (congrArg Compliance.conditions cu))⟩
    · have lost := stageBytes_loses (s := s.modCl fun c => { c with exhausted := x }) (shortage := s.shortageCause)
        (by exact there) (by exact unit.run) (by exact ready) (by exact more) (by exact full)
      obtain ⟨t, runs, staged, -⟩ := exec_feedUnit_payload takes taken (Staged.ofReserved (x := x) lost)
      exact ⟨t, runs, unitStaged_loses there more full staged⟩

/-- Settles O21: each case of R135 is one change of the service's recorder and of the write queue, and the end of the
event leaves both. -/
theorem payloadIsStagedOrLost : Obligations.PayloadIsStagedOrLost := by
  unfold Obligations.PayloadIsStagedOrLost
  intro bytes body s i takes
  have unit := unitTaken_of_takes takes
  have there : i < s.services.length := unit.sixteen ▸ unit.inRange
  have queued := queueFilling_staged (s := s) (i := i) rfl
  dsimp only
  refine ⟨fun off => ?_, fun on barred => ?_,
    fun on clear supplied stores => ⟨fun empty short => ?_, fun ready _ => ?_⟩⟩
  · obtain ⟨t, runs, staged, conditions⟩ := exec_feedUnit_payload takes (payloadUnit_dropped off body) queued
    exact ⟨t, runs, staged.writeQueue, staged.rc_eq there, fun j other => staged.others other,
      conditions.trans (congrArg Compliance.conditions (queueFilling_cu s)), staged.sp, staged.tb⟩
  · have lost := queued.trans (intakeLoss_staged (queued.rc_eq there) (queued.length.symm ▸ there)
      (queued.part ▸ unit.run) s.lossCause)
    obtain ⟨t, runs, staged, conditions⟩ := exec_feedUnit_payload takes (payloadUnit_lost on barred body) lost
    refine ⟨t, runs, ?_, staged.rc_eq there, fun closed => ?_, fun j other => staged.others other, staged.sp,
      staged.tb⟩
    · rw [staged.writeQueue, List.append_nil]
    · rw [isOpen_congr conditions]
      exact intakeLoss_opens (queued.part ▸ unit.run) (queued.profile ▸ unit.enabled)
        (by rw [queued.rc_eq there]; exact closed) _
  · obtain ⟨x, taken⟩ := payloadUnit_taken on clear supplied stores body
    rw [stageBytes_short (by exact empty) (by exact short)] at taken
    have lost := Staged.ofReserved (x := x) (intakeLoss_staged rfl (by exact there) (by exact unit.run) s.shortageCause)
    obtain ⟨t, runs, staged, -⟩ := exec_feedUnit_payload takes taken lost
    refine ⟨t, runs, ?_, ?_, ?_, ?_⟩
    · rw [staged.writeQueue, List.append_nil]
    · rw [staged.rc_eq there]; exact empty
    · rw [staged.rc_eq there]; rfl
    · rw [staged.rc_eq there]; exact GapRecord.lost_ne _
  · obtain ⟨t, runs, staged⟩ := exec_feedUnit_staged takes on clear supplied stores ready
    exact ⟨t, runs, staged.others, staged.sp, staged.tb, staged.fits, staged.fills, staged.ends, staged.splits,
      staged.loses, staged.resumes⟩

end Sys2Proof.Machine
end

section
/-! SUPPORT. The end of an event whose entries no trigger's event fits, records that take such entries, and the
obligation of the host's holds (R128, R157, R159, R160, R164, R173). -/

namespace Sys2Proof.Machine

/-! ### Entries that no trigger's event fits (R128, R164) -/

/-- No entry that waits for TU is of an event that a trigger can name (R163). -/
def State.unmatched (s : State) : Prop := ∀ e ∈ s.cl.handed, ∀ v, eventFits v e.body = false

theorem unmatched_of_settled {s : State} (settled : s.settled = true) : s.unmatched := by
  intro e waits
  rw [handed_of_settled settled] at waits
  exact absurd waits List.not_mem_nil

/-- The taking of an entry of another kind keeps that so, whether or not the sequence is exhausted (R121). -/
theorem logTake_unmatched {b : Body} {s : State} (unmatched : s.unmatched) (unfit : ∀ v, eventFits v b = false)
    (svc : Option Nat) : (logTake svc b s).unmatched := by
  cases mark : s.cl.exhausted with
  | true => rwa [logTake_exhausted svc b s mark]
  | false =>
    intro e waits
    rw [logTake_cl svc b s mark, LogState.take, List.mem_append, List.mem_singleton] at waits
    obtain before | rfl := waits
    · exact unmatched e before
    · exact unfit

/-- TU does nothing for such entries (R164). -/
theorem fanOut_unmatched {s : State} (unmatched : s.unmatched) :
    fanOut s = s.modCl fun c => { c with handed := [] } := by
  have passes (l : List Entry) (unfit : ∀ e ∈ l, ∀ v, eventFits v e.body = false) : l.foldl matchEntry s = s := by
    induction l with
    | nil => rfl
    | cons e l ih =>
      obtain ⟨first, rest⟩ := List.forall_mem_cons.mp unfit
      rw [List.foldl_cons, matchEntry_unfit first, ih rest]
  rw [fanOut, passes _ unmatched]

/-- The end of an event that leaves nothing but such entries. -/
theorem settle_unmatched {s : State} (unmatched : s.unmatched)
    (settled : (s.modCl fun c => { c with handed := [] }).settled = true) :
    settle s = (s.modCl fun c => { c with handed := [] }).modLc Line.startSending := by
  rw [← fanOut_unmatched unmatched] at settled ⊢
  exact settle_of_fanOut settled

/-- A record whose operation takes such entries, and else leaves a settled part: its effect, which the end of the event
leaves of the archive and of the exports (R173). -/
theorem exec_unmatched {i : Instr} {s u e : State} {r : Text}
    (runs : exec i s = .next (verbRow i (operate i (fieldsOf i)) s)) (ready : s.ready = true)
    (sent : sendable i = true) (fit : fits r = true) (op : operate i (fieldsOf i) s = (e, some r))
    (settled : u.settled = true) (only : OnlyLog u e) (unmatched : e.unmatched) :
    ∃ t, exec i s = .next t ∧ t.am = u.am ∧ t.ee = u.ee ∧ t.services = u.services ∧ t.sp = u.sp := by
  have ended : settle (putReply (e, some r)) =
      ((putReply (e, some r)).modCl fun c => { c with handed := [] }).modLc Line.startSending :=
    settle_unmatched (s := putReply (e, some r)) unmatched
      (show (e.modCl _).settled = true from settled_ofLog only settled)
  refine ⟨_, runs, ?_⟩
  rw [verbRow_ready _ _ _ _ _ ready sent op fit, ended]
  exact ⟨only.am, only.ee, only.services, only.sp⟩

/-! ### Holds created and released (R148, R157, R160) -/

/-- AM answers a request that passes with two numbers, the hold's id and the count of its extents (R159). -/
theorem requestHold_answer {s : State} {r : HoldRequest} (passed : s.holdTests r = none) :
    ∃ id n, requestHold r s = ((requestHold r s).1, .ok (id, n)) := by
  simp only [requestHold, passed]
  exact ⟨_, _, rfl⟩

/-- Beside the archive a hold created is an entry (R157). -/
theorem requestHold_only {s : State} {r : HoldRequest} (passed : s.holdTests r = none) :
    OnlyLog (s.modAm (Archive.withHold (s.holdFor r))) (requestHold r s).1 := by
  have am := requestHold_created passed
  simp only [requestHold, passed] at am ⊢
  exact { logTake_only _ _ _ with am := am }

theorem requestHold_unmatched {s : State} {r : HoldRequest} (unmatched : s.unmatched)
    (passed : s.holdTests r = none) : (requestHold r s).1.unmatched := by
  simp only [requestHold, passed]
  exact logTake_unmatched (s := s.modAm _) unmatched (fun v => by cases v <;> rfl) _

/-- The archive without the holds of an id, and the page of holds dirty (R148, R160). -/
def Archive.withoutHold (id : Nat) (a : Archive) : Archive :=
  { a with holds := a.holds.filter fun g => decide (g.id ≠ id), dirty := insertRising 257 a.dirty }

/-- Beside the archive a hold released is an entry (R160). -/
theorem dropHold_only (h : Hold) (expired : Bool) (s : State) :
    OnlyLog (s.modAm (Archive.withoutHold h.id)) (dropHold h expired s) :=
  have taken := logTake_only _ _ (s.modAm fun a => { a with holds := a.holds.filter fun g => decide (g.id ≠ h.id) })
  { taken with am := congrArg (fun a : Archive => { a with dirty := insertRising 257 a.dirty }) taken.am }

theorem dropHold_unmatched {s : State} (unmatched : s.unmatched) (h : Hold) (expired : Bool) :
    (dropHold h expired s).unmatched := by
  refine logTake_unmatched (s := s.modAm _) unmatched (fun v => ?_) _
  cases expired <;> cases v <;> rfl

/-! ### HLD and HLR (R159, R160) -/

theorem sendable_hld {svc lo hi keep : Nat} (service : svc < 16) (low : lo ≤ 4294967295) (high : hi ≤ 4294967295)
    (days : keep ≤ 3650) : sendable (.hld svc lo hi keep) = true := by
  obtain ⟨serviceForm, serviceLength⟩ := natText_plain (k := 1) (n := svc) (by omega) (by decide)
  obtain ⟨lowForm, lowLength⟩ := natText_plain (k := 9) (n := lo) (by omega) (by decide)
  obtain ⟨highForm, highLength⟩ := natText_plain (k := 9) (n := hi) (by omega) (by decide)
  obtain ⟨daysForm, daysLength⟩ := natText_plain (k := 3) (n := keep) (by omega) (by decide)
  refine sendable_of_fields rfl rfl rfl ?_ ?_
  · simp [fieldsOf, serviceForm, lowForm, highForm, daysForm]
  · simp only [fieldsOf, fieldsRoom, List.map_cons, List.map_nil, List.sum_cons, List.sum_nil]
    omega

/-- An HLD inside its ranges hands its request to AM as sent (R159). -/
theorem opHld_created {svc lo hi keep : Nat} {sent : List Text} {s : State} (service : svc < 16) (ordered : lo ≤ hi)
    (high : hi ≤ 4294967295) (days : keep ≤ 3650)
    (passed : s.holdTests ⟨svc, lo, hi, .host, none, keep, false⟩ = none) : ∃ id n,
    opHld svc lo hi keep sent s = ((requestHold ⟨svc, lo, hi, .host, none, keep, false⟩ s).1,
      some (words [ascii "=HLD", natText id, natText n])) := by
  obtain ⟨id, n, answered⟩ := requestHold_answer passed
  have top : hi ≤ lastSecond := high
  refine ⟨id, n, ?_⟩
  simp only [opHld, serviceOk_of_lt service, clampNat_eq (Nat.zero_le _) (ordered.trans top),
    clampNat_eq (Nat.zero_le _) top, clampNat_eq (Nat.zero_le _) days, ordered, decide_true, inRange_true,
    ne_eq, not_true_eq_false, or_self, decide_false]
  rw [answered]
  rfl

theorem exec_hld {svc lo hi keep : Nat} {s : State} (ready : s.ready = true) (settled : s.settled = true)
    (service : svc < 16) (ordered : lo ≤ hi) (high : hi ≤ 4294967295) (days : keep ≤ 3650)
    (passed : s.holdTests ⟨svc, lo, hi, .host, none, keep, false⟩ = none) :
    ∃ t, exec (.hld svc lo hi keep) s = .next t ∧
      t.am = s.am.withHold (s.holdFor ⟨svc, lo, hi, .host, none, keep, false⟩) ∧ t.services = s.services ∧
      t.sp = s.sp := by
  obtain ⟨id, n, op⟩ := opHld_created (sent := fieldsOf (.hld svc lo hi keep)) service ordered high days passed
  have fit : fits (words [ascii "=HLD", natText id, natText n]) = true := by
    refine fits_of_fields rfl ?_
    have idLength := natText_length id
    have countLength := natText_length n
    simp only [fieldsRoom, List.map_cons, List.map_nil, List.sum_cons, List.sum_nil]
    omega
  obtain ⟨t, runs, am, -, services, sp⟩ := exec_unmatched rfl ready
    (sendable_hld service (ordered.trans high) high days) fit op (by exact settled) (requestHold_only passed)
    (requestHold_unmatched (unmatched_of_settled settled) passed)
  exact ⟨t, runs, am, services, sp⟩

theorem opHlr_released {id : Nat} {h : Hold} {sent : List Text} {s : State} (least : 1 ≤ id) (most : id ≤ 65535)
    (allowed : s.holdsBarred = none) (found : s.am.holds.find? (fun g => decide (g.id = id)) = some h) :
    opHlr id sent s = (dropHold h false s, some (words [ascii "=HLR", natText id])) := by
  have valid : idOk id = true := decide_eq_true ⟨least, most⟩
  simp only [opHlr, valid, inRange_true, allowed, found]
  rfl

theorem exec_hlr {id : Nat} {h : Hold} {s : State} (ready : s.ready = true) (settled : s.settled = true)
    (least : 1 ≤ id) (most : id ≤ 65535) (allowed : s.holdsBarred = none)
    (found : s.am.holds.find? (fun g => decide (g.id = id)) = some h) :
    ∃ t, exec (.hlr id) s = .next t ∧ t.am = s.am.withoutHold id ∧ t.services = s.services ∧ t.sp = s.sp := by
  have named : h.id = id := by simpa using List.find?_some found
  obtain ⟨t, runs, am, -, services, sp⟩ := exec_unmatched (i := .hlr id) rfl ready
    (sendable_ofNumber (by omega) rfl rfl rfl rfl) (fits_ofNumber rfl id) (opHlr_released least most allowed found)
    (by exact settled) (dropHold_only h false s) (dropHold_unmatched (unmatched_of_settled settled) h false)
  exact ⟨t, runs, named ▸ am, services, sp⟩

/-- Settles O49: each record's archive at the end of its event is what AM makes of it, since no trigger names its
entry. -/
theorem hostHoldsAreKept : Obligations.HostHoldsAreKept := by
  unfold Obligations.HostHoldsAreKept
  refine fun s ready settled => ⟨fun svc lo hi keep service ordered high days passed => ?_,
    fun id h least most allowed found => ?_⟩
  · obtain ⟨t, runs, am, services, sp⟩ := exec_hld ready settled service ordered high days passed
    exact ⟨t, runs, by rw [am]; rfl, by rw [am]; exact mem_insertRising.mpr (.inl rfl), services, by rw [am]; rfl, sp⟩
  · obtain ⟨t, runs, am, services, sp⟩ := exec_hlr ready settled least most allowed found
    exact ⟨t, runs, by rw [am]; rfl, by rw [am]; exact mem_insertRising.mpr (.inl rfl), services, by rw [am]; rfl, sp⟩

end Sys2Proof.Machine
end

section
/-! SUPPORT. How exports start and end, what the end of an event leaves of them, the frames on the line, and the
obligations of both (R165 to R168, R194). -/

namespace Sys2Proof.Machine

/-! ### What EE has in progress, and its end (R167) -/

/-- The part with EE at work on `x`. -/
def State.withExport (s : State) (x : Export) : State := s.modEe fun e => { e with current := some x }

theorem withExport_same (s : State) (x : Export) : SameCore s (s.withExport x) := by constructor <;> rfl

/-- Beside EE the end of its work is an entry and a report (R167). -/
theorem endExport_only {s : State} {x : Export} (current : s.ee.current = some x) (o : ExportOutcome) :
    OnlyLog (s.modEe fun e => { e with current := none, last := some (x.id, o) }) (endExport o s) := by
  simp only [endExport, current]
  exact (logTake_only _ _ _).trans (pushReport_only _ _)

theorem endExport_unmatched {s : State} (unmatched : s.unmatched) (o : ExportOutcome) :
    (endExport o s).unmatched := by
  unfold endExport
  split
  · exact unmatched
  · exact logTake_unmatched (s := s.modEe _) unmatched (fun v => by cases v <;> rfl) _

/-! ### EXP L (R165) -/

theorem logItems_pages (first count : Nat) : pagesToSend (logItems first count) = count := by
  have ones : (logItems first count).map ExportItem.pages = List.replicate count 1 := by
    rw [logItems, List.map_map]
    exact List.eq_replicate_iff.mpr ⟨by simp, by simp⟩
  rw [pagesToSend, ones, List.sum_replicate, smul_eq_mul, mul_one]

/-- Every log page is one page, so that the cursor starts at the first of them. -/
theorem firstItem_logItems (first count : Nat) : firstItem (logItems first count) = 0 := by
  cases count with
  | zero => rfl
  | succ n => simp [firstItem, logItems, List.range_succ_eq_map, List.findIdx_cons]

/-- On an ONLINE archive with the port free of faults and EE idle EXP takes its list (R165). -/
theorem exportAllowed_go {s : State} (idle : s.ee.current = none) (clear : s.sp.faultLatched = false)
    (online : s.am.state = .online) (noOffline : s.am.oflPending = false) (ok : Answer) : exportAllowed s ok = ok := by
  simp [exportAllowed, idle, clear, online, noOffline]

/-- A list with a page to send leaves EE WAITING at the first of them (R165). -/
theorem startExport_waits {kind : ExportKind} {service : Option Nat} {items : List ExportItem}
    (pages : pagesToSend items ≠ 0) (s : State) :
    startExport kind service items s = s.modEe fun e =>
      { e with nextId := nextIdAfter e.nextId, current := some (newExport e.nextId kind service items) } := if_neg pages

theorem opExpLog_starts {first count : Nat} {sent : List Text} {s : State} (page : first ≤ 4095) (least : 1 ≤ count)
    (most : count ≤ 4096) (idle : s.ee.current = none) (clear : s.sp.faultLatched = false)
    (online : s.am.state = .online) (noOffline : s.am.oflPending = false) :
    opExpLog first count sent s = (startExport .log none (logItems first count) s,
      some (words [ascii "=EXP", natText s.ee.nextId, natText count, natText count])) := by
  have validFirst : decide (first < Config.logPages) = true := decide_eq_true (Nat.lt_succ_of_le page)
  have validCount : decide (1 ≤ count ∧ count ≤ Config.exportItems) = true := decide_eq_true ⟨least, most⟩
  have length : (logItems first count).length = count := by rw [logItems, List.length_map, List.length_range]
  have listed : (logItems first count).isEmpty = false :=
    List.isEmpty_eq_false_iff.mpr (List.ne_nil_of_length_pos (length.symm ▸ least))
  simp only [opExpLog, validFirst, validCount, inRange_true, acceptExport, exportAllowed_go idle clear online noOffline,
    listed, length, logItems_pages, Bool.false_eq_true, if_false]
  rfl

theorem exec_exp_log {first count : Nat} {s : State} (ready : s.ready = true) (settled : s.settled = true)
    (page : first ≤ 4095) (least : 1 ≤ count) (most : count ≤ 4096) (idle : s.ee.current = none)
    (clear : s.sp.faultLatched = false) (online : s.am.state = .online) (noOffline : s.am.oflPending = false) :
    exec (.exp (.logPages first count)) s = .next ((s.modEe fun e =>
        { e with
          nextId := nextIdAfter e.nextId
          current := some (newExport e.nextId .log none (logItems first count)) }).replying
      (words [ascii "=EXP", natText s.ee.nextId, natText count, natText count])) := by
  obtain ⟨pageForm, pageLength⟩ := natText_plain (k := 3) (n := first) (by omega) (by decide)
  obtain ⟨countForm, countLength⟩ := natText_plain (k := 3) (n := count) (by omega) (by decide)
  have letter : faultyField (ascii "L") = false ∧ (ascii "L").length = 1 := by decide
  have sent : sendable (.exp (.logPages first count)) = true := by
    refine sendable_of_fields rfl rfl rfl ?_ ?_
    · simp [fieldsOf, letter, pageForm, countForm]
    · simp only [fieldsOf, fieldsRoom, List.map_cons, List.map_nil, List.sum_cons, List.sum_nil, letter]
      omega
  have fit : fits (words [ascii "=EXP", natText s.ee.nextId, natText count, natText count]) = true := by
    have idLength := natText_length s.ee.nextId
    refine fits_of_fields rfl ?_
    simp only [fieldsRoom, List.map_cons, List.map_nil, List.sum_cons, List.sum_nil]
    omega
  have op := opExpLog_starts (sent := fieldsOf (.exp (.logPages first count))) page least most idle clear online
    noOffline
  rw [startExport_waits (by rw [logItems_pages]; omega)] at op
  exact exec_record rfl ready sent fit op settled rfl rfl

/-! ### XAB (R168) -/

theorem opXab_waiting {s : State} {x : Export} (current : s.ee.current = some x) (waiting : x.state = .waiting) :
    opXab s = (endExport .aborted (s.withExport { x with stop := true }),
      some (words [ascii "=XAB", natText x.id])) := by
  simp only [opXab, current, waiting, if_true]
  rfl

theorem exec_xab_waiting {s : State} {x : Export} (ready : s.ready = true) (settled : s.settled = true)
    (current : s.ee.current = some x) (waiting : x.state = .waiting) :
    ∃ t, exec .xab s = .next t ∧ t.ee = { s.ee with current := none, last := some (x.id, .aborted) } ∧
      t.services = s.services ∧ t.sp = s.sp := by
  obtain ⟨t, runs, -, ee, services, sp⟩ := exec_unmatched (i := .xab) rfl ready (by decide) (fits_ofNumber rfl x.id)
    (opXab_waiting current waiting) (by exact settled)
    (endExport_only (s := s.withExport { x with stop := true }) rfl .aborted)
    (endExport_unmatched (s := s.withExport _) (unmatched_of_settled settled) .aborted)
  exact ⟨t, runs, ee, services, sp⟩

/-- Settles O50: EXP L's list has one page an item, so that its first item is the cursor's and none is empty; XAB finds
EE WAITING and ends its work. -/
theorem exportStartsAndStops : Obligations.ExportStartsAndStops := by
  unfold Obligations.ExportStartsAndStops
  refine fun s ready settled => ⟨fun first count page least most idle clear online noOffline => ?_,
    fun x current waiting => exec_xab_waiting ready settled current waiting⟩
  refine ⟨_, exec_exp_log ready settled page least most idle clear online noOffline, rfl, rfl, ?_, rfl, rfl, rfl, rfl⟩
  show some (newExport s.ee.nextId .log none (logItems first count)) = _
  rw [newExport, firstItem_logItems]
  rfl

/-! ### EE at the end of an event (R151, R167) -/

theorem requestHold_ee (r : HoldRequest) (s : State) : (requestHold r s).1.ee = s.ee := by
  unfold requestHold
  split
  · exact (logTake_only _ _ s).ee
  · exact (logTake_only _ _ _).ee

theorem actOnSlot_ee (e : Entry) (s : State) (k : Nat) : (actOnSlot e s k).ee = s.ee := by
  have reported (r : Text) (c : Prop) [Decidable c] : (if c then s else pushReport r s).ee = s.ee := by
    split <;> rfl
  unfold actOnSlot
  split
  · rfl
  · split
    · dsimp only
      split
      · exact reported _ _
      · exact (requestHold_ee _ _).trans (reported _ _)
    · rfl

theorem matchEntry_ee (s : State) (e : Entry) : (matchEntry s e).ee = s.ee :=
  List.foldlRecOn (motive := fun t : State => t.ee = s.ee) _ _ (logReserve_only _ s).ee
    fun t kept k _ => (actOnSlot_ee e t k).trans kept

theorem fanOut_ee (s : State) : (fanOut s).ee = s.ee :=
  List.foldlRecOn (motive := fun t : State => t.ee = s.ee) _ _ rfl fun t kept e _ => (matchEntry_ee t e).trans kept

theorem endFlush_ee (o : FlushOutcome) (s : State) : (endFlush o s).ee = s.ee := by
  unfold endFlush
  dsimp only
  split
  · exact (logTake_only _ _ _).ee
  · rfl

theorem flushStep_ee (s : State) : (flushStep s).ee = s.ee := by
  unfold flushStep
  split
  · split
    · exact endFlush_ee _ s
    · split
      · exact endFlush_ee _ s
      · split <;> rfl
  · rfl

/-- With no OFL pending the end of an event leaves the exports. -/
theorem settle_ee {s : State} (noOffline : s.am.oflPending = false) : (settle s).ee = s.ee := by
  obtain ⟨_, _, _, am⟩ := (OnlyHolds.fanOut s).trans (.ofAm (startVerdict_am (fanOut s)))
  have stays : offlineChange (startVerdict (fanOut s)) = startVerdict (fanOut s) :=
    if_neg fun due => by rw [am] at due; exact Bool.false_ne_true (noOffline.symm.trans due.1)
  obtain ⟨_, _, started⟩ := startVerdict_eq (fanOut s)
  have begun : (startVerdict (fanOut s)).ee = (fanOut s).ee := by rw [started]
  calc (settle s).ee = (flushStep (offlineChange (startVerdict (fanOut s)))).ee := fanOut_ee _
    _ = (startVerdict (fanOut s)).ee := by rw [stays, flushStep_ee]
    _ = s.ee := begun.trans (fanOut_ee s)

/-- What an event puts into EE stands at its end. -/
theorem settle_withExport {s : State} (noOffline : s.am.oflPending = false) (x : Export) :
    SameCore s (settle (s.withExport x)) ∧ (settle (s.withExport x)).ee.current = some x :=
  ⟨(withExport_same s x).trans (settle_same _),
    congrArg ExportEngine.current (settle_ee (s := s.withExport x) noOffline)⟩

/-! ### The line that exports leave on (R194) -/

/-- While EE is SENDING the clock runs and the line carries its frame. -/
theorem line_sending {t : State} {x : Export} {f : Frame} (current : t.ee.current = some x)
    (sending : x.state = .sending) (frame : x.frame = some f) :
    t.exportClock = true ∧ t.exportLine = lineBits f.bytes := by
  have carried : t.frameOnLine = some f := by simp only [State.frameOnLine, current, sending, frame, if_true]
  simp only [State.exportClock, State.exportLine, carried]
  exact ⟨rfl, rfl⟩

/-- While EE is not SENDING the clock stands and the line carries nothing. -/
theorem line_rests {t : State} (rests : t.ee.current.map Export.state ≠ some .sending) :
    t.exportClock = false ∧ t.exportLine = [] := by
  have none_carried : t.frameOnLine = none := by
    unfold State.frameOnLine
    split
    · rfl
    · next x current => exact if_neg fun sending => rests (by rw [current, Option.map_some, sending])
  simp only [State.exportClock, State.exportLine, none_carried]
  exact ⟨rfl, rfl⟩

/-! ### Reads and frames that end (R166) -/

/-- EE's record as a frame begins. -/
def Export.sends (x : Export) (f : Frame) : Export :=
  { x with state := .sending, unreadable := x.unreadable + (if f.unreadable then 1 else 0), frame := some f }

/-- EE's record between two frames. -/
def Export.sent (x : Export) : Export := { x with frames := x.frames + 1, frame := none }

/-- EE's record as it waits at the next page. -/
def Export.waitsAt (x : Export) (position page : Nat) : Export :=
  { x.sent with position := position, page := page, state := .waiting }

theorem exportReadEnded_sends {s : State} {x : Export} (current : s.ee.current = some x) (stop : x.stop = false)
    (page : Option (List Byte)) :
    exportReadEnded page s = (endOperation s).withExport (x.sends (s.exportFrame x page)) := by
  have counted : (if page.isNone then x.unreadable + 1 else x.unreadable) =
      (x.sends (s.exportFrame x page)).unreadable := by
    cases page <;> rfl
  simp only [exportReadEnded, current, if_neg (Bool.eq_false_iff.mp stop), counted]
  rfl

theorem exportFrameEnded_last {f : Frame} (last : f.last = true) (x : Export) (s : State) :
    exportFrameEnded x f s = endExport .complete (s.withExport x.sent) := if_pos last

theorem exportFrameEnded_more {x : Export} {f : Frame} {pos page : Nat} (more : f.last = false) (stop : x.stop = false)
    (abort : x.abort = none) (next : nextPage x.items x.position x.page = some (pos, page)) (s : State) :
    exportFrameEnded x f s = s.withExport (x.waitsAt pos page) := by
  simp only [exportFrameEnded, more, stop, abort, next, Bool.false_eq_true, if_false, Export.waitsAt, Export.sent]
  rfl

theorem exec_exportFrameEnd {s : State} {x : Export} {f : Frame} (current : s.ee.current = some x)
    (sending : x.state = .sending) (frame : x.frame = some f) :
    exec .exportFrameEnd s = .next (settle (exportFrameEnded x f s)) := by
  show execExportFrameEnd s = _
  simp only [execExportFrameEnd, current, sending, frame]

/-- The frame that carries LAST ends the work of EE, COMPLETE (R166). -/
theorem settle_exportFrameEnded_last {s : State} {f : Frame} (noOffline : s.am.oflPending = false)
    (last : f.last = true) (x : Export) : SameCore s (settle (exportFrameEnded x f s)) ∧
      (settle (exportFrameEnded x f s)).ee = { s.ee with current := none, last := some (x.id, .complete) } := by
  have ended := endExport_only (s := s.withExport x.sent) rfl .complete
  rw [exportFrameEnded_last last]
  exact ⟨((withExport_same s x.sent).trans (endExport_same _ _)).trans (settle_same _),
    (settle_ee (by rw [ended.am]; exact noOffline)).trans ended.ee⟩

/-- Settles O27: what the end of a read and of a frame makes of EE stands at the end of the event, and with it the
line. -/
theorem exportFramesBeginAndEnd : Obligations.ExportFramesBeginAndEnd := by
  unfold Obligations.ExportFramesBeginAndEnd
  refine ⟨fun s e p x page op current stop noOffline => ?_, fun s x f current sending frame noOffline =>
    ⟨fun last => ?_, fun more stop abort pos page next => ?_⟩⟩
  · obtain ⟨same, sends⟩ := settle_withExport (s := endOperation s) noOffline (x.sends (s.exportFrame x page))
    obtain ⟨clock, line⟩ := line_sending sends rfl rfl
    rw [exec_exportReadDone op, exportReadEnded_sends current stop]
    exact ⟨_, rfl, same.sp, sends, rfl, rfl, clock, line, same.services, same.extents⟩
  · obtain ⟨same, ee⟩ := settle_exportFrameEnded_last noOffline last x
    obtain ⟨clock, -⟩ := line_rests (t := settle (exportFrameEnded x f s)) (by rw [ee]; exact nofun)
    exact ⟨_, exec_exportFrameEnd current sending frame, by rw [ee], by rw [ee], clock, same.sp, same.services⟩
  · obtain ⟨same, waits⟩ := settle_withExport noOffline (x.waitsAt pos page)
    obtain ⟨clock, line⟩ := line_rests (t := settle (s.withExport (x.waitsAt pos page))) (by rw [waits]; exact nofun)
    rw [exec_exportFrameEnd current sending frame, exportFrameEnded_more more stop abort next]
    exact ⟨_, rfl, waits, clock, line, same.sp, same.services⟩

end Sys2Proof.Machine
end

section
/-! SUPPORT. The line at the end of an event, what one character and one end of a record do to it, records that are
refused before their verb acts, and the obligations of the control line (R171 to R174, R176 to R180). -/

namespace Sys2Proof.Machine

/-! ### The bounds of the line (R172, R177) -/

/-- Settles O56: every command keeps the accounts of the line, the bounds of its queues and of its buffer among them. -/
theorem stepKeepsLineBounds : Obligations.StepKeepsLineBounds :=
  fun _ _ bounded runs => (step_keepsAccounts runs).line bounded

/-! ### The transmitter at the end of an event (R176) -/

namespace Line

/-- A transmitter that sends takes nothing. -/
theorem startSending_busy {l : Line} (busy : l.sending.isSome = true) : l.startSending = l := by
  obtain ⟨r, sending⟩ := Option.isSome_iff_exists.mp busy
  rw [startSending, sending]

/-- An IDLE transmitter takes the reply slot, then the oldest line error, then the oldest report. -/
theorem startSending_idle {l : Line} (idle : l.sending = none) : l.startSending =
    match l.reply, l.errors, l.reports with
    | some q, _, _ => { l with sending := some q, reply := none }
    | none, f :: fs, _ => { l with sending := some (words [ascii "!???", f.text]), errors := fs }
    | none, [], q :: qs => { l with sending := some q, reports := qs }
    | none, [], [] => l := by
  rw [startSending, idle]
  cases l.reply with
  | some q => rfl
  | none =>
    cases l.errors with
    | cons f fs => rfl
    | nil => cases l.reports <;> rfl

/-- The transmitter has no record to take: it sends one, or there is none. -/
theorem startSending_eq_self_iff {l : Line} : l.startSending = l ↔
    l.sending.isSome = true ∨ l.reply = none ∧ l.errors = [] ∧ l.reports = [] := by
  refine ⟨fun rests => ?_, fun h => ?_⟩
  · cases sending : l.sending with
    | some r => exact .inl rfl
    | none =>
      have kept : l.startSending.sending = none := by rw [rests, sending]
      rw [startSending_idle sending] at kept
      refine .inr ?_
      cases reply : l.reply with
      | some q => simp [reply] at kept
      | none =>
        cases errors : l.errors with
        | cons f fs => simp [reply, errors] at kept
        | nil =>
          cases reports : l.reports with
          | cons q qs => simp [reply, errors, reports] at kept
          | nil => exact ⟨rfl, rfl, rfl⟩
  · rcases h with busy | ⟨reply, errors, reports⟩
    · exact startSending_busy busy
    · cases sending : l.sending with
      | some r => exact startSending_busy (by rw [sending]; rfl)
      | none => rw [startSending_idle sending, reply, errors, reports]

/-- Once it has taken what it can, the transmitter takes nothing more. -/
theorem startSending_startSending (l : Line) : l.startSending.startSending = l.startSending := by
  cases sending : l.sending with
  | some r =>
    have rests : l.startSending = l := startSending_busy (by rw [sending]; rfl)
    rw [rests, rests]
  | none =>
    rw [startSending_idle sending]
    split
    · exact startSending_busy rfl
    · exact startSending_busy rfl
    · exact startSending_busy rfl
    · next reply errors reports => exact startSending_eq_self_iff.mpr (.inr ⟨reply, errors, reports⟩)

end Line

/-- A change of the line that leaves the transmitter nothing to take is all that its event brings about. -/
theorem settle_modLc {s : State} {f : Line → Line} (settled : s.settled = true)
    (rests : (f s.lc).startSending = f s.lc) : settle (s.modLc f) = s.modLc f := by
  have settledAfter : (s.modLc f).settled = true := settled
  rw [settle_eq _ settledAfter, State.modLc, State.modLc_lc, rests]
  rfl

/-! ### Characters (R171, R172) -/

theorem isTerminator_iff {c : LineChar} : isTerminator c = true ↔ c.code = 10 ∧ c.framing = false := by
  simp [isTerminator]

/-- A character that leaves a still part still is all that its event brings about. -/
theorem exec_lineCharacter {s : State} {code : Byte} {framing : Bool} {f : Line → Line} (still : s.still = true)
    (taken : receive ⟨code.toNat, framing⟩ s = s.modLc f)
    (rests : s.lc.startSending = s.lc → (f s.lc).startSending = f s.lc) :
    exec (.lineCharacter code framing) s = .next (s.modLc f) := by
  obtain ⟨settled, before⟩ := Bool.and_eq_true_iff.mp still
  have runs : exec (.lineCharacter code framing) s = .next (settle (receive ⟨code.toNat, framing⟩ s)) := rfl
  rw [runs, taken, settle_modLc settled (rests (of_decide_eq_true before))]

/-- A change of the record being received leaves the transmitter what it had to take. -/
theorem Line.rests_received {l m : Line} (rests : l.startSending = l) (sending : m.sending = l.sending := by rfl)
    (reply : m.reply = l.reply := by rfl) (errors : m.errors = l.errors := by rfl)
    (reports : m.reports = l.reports := by rfl) : m.startSending = m := by
  rw [Line.startSending_eq_self_iff] at rests ⊢
  rw [sending, reply, errors, reports]
  exact rests

/-- A character that ends no record finds a place: it joins, or it is the 161st. -/
theorem receive_room {s : State} {c : LineChar} (fault : s.lc.fault = none) (room : s.lc.used < 256)
    (text : isTerminator c = false) : receive c s =
      if tooLong s.lc.current c then s.modLc fun l => l.failRecord .long
      else s.modLc fun l => { l with current := l.current ++ [c] } := by
  have free : ¬ Config.receiveChars ≤ s.lc.used := Nat.not_le.mpr room
  simp only [receive, fault, if_neg free, text, Bool.false_eq_true, if_false]

/-- A character finds no place. -/
theorem receive_full {s : State} (c : LineChar) (fault : s.lc.fault = none) (full : 256 ≤ s.lc.used) :
    receive c s = s.modLc fun l => l.receiveFull c := by
  rw [receive, fault]
  exact if_pos full

/-- A faulted record takes a character. -/
theorem receive_faulted {s : State} {f : LineFault} (c : LineChar) (fault : s.lc.fault = some f) :
    receive c s = s.modLc fun l => l.receiveFaulted f c := by
  rw [receive, fault]

namespace Line

/-- A character that ends no record and finds no place faults the record as OVERRUN. -/
theorem receiveFull_text {l : Line} {c : LineChar} (text : isTerminator c = false) : l.receiveFull c =
    { l with current := [], fault := some .overrun,
             crOnly := decide (l.current = [] ∧ c.code = 13 ∧ c.framing = false) } := by
  simp [receiveFull, text, failRecord, ← List.isEmpty_iff, Bool.and_assoc]

/-- The LF of an empty record asks for no place. -/
theorem receiveFull_emptyRecord {l : Line} {c : LineChar} (ends : isTerminator c = true) (empty : l.current = []) :
    l.receiveFull c = l := by
  have nothing : (trimCr l.current).isEmpty = true := by rw [empty]; rfl
  have same : ({ l with current := [] } : Line) = l := by rw [← empty]
  rw [receiveFull, if_pos ends, if_pos nothing, same]

/-- A faulted record drops a character that does not end it. -/
theorem receiveFaulted_text {l : Line} {c : LineChar} (f : LineFault) (text : isTerminator c = false)
    (notCr : l.crOnly = false) : l.receiveFaulted f c = l := by
  rw [receiveFaulted, text, if_neg Bool.false_ne_true, ← notCr]

/-- The LF of a faulted record places its line reply while the queue has room. -/
theorem receiveFaulted_end {l : Line} {c : LineChar} (f : LineFault) (ends : isTerminator c = true)
    (notCr : l.crOnly = false) : l.receiveFaulted f c =
      { l with fault := none
               errors := if l.errors.length < Config.lineErrorCount then l.errors ++ [f] else l.errors } := by
  cases l
  subst notCr
  simp only [receiveFaulted, ends, if_true, Bool.false_eq_true, if_false, queueError]
  split <;> rfl

end Line

/-- Settles O35: each of the forms is one change of the line, by what stands in the buffer and by whether the character
ends the record. -/
theorem characterJoinsRecord : Obligations.CharacterJoinsRecord := by
  unfold Obligations.CharacterJoinsRecord
  intro s code framing still
  have noEnd (text : ¬ (code.toNat = 10 ∧ framing = false)) : isTerminator ⟨code.toNat, framing⟩ = false :=
    Bool.not_eq_true _ ▸ fun ends => text (isTerminator_iff.mp ends)
  have ends (lf : code.toNat = 10) (whole : framing = false) : isTerminator ⟨code.toNat, framing⟩ = true :=
    isTerminator_iff.mpr ⟨lf, whole⟩
  refine ⟨fun text fault room => ?_, fun text fault full => ?_, fun lf whole fault full empty => ?_,
    fun f fault notCr => ⟨fun text => ?_, fun lf whole sending => ?_⟩⟩
  · have taken := receive_room fault room (noEnd text)
    split
    · next long => exact exec_lineCharacter still (taken.trans (if_pos long)) fun rests => Line.rests_received rests
    · next short => exact exec_lineCharacter still (taken.trans (if_neg short)) fun rests => Line.rests_received rests
  · have faulted := Line.receiveFull_text (l := s.lc) (noEnd text)
    rw [exec_lineCharacter still (receive_full _ fault full), State.modLc, faulted]
    exact fun rests => faulted ▸ Line.rests_received rests
  · have ignored := Line.receiveFull_emptyRecord (ends lf whole) empty
    rw [exec_lineCharacter still (receive_full _ fault full), State.modLc, ignored]
    exact fun rests => ignored.symm ▸ rests
  · have dropped := Line.receiveFaulted_text f (noEnd text) notCr
    rw [exec_lineCharacter still (receive_faulted _ fault), State.modLc, dropped]
    exact fun rests => dropped.symm ▸ rests
  · have ended := Line.receiveFaulted_end f (ends lf whole) notCr
    rw [exec_lineCharacter still (receive_faulted _ fault), State.modLc, ended]
    · rfl
    · exact fun _ => ended ▸ Line.startSending_busy sending

/-! ### The end of a record, and a line break (R176, R179) -/

theorem exec_transmitEnd (s : State) : exec .transmitEnd s = .next (settle (endTransmission s)) := rfl

theorem exec_lineBreak (s : State) : exec .lineBreak s = .next (breakLine s) := rfl

/-- With no record waiting none is executed (R173). -/
theorem executeNext_none {s : State} (waiting : s.lc.waiting = []) : executeNext s = s := by
  rw [executeNext, waiting]
  cases s.lc.reply <;> rfl

/-- With no record waiting and no RST pending, the end of a record is the transmitter's choice alone. -/
theorem settle_endTransmission {s : State} {r : Text} (sending : s.lc.sending = some r) (waiting : s.lc.waiting = [])
    (settled : s.settled = true) (noRst : s.am.rstPending = false) :
    settle (endTransmission s) = s.modLc fun l => { l with sending := none }.startSending := by
  have rest : (s.modLc fun l => { l with sending := none }.startSending).lc.waiting = [] :=
    (startSending_same (s.modLc fun l => { l with sending := none })).waiting.trans waiting
  have ended : endTransmission s = s.modLc fun l => { l with sending := none }.startSending := by
    simp only [endTransmission, sending, noRst, Bool.false_eq_true, and_false, if_false]
    exact executeNext_none rest
  rw [ended]
  exact settle_modLc settled (Line.startSending_startSending { s.lc with sending := none })

/-- Without an =RST reply to discard, a line break is LC's alone (R179, R192). -/
theorem breakLine_eq {s : State} (noReply : ¬ (s.lc.reply = some rstReply ∧ s.am.rstPending = true)) :
    breakLine s = s.modLc fun l => { Line.reset with sending := l.sending } := by
  simp only [breakLine, if_neg noReply]

/-- Settles O36: a line break by its definition; the end of a record by what an IDLE transmitter takes. -/
theorem lineBreakAndTransmitterOrder : Obligations.LineBreakAndTransmitterOrder := by
  unfold Obligations.LineBreakAndTransmitterOrder
  refine ⟨fun s noReply => ?_, fun s r sending waiting settled noRst => ?_⟩
  · rw [exec_lineBreak, breakLine_eq noReply]
    rfl
  · rw [exec_transmitEnd, settle_endTransmission sending waiting settled noRst]
    have takes := Line.startSending_idle (l := { s.lc with sending := none }) rfl
    exact congrArg (fun l => Host.Outcome.next { s with lc := l }) takes

/-! ### Watches (R178) -/

theorem exec_watchDue (k : Nat) (s : State) : exec (.watchDue k) s = .next (settle (watchFallsDue k s)) := rfl

/-- A due watch reports if the queue has room, and its due tick moves on. -/
theorem watchFallsDue_due {s : State} {k : Nat} {w : Watch} (set : s.lc.watches.getD k none = some w)
    (due : reached s.now w.due = true) : watchFallsDue k s = s.modLc fun l => { l with
      reports := if l.reports.length < Config.reportCount then l.reports ++ [s.watchReport k w] else l.reports
      watches := setAt l.watches k (some { w with due := laterTick w.due (w.interval * Config.tenthTicks) }) } := by
  rw [watchFallsDue, set]
  simp only [due, if_true, setWatch, State.modLc]
  split <;> rfl

/-- Settles O37: a busy transmitter leaves the watch's change as it is. -/
theorem watchReportsWhenDue : Obligations.WatchReportsWhenDue := by
  unfold Obligations.WatchReportsWhenDue
  intro s k w set due settled sending
  rw [exec_watchDue, watchFallsDue_due set due, settle_modLc settled (Line.startSending_busy sending)]
  rfl

/-! ### Records on an idle line (R173, R174, R180) -/

theorem lineIdle_parts {s : State} (idle : s.lineIdle = true) : s.lc.sending = none ∧ s.lc.reply = none ∧
    s.lc.waiting = [] ∧ s.lc.current = [] ∧ s.lc.fault = none := by
  simpa [State.lineIdle, and_assoc] using idle

theorem lineFree_of_lineIdle {s : State} {t : Text} (idle : s.lineIdle = true) (short : t.length ≤ 160) :
    s.lineFree t = true := by
  obtain ⟨-, reply, waiting, current, fault⟩ := lineIdle_parts idle
  have within : t.length ≤ Config.recordChars := short
  simp [State.lineFree, reply, waiting, current, fault, within]

/-- A reply that changes no state begins to leave an idle line. -/
theorem settle_answered {s : State} (r : Text) (idle : s.lineIdle = true) (settled : s.settled = true) :
    settle (putReply (s, some r)) = s.replying r := by
  obtain ⟨sending, reply, -⟩ := lineIdle_parts idle
  exact settle_replying s r settled sending reply

/-- Every command of the catalogue is taken as a record of the line. -/
theorem exec_verb {i : Instr} (verb : verbOf i ≠ []) (s : State) :
    exec i s = .next (verbRow i (operate i (fieldsOf i)) s) := by
  cases i <;> try exact absurd rfl verb
  all_goals rfl

/-- A record that an idle line receives is executed at once. -/
theorem verbRow_idle {i : Instr} {s : State} (op : State → Answer) (idle : s.lineIdle = true)
    (short : (recordText i).length ≤ 160) : verbRow i op s = settle (runRecord (verbOf i) (syntaxFault i) op s) :=
  if_pos (lineFree_of_lineIdle idle short)

/-- A reply that meets R174 stands as it is. -/
theorem fitReply_fits {v r : Text} {s e : State} (fit : fits r = true) : fitReply v s (e, some r) = (e, some r) :=
  if_neg (Nat.not_lt.mpr (of_decide_eq_true fit))

/-- A record that the gate stops is answered and does nothing. -/
theorem runRecord_gated {v r : Text} {s : State} (stopped : gate v s = some r) (fault : Option Nat)
    (op : State → Answer) : runRecord v fault op s = putReply (s, some r) := by
  simp only [runRecord, stopped]

/-- A record that passes tests 2 and 3 does what its verb does, and its reply takes the slot. -/
theorem runRecord_answered {v r : Text} {fault : Option Nat} {op : State → Answer} {s e : State}
    (passed : gate v s = none) (form : fault = none) (does : op s = (e, some r)) (fit : fits r = true) :
    runRecord v fault op s = putReply (e, some r) := by
  rw [form]
  simp only [runRecord, passed, does, fitReply_fits fit]

/-- Before RUN the gate stops every verb but IDN, STA and RST. -/
theorem gate_beforeRun {v : Text} {s : State} (before : s.part.state ≠ .run) (idn : v ≠ ascii "IDN")
    (sta : v ≠ ascii "STA") (rst : v ≠ ascii "RST") :
    gate v s = some (words [33 :: v, ascii "NOTREADY", s.part.state.text]) := by
  have stopped : ¬ answeredBeforeRun v := by simp [answeredBeforeRun, idn, sta, rst]
  rw [gate, if_pos ⟨before, stopped⟩]
  rfl

/-- IDN passes the gate in every part state, and while an RST is pending. -/
theorem gate_idn (s : State) : gate (verbOf .idn) s = none := by
  simp [gate, verbOf, answeredBeforeRun, answeredDuringRst]

/-- IDN's reply meets R174. -/
theorem fits_idn (p : PartState) :
    fits (words [ascii "=IDN", ascii "KALTRIN", ascii "MODEGRA2416", natText 4, p.text]) = true := by
  cases p <;> decide

/-- Settles O39: IDN passes the gate, and its operation is its reply alone. -/
theorem idnReturnsIdentity : Obligations.IdnReturnsIdentity := by
  unfold Obligations.IdnReturnsIdentity
  intro s idle settled
  have form : syntaxFault .idn = none := rfl
  have op : operate .idn (fieldsOf .idn) s = (s, some (words
    [ascii "=IDN", ascii "KALTRIN", ascii "MODEGRA2416", natText 4, s.part.state.text])) := rfl
  rw [exec_verb (by decide), verbRow_idle _ idle (by decide), runRecord_answered (gate_idn s) form op (fits_idn _),
    settle_answered _ idle settled]

/-! ### Refusals (R173, R174) -/

/-- A number of at most 12 digits is refused with RANGE as sent. -/
theorem exec_refusedRange {i : Instr} {s : State} {n : Nat} (ready : s.ready = true) (settled : s.settled = true)
    (digits : n < 10 ^ 12) (verb : (verbOf i).length = 3) (text : recordText i = words [verbOf i, natText n])
    (fields : fieldsOf i = [natText n]) (form : formFault i = none)
    (op : operate i (fieldsOf i) s = (s, some (words [33 :: verbOf i, ascii "RANGE", natText n]))) :
    exec i s = .next (s.replying (words [33 :: verbOf i, ascii "RANGE", natText n])) := by
  have named : verbOf i ≠ [] := List.ne_nil_of_length_eq_add_one verb
  have number := natText_length n
  have room : fieldsRoom [ascii "RANGE", natText n] ≤ 156 := by
    have code : (ascii "RANGE").length = 5 := by decide
    simp only [fieldsRoom, List.map_cons, List.map_nil, List.sum_cons, List.sum_nil, code]
    omega
  exact exec_readout (exec_verb named s) ready settled (sendable_ofNumber digits verb text fields form)
    (fits_of_fields (congrArg (· + 1) verb) room) op

theorem serviceOk_of_ge {n : Nat} (beyond : 16 ≤ n) : serviceOk n = false := decide_eq_false (Nat.not_lt.mpr beyond)

/-- A text without a separator is one field (R171). -/
theorem splitAt_of_not_mem {sep : Nat} {t : Text} (absent : sep ∉ t) : splitAt sep t = [t] := by
  induction t with
  | nil => rfl
  | cons c t ih =>
    obtain ⟨first, rest⟩ := not_or.mp (List.mem_cons.not.mp absent)
    rw [splitAt, if_neg (Ne.symm first), ih rest]

/-- A verb's form is three capital letters (R173). -/
theorem wellFormedVerb_iff {v : Text} : wellFormedVerb v = true ↔ v.length = 3 ∧ ∀ c ∈ v, 65 ≤ c ∧ c ≤ 90 := by
  simp [wellFormedVerb, isCapital]

/-- Three capital letters that no verb has are answered with UNKNOWN and the letters. -/
theorem runText_unknown {v : Text} {s : State} (letters : wellFormedVerb v = true)
    (unknown : verbTable.contains v = false) :
    runText v s = putReply (s, some (words [33 :: v, ascii "UNKNOWN", v])) := by
  have noSpace : 32 ∉ v := fun space => by
    have := (wellFormedVerb_iff.mp letters).2 32 space
    omega
  simp only [runText, splitAt_of_not_mem noSpace, letters, unknown, not_true_eq_false, Bool.false_eq_true,
    not_false_eq_true, if_true, if_false]
  rfl

/-- Capital letters are printable. -/
theorem printableText_of_wellFormedVerb {v : Text} (letters : wellFormedVerb v = true) : printableText v = true := by
  obtain ⟨three, capitals⟩ := wellFormedVerb_iff.mp letters
  have nonempty : v ≠ [] := List.ne_nil_of_length_eq_add_one three
  simp only [printableText, List.isEmpty_eq_false_iff.mpr nonempty, Bool.not_false, Bool.true_and, List.all_eq_true,
    decide_eq_true_eq]
  intro c hc
  have := capitals c hc
  omega

/-- A line's text of printable characters is executed at once on an idle line. -/
theorem exec_unknownVerb {t : Text} {s : State} (idle : s.lineIdle = true) (short : t.length ≤ 160)
    (printable : printableText t = true) : exec (.unknownVerb t) s = .next (settle (runText t s)) :=
  congrArg Host.Outcome.next (if_pos ⟨lineFree_of_lineIdle idle short, printable⟩)

/-- Settles O38: each refusal is its record's reply alone, given at test 4, at test 1 or at test 2. -/
theorem refusedRecordsChangeNothing : Obligations.RefusedRecordsChangeNothing := by
  unfold Obligations.RefusedRecordsChangeNothing
  refine ⟨fun s ready settled => ⟨fun n beyond digits i named => ?_, fun v letters unknown => ?_⟩,
    fun s i idle settled before verb short idn sta rst => ?_⟩
  · simp only [List.mem_cons, List.not_mem_nil, or_false] at named
    rcases named with rfl | rfl | rfl | rfl
    all_goals
      refine exec_refusedRange ready settled digits rfl rfl rfl rfl ?_
      simp only [operate, opSve, opSvd, opMtr, opAck, serviceOk_of_ge beyond, inRange_false]
      rfl
  · obtain ⟨-, -, idle, -⟩ := ready_parts ready
    have short : v.length ≤ 160 := (wellFormedVerb_iff.mp letters).1.trans_le (by decide)
    rw [exec_unknownVerb idle short (printableText_of_wellFormedVerb letters), runText_unknown letters unknown,
      settle_answered _ idle settled]
  · rw [exec_verb verb, verbRow_idle _ idle short, runRecord_gated (gate_beforeRun before idn sta rst),
      settle_answered _ idle settled]

end Sys2Proof.Machine
end

section
/-! SUPPORT. What the end of an event leaves of a flush, what an assertion and a deassertion of LOW_SUPPLY do to the part,
and their obligation (R190 to R192). -/

namespace Sys2Proof.Machine

/-! ### The flush at the end of an event (R151, R190) -/

theorem endFlush_am (o : FlushOutcome) (s : State) : (endFlush o s).am = s.am.flushDone := by
  unfold endFlush
  dsimp only
  split
  · exact (logTake_only _ _ _).am
  · rfl

/-- The archive takes a flush no further: STORAGE_FAULT is latched, or the archive is not ONLINE (R190). -/
def State.flushBarred (s : State) : Prop := s.sp.faultLatched = true ∨ s.am.state ≠ .online

theorem not_flushBarred {s : State} : ¬ s.flushBarred ↔ s.am.state = .online ∧ s.sp.faultLatched = false := by
  simp [State.flushBarred, and_comm]

/-- The next step of a flush ends it where it is barred. -/
theorem flushStep_barred {s : State} (flushing : s.am.flush = .flushing) (barred : s.flushBarred) :
    (flushStep s).am = s.am.flushDone := by
  unfold flushStep
  rw [if_pos flushing]
  split
  · exact endFlush_am _ s
  · next clear =>
    rw [if_pos (barred.resolve_left clear)]
    exact endFlush_am _ s

/-- Elsewhere it may set the clean flag and mark page 0 dirty (R190). -/
theorem flushStep_free {s : State} (flushing : s.am.flush = .flushing) (free : ¬ s.flushBarred) :
    ∃ clean dirty, (flushStep s).am = { s.am with cleanFlag := clean, dirty := dirty } := by
  obtain ⟨clear, online⟩ := not_or.mp free
  unfold flushStep
  rw [if_pos flushing, if_neg clear, if_neg online]
  split
  · exact ⟨_, _, rfl⟩
  · exact ⟨s.am.cleanFlag, s.am.dirty, rfl⟩

theorem flushStep_rests {s : State} (rests : s.am.flush ≠ .flushing) : flushStep s = s := if_neg rests

/-- The end of an event takes a pending OFL and a flush further from a part in which TU's holds have been made. -/
theorem settle_steps (s : State) : ∃ t, OnlyHolds s t ∧ t.sp = s.sp ∧
    settle s = (fanOut (flushStep (offlineChange t))).modLc Line.startSending :=
  ⟨startVerdict (fanOut s), (OnlyHolds.fanOut s).trans (.ofAm (startVerdict_am _)),
    ((fanOut_same s).trans (startVerdict_same (fanOut s))).sp, rfl⟩

/-- What the end of an event leaves of a flush: one that runs does not return to IDLE, and what started it stands; one
that does not run stays as it is, with the clean flag. -/
structure FlushGoesOn (s t : State) : Prop where
  goes : s.am.flush = .flushing → t.am.flush ≠ .idle
  rests : s.am.flush ≠ .flushing → t.am.flush = s.am.flush ∧ t.am.cleanFlag = s.am.cleanFlag
  forSupply : t.am.flushForSupply = s.am.flushForSupply
  start : t.am.flushStart = s.am.flushStart

namespace FlushGoesOn

variable {s t u : State}

theorem ofAm {state : ArchiveState} {pending : Bool} {holds : List Hold} {next : Nat} {dirty : List Nat}
    (h : t.am = { s.am with
      state := state, oflPending := pending, holds := holds, nextHold := next, dirty := dirty }) : FlushGoesOn s t where
  goes flushing := by simp [h, flushing]
  rests _ := by rw [h]; exact ⟨rfl, rfl⟩
  forSupply := by rw [h]
  start := by rw [h]

/-- A flush that is not IDLE never becomes so. -/
theorem not_idle (h : FlushGoesOn s t) (busy : s.am.flush ≠ .idle) : t.am.flush ≠ .idle := by
  by_cases flushing : s.am.flush = .flushing
  · exact h.goes flushing
  · rwa [(h.rests flushing).1]

theorem trans (h : FlushGoesOn s t) (k : FlushGoesOn t u) : FlushGoesOn s u where
  goes flushing := k.not_idle (h.goes flushing)
  rests resting := by
    obtain ⟨flush, clean⟩ := h.rests resting
    obtain ⟨flush', clean'⟩ := k.rests (flush ▸ resting)
    exact ⟨flush'.trans flush, clean'.trans clean⟩
  forSupply := k.forSupply.trans h.forSupply
  start := k.start.trans h.start

theorem ofHolds (h : OnlyHolds s t) : FlushGoesOn s t := by
  obtain ⟨_, _, _, am⟩ := h
  exact ofAm am

theorem offlineChange (s : State) : FlushGoesOn s (offlineChange s) := by
  unfold Machine.offlineChange
  split
  · exact ofAm ((abortExport_am _ _).trans (logTake_only _ _ _).am)
  · exact ofHolds (.refl s)

theorem flushStep (s : State) : FlushGoesOn s (flushStep s) := by
  by_cases flushing : s.am.flush = .flushing
  · by_cases barred : s.flushBarred
    · have am := flushStep_barred flushing barred
      exact ⟨fun _ => by rw [am]; exact FlushState.noConfusion, fun resting => absurd flushing resting,
        by rw [am]; rfl, by rw [am]; rfl⟩
    · obtain ⟨_, _, am⟩ := flushStep_free flushing barred
      exact ⟨fun _ => by simp [am, flushing], fun resting => absurd flushing resting,
        by rw [am], by rw [am]⟩
  · rw [flushStep_rests flushing]
    exact ofHolds (.refl s)

theorem settle (s : State) : FlushGoesOn s (settle s) := by
  obtain ⟨_, holds, -, eq⟩ := settle_steps s
  rw [eq]
  exact (((ofHolds holds).trans (offlineChange _)).trans (flushStep _)).trans (ofHolds (.fanOut _))

end FlushGoesOn

/-- A flush that nothing bars still runs at the end of an event, unless an OFL is pending. -/
theorem settle_flushing {s : State} (flushing : s.am.flush = .flushing) (free : ¬ s.flushBarred)
    (noOffline : s.am.oflPending = false) : (settle s).am.flush = .flushing := by
  obtain ⟨t, ⟨_, _, _, am⟩, sp, eq⟩ := settle_steps s
  have stays : offlineChange t = t :=
    if_neg fun due => by rw [am] at due; exact Bool.false_ne_true (noOffline.symm.trans due.1)
  have stillFree : ¬ t.flushBarred := by rwa [State.flushBarred, am, sp]
  obtain ⟨_, _, step⟩ := flushStep_free (by rw [am]; exact flushing) stillFree
  obtain ⟨_, _, _, fanned⟩ := OnlyHolds.fanOut (flushStep t)
  rw [eq, stays, State.modLc_am, fanned, step, am]
  exact flushing

/-! ### The filling buffers that an event queues (R190, R192) -/

theorem queueFilling_eq (i : Nat) (close : Bool) (s : State) : ∃ q,
    queueFilling i close s = (s.modRc i fun r => { r with filling := none }).modQueue fun _ => q := by
  unfold queueFilling
  split
  · next empty =>
    have unchanged : s.modRc i (fun r => { r with filling := none }) = s :=
      State.modSvc_eq_self (f := fun v => { v with rc := { v.rc with filling := none } }) (by rw [← empty])
    exact ⟨s.writeQueue, by rw [unchanged]; rfl⟩
  · exact ⟨_, rfl⟩

theorem foldl_modRc_modQueue (f : Recorder → Recorder) (g : List Buffer → List Buffer) (l : List Nat) (s : State) :
    l.foldl (fun t i => t.modRc i f) (s.modQueue g) = (l.foldl (fun t i => t.modRc i f) s).modQueue g := by
  induction l generalizing s with
  | nil => rfl
  | cons i l ih => exact ih (s.modRc i f)

theorem foldl_queueFilling_eq (l : List Nat) (s : State) : ∃ q,
    l.foldl (fun t i => queueFilling i false t) s =
      (l.foldl (fun t i => t.modRc i fun r => { r with filling := none }) s).modQueue fun _ => q := by
  induction l generalizing s with
  | nil => exact ⟨s.writeQueue, rfl⟩
  | cons i l ih =>
    obtain ⟨first, eq⟩ := queueFilling_eq i false s
    obtain ⟨q, rest⟩ := ih (queueFilling i false s)
    exact ⟨q, by rw [List.foldl_cons, List.foldl_cons, rest, eq, foldl_modRc_modQueue]; rfl⟩

theorem emptied_profile (s : State) (i : Nat) : (s.emptied.svc i).profile = (s.svc i).profile := by
  rw [State.svc, emptied_eq, List.getD_eq_getElem?_getD, foldl_modify_getElem? _ _ allServices_nodup, State.svc,
    List.getD_eq_getElem?_getD]
  split
  · cases s.services[i]? <;> rfl
  · rfl

/-- The services and the write queue alone change; no buffer is filling then, and every profile stands. -/
theorem queueAllFilling_eq (s : State) : ∃ vs q, queueAllFilling s = { s with services := vs, writeQueue := q } ∧
    (∀ i, i < 16 → (vs.getD i .reset).rc.filling = none) ∧ ∀ i, (vs.getD i .reset).profile = (s.svc i).profile := by
  obtain ⟨q, eq⟩ := foldl_queueFilling_eq allServices s
  obtain ⟨vs, emptied⟩ : ∃ vs, s.emptied = { s with services := vs, writeQueue := [] } := ⟨_, emptied_eq s⟩
  have filling (i : Nat) (hi : i < 16) := emptied_filling hi s
  have profile := emptied_profile s
  rw [emptied] at filling profile
  have queued : queueAllFilling s = s.emptied.modQueue fun _ => q := eq
  exact ⟨vs, q, by rw [queued, emptied]; rfl, filling, profile⟩

/-! ### The losses that follow an assertion of LOW_SUPPLY (R137, R138, R190) -/

/-- Of the services RC's marks and gap records alone may differ, and else the log and the condition table. -/
structure OnlyMarks (s t : State) : Prop where
  only : OnlyServices s t
  filling : ∀ i, (t.svc i).rc.filling = (s.svc i).rc.filling
  profile : ∀ i, (t.svc i).profile = (s.svc i).profile

namespace OnlyMarks

variable {s t u : State}

theorem ofLog (h : OnlyLog s t) : OnlyMarks s t where
  only := .ofLog h
  filling i := by rw [State.svc, h.services]; rfl
  profile i := by rw [State.svc, h.services]; rfl

theorem refl (s : State) : OnlyMarks s s := ofLog (.refl s)

theorem trans (h : OnlyMarks s t) (k : OnlyMarks t u) : OnlyMarks s u where
  only := h.only.trans k.only
  filling i := (k.filling i).trans (h.filling i)
  profile i := (k.profile i).trans (h.profile i)

theorem modRc {f : Recorder → Recorder} (kept : ∀ r, (f r).filling = r.filling) (i : Nat) (s : State) :
    OnlyMarks s (s.modRc i f) where
  only := .modSvc s i _
  filling j := State.modRc_svc_keeps Recorder.filling s i j kept
  profile j := State.modSvc_svc_keeps Service.profile s i j fun _ => rfl

theorem foldl {α : Type} {f : State → α → State} (h : ∀ s a, OnlyMarks s (f s a)) (l : List α) (s : State) :
    OnlyMarks s (l.foldl f s) := by
  induction l generalizing s with
  | nil => exact refl s
  | cons a l ih => exact (h s a).trans (ih _)

theorem recordLoss (i : Nat) (cause : GapCause) (opened : GapRecord) (s : State) :
    OnlyMarks s (recordLoss i cause opened s) := by
  unfold Machine.recordLoss
  split
  · exact (ofLog (openCond_only _ _ _ _ s)).trans (modRc (by exact fun _ => rfl) i _)
  · exact refl s

theorem intakeLoss (i : Nat) (cause : GapCause) (s : State) : OnlyMarks s (intakeLoss i cause s) :=
  (modRc (by exact fun _ => rfl) i s).trans (recordLoss i cause .intake _)

theorem supplyLosses (s : State) : OnlyMarks s (supplyLosses s) := foldl (fun t i => intakeLoss i .supply t) _ s

end OnlyMarks

/-! ### LOW_SUPPLY asserted (R190) -/

/-- The part with a level of the LOW_SUPPLY pin. -/
def State.withLevel (low : Bool) (s : State) : State := s.modPart fun p => { p with lowSupply := low }

/-- The flush that LOW_SUPPLY starts. -/
def Archive.startSupplyFlush (now : Nat) (a : Archive) : Archive :=
  { a with flush := .flushing, flushStart := now, flushForSupply := true }

/-- The part before the first step of a supply flush: it runs, no buffer is filling, and the losses are recorded. -/
structure SupplyFlushBegun (s u : State) : Prop where
  am : u.am = s.am.startSupplyFlush s.tb.stationTime
  part : u.part = s.part
  tb : u.tb = s.tb
  sp : u.sp = s.sp
  boot : u.cl.boot = s.cl.boot
  filling : ∀ i, i < 16 → (u.svc i).rc.filling = none
  profile : ∀ i, (u.svc i).profile = (s.svc i).profile

/-- With the flush IDLE an assertion begins a supply flush and takes its first step. -/
theorem assertSupply_idle {s : State} (idle : s.am.flush = .idle) :
    ∃ u, assertSupply s = flushStep u ∧ SupplyFlushBegun s u := by
  rw [assertSupply, if_pos idle, grouped]
  have reserved := logReserve_only (entriesOf startSupplyFlush s) s
  generalize logReserve (entriesOf startSupplyFlush s) s = r at reserved
  obtain ⟨vs, q, queued, empty, profiles⟩ := queueAllFilling_eq (r.modAm (Archive.startSupplyFlush r.now))
  have lost := OnlyMarks.supplyLosses (queueAllFilling (r.modAm (Archive.startSupplyFlush r.now)))
  refine ⟨_, rfl, ?_⟩
  show SupplyFlushBegun s (supplyLosses (queueAllFilling (r.modAm (Archive.startSupplyFlush r.now))))
  rw [queued] at lost ⊢
  obtain ⟨⟨_, only⟩, filling, profile⟩ := lost
  exact {
    am := only.am.trans (by rw [State.modAm, State.now, reserved.tb, reserved.am])
    part := only.part.trans reserved.part
    tb := only.tb.trans reserved.tb
    sp := only.sp.trans reserved.sp
    boot := only.boot.trans reserved.boot
    filling := fun i hi => (filling i).trans (empty i hi)
    profile := fun i => ((profile i).trans (profiles i)).trans (by rw [State.svc, State.svc, ← reserved.services]; rfl) }

/-- A supply flush runs where nothing bars it, and has reached FLUSHED elsewhere, at the end of the event that starts
it. -/
theorem settle_supplyFlush {s u : State} (begun : SupplyFlushBegun s u) (noOffline : s.am.oflPending = false) :
    (settle (flushStep u)).am.flush =
      if s.am.state = .online ∧ s.sp.faultLatched = false then .flushing else .flushed := by
  have flushing : u.am.flush = .flushing := by rw [begun.am]; rfl
  have barred : u.flushBarred ↔ s.flushBarred := by rw [State.flushBarred, begun.sp, begun.am]; rfl
  by_cases bars : s.flushBarred
  · have done := flushStep_barred flushing (barred.mpr bars)
    have rests : (flushStep u).am.flush ≠ .flushing := by rw [done]; exact FlushState.noConfusion
    rw [if_neg fun free => not_flushBarred.mpr free bars, ((FlushGoesOn.settle _).rests rests).1, done]
    rfl
  · obtain ⟨_, _, step⟩ := flushStep_free flushing (barred.not.mpr bars)
    rw [if_pos (not_flushBarred.mp bars)]
    refine settle_flushing (by rw [step]; exact flushing) ?_ (by rw [step, begun.am]; exact noOffline)
    rwa [State.flushBarred, (flushStep_same u).sp, step, begun.sp, begun.am]

theorem exec_lowSupplyAssert {s : State} (run : s.part.state = .run) (supplied : s.part.lowSupply = false) :
    exec .lowSupplyAssert s = .next (settle (assertSupply (s.withLevel true))) := by
  refine congrArg Host.Outcome.next ?_
  rw [supplied]
  exact if_pos run

/-! ### LOW_SUPPLY deasserted (R191) -/

theorem exec_lowSupplyDeassert {s : State} (run : s.part.state = .run) (low : s.part.lowSupply = true) :
    exec .lowSupplyDeassert s = .next (settle (deassertSupply (s.withLevel false))) := by
  refine congrArg Host.Outcome.next ?_
  rw [if_pos low]
  exact if_pos run

theorem cancelFlush_same (cancelled dirty : Bool) (s : State) : SameCore s (cancelFlush cancelled dirty s) := by
  refine SameCore.trans ?_ (logTake_same _ _ _)
  split <;> constructor <;> rfl

theorem cancelFlush_am (cancelled dirty : Bool) (s : State) : (cancelFlush cancelled dirty s).am =
    { s.am with
      flush := .idle
      cleanFlag := false
      dirty := if dirty then insertRising 0 s.am.dirty else s.am.dirty } := by
  refine (logTake_only _ _ _).am.trans ?_
  split <;> rfl

/-- A cancelled flush that leaves page 0 dirty. -/
theorem cancelFlush_dirty (cancelled : Bool) {dirty : Bool} (due : dirty = true) (s : State) :
    0 ∈ (cancelFlush cancelled dirty s).am.dirty := by
  rw [cancelFlush_am, if_pos due]
  exact mem_insertRising.mpr (.inl rfl)

/-- What the end of a deassertion's event leaves of a flush that it has ended. -/
theorem settle_ended {s : State} (idle : s.am.flush = .idle) (clear : s.am.cleanFlag = false) :
    (settle s).am.flush = .idle ∧ (settle s).am.cleanFlag = false := by
  obtain ⟨flush, clean⟩ := (FlushGoesOn.settle s).rests (by rw [idle]; decide)
  exact ⟨flush.trans idle, clean.trans clear⟩

section Deasserted

variable (s : State)

theorem deassertSupply_flushed (flushed : s.am.flush = .flushed) :
    deassertSupply s = cancelFlush false (decide (s.am.state = .online)) s := by rw [deassertSupply, flushed]

/-- The flush that an RST runs goes on (R192). -/
theorem deassertSupply_rstFlush (flushing : s.am.flush = .flushing) (forRst : s.am.flushForSupply = false) :
    deassertSupply s = s := by
  rw [deassertSupply, flushing]
  exact if_neg (Bool.eq_false_iff.mp forRst)

/-- A supply flush that runs is cancelled; with an RST pending the RST's own starts at once (log entry 16). -/
theorem deassertSupply_supplyFlush (flushing : s.am.flush = .flushing) (forSupply : s.am.flushForSupply = true) :
    deassertSupply s = if s.am.rstPending then
      (cancelFlush true s.am.cleanFlag s).modAm (Archive.startRstFlush s.now) else cancelFlush true s.am.cleanFlag s := by
  rw [deassertSupply, flushing]
  exact if_pos forSupply

theorem deassertSupply_same : SameCore s (deassertSupply s) := by
  unfold deassertSupply
  split
  · exact .refl s
  · have cancelled := cancelFlush_same true s.am.cleanFlag s
    split
    · dsimp only
      split
      · exact cancelled.trans (by constructor <;> rfl)
      · exact cancelled
    · exact .refl s
  · exact cancelFlush_same _ _ s

/-- The end of a deassertion that finds the flush FLUSHED (R191). -/
theorem settle_deassertSupply_flushed (flushed : s.am.flush = .flushed) :
    (settle (deassertSupply s)).am.flush = .idle ∧ (settle (deassertSupply s)).am.cleanFlag = false ∧
      (s.am.state = .online → 0 ∈ (settle (deassertSupply s)).am.dirty) := by
  have cancelled := cancelFlush_am false (decide (s.am.state = .online)) s
  rw [deassertSupply_flushed s flushed]
  obtain ⟨flush, clean⟩ := settle_ended (by rw [cancelled]) (by rw [cancelled])
  exact ⟨flush, clean, fun online => KeepsMarks.settle _ (cancelFlush_dirty false (decide_eq_true online) s)⟩

/-- The clean flag, once set on chip, leaves page 0 dirty (R191). -/
theorem settle_deassertSupply_dirty (flushing : s.am.flush = .flushing) (forSupply : s.am.flushForSupply = true)
    (clean : s.am.cleanFlag = true) : 0 ∈ (settle (deassertSupply s)).am.dirty := by
  have dirty := cancelFlush_dirty true clean s
  refine KeepsMarks.settle _ ?_
  rw [deassertSupply_supplyFlush s flushing forSupply]
  split
  · exact dirty
  · exact dirty

theorem settle_deassertSupply_noRst (flushing : s.am.flush = .flushing) (forSupply : s.am.flushForSupply = true)
    (noRst : s.am.rstPending = false) :
    (settle (deassertSupply s)).am.flush = .idle ∧ (settle (deassertSupply s)).am.cleanFlag = false := by
  have cancelled := cancelFlush_am true s.am.cleanFlag s
  rw [deassertSupply_supplyFlush s flushing forSupply, noRst, if_neg Bool.false_ne_true]
  exact settle_ended (by rw [cancelled]) (by rw [cancelled])

/-- The RST's own flush starts at this tick (log entry 16). -/
theorem settle_deassertSupply_rst (flushing : s.am.flush = .flushing) (forSupply : s.am.flushForSupply = true)
    (rst : s.am.rstPending = true) :
    (settle (deassertSupply s)).am.flush ≠ .idle ∧ (settle (deassertSupply s)).am.flushForSupply = false ∧
      (settle (deassertSupply s)).am.flushStart = s.tb.stationTime := by
  rw [deassertSupply_supplyFlush s flushing forSupply, if_pos rst]
  have goes := FlushGoesOn.settle ((cancelFlush true s.am.cleanFlag s).modAm (Archive.startRstFlush s.now))
  exact ⟨goes.goes rfl, goes.forSupply, goes.start⟩

end Deasserted

/-- Settles O29: the assertion begins a flush, whose first step ends it where it is barred; the deassertion ends a flush
that LOW_SUPPLY runs, or leaves it to the RST that waits; and the end of the event lets a flush go on. -/
theorem supplyStartsAndEndsFlush : Obligations.SupplyStartsAndEndsFlush := by
  unfold Obligations.SupplyStartsAndEndsFlush
  intro s run
  have same := (deassertSupply_same (s.withLevel false)).trans (settle_same _)
  refine ⟨fun supplied idle noOffline _ => ?_, fun low flushed => ?_, fun low flushing forSupply => ?_,
    fun low flushing forRst => ?_⟩
  · obtain ⟨u, eq, begun⟩ := assertSupply_idle (s := s.withLevel true) idle
    have step := (flushStep_same u).trans (settle_same (flushStep u))
    have flush := settle_supplyFlush begun noOffline
    have extents : u.am.extents = s.am.extents := by rw [begun.am]; rfl
    refine ⟨_, exec_lowSupplyAssert run supplied, ?_⟩
    rw [eq]
    exact ⟨step.part.trans begun.part, flush, fun i hi => by rw [State.svc, step.services]; exact begun.filling i hi,
      step.tb.trans begun.tb, step.sp.trans begun.sp, step.extents.trans extents⟩
  · obtain ⟨flush, clean, dirty⟩ := settle_deassertSupply_flushed (s.withLevel false) flushed
    exact ⟨_, exec_lowSupplyDeassert run low, same.part, flush, clean, dirty, same.services, same.tb, same.sp,
      same.extents⟩
  · have dirty := settle_deassertSupply_dirty (s.withLevel false) flushing forSupply
    have noRst := settle_deassertSupply_noRst (s.withLevel false) flushing forSupply
    have rst := settle_deassertSupply_rst (s.withLevel false) flushing forSupply
    exact ⟨_, exec_lowSupplyDeassert run low, same.part, dirty, noRst, rst, same.services, same.tb, same.sp,
      same.extents⟩
  · have goes := FlushGoesOn.settle (s.withLevel false)
    refine ⟨_, exec_lowSupplyDeassert run low, same, ?_⟩
    rw [deassertSupply_rstFlush (s.withLevel false) flushing forRst]
    exact goes.goes flushing

end Sys2Proof.Machine
end

section
/-! SUPPORT. RST, in RUN and where it resets at once, and its obligation (R173, R185, R192). -/

namespace Sys2Proof.Machine

/-! ### RST in RUN (R192) -/

/-- What the acceptance of an RST makes of the part: the mark is set, a flush runs or has run, and no buffer is filling. -/
structure RstAccepted (s t : State) : Prop where
  pending : t.am.rstPending = true
  flush : t.am.flush ≠ .idle
  filling : ∀ i, i < 16 → (t.svc i).rc.filling = none
  tb : t.tb = s.tb
  conditions : t.cu.conditions = s.cu.conditions
  sending : t.lc.sending = s.lc.sending

theorem acceptRst_accepted (s : State) : RstAccepted s (acceptRst s) := by
  obtain ⟨vs, q, eq, filling, -⟩ := queueAllFilling_eq
    (s.modAm fun a => { a with rstPending := true, rstReplyEnded := false, rstFlushed := false })
  unfold acceptRst
  rw [eq]
  dsimp only
  split
  · exact ⟨rfl, FlushState.noConfusion, filling, rfl, rfl, rfl⟩
  · next busy => exact ⟨rfl, busy, filling, rfl, rfl, rfl⟩

theorem opRst_accepts {s : State} (run : s.part.state = .run) (flush : s.am.flush ≠ .flushed) :
    opRst s = (acceptRst s, some (ascii "=RST")) := if_pos ⟨run, flush⟩

/-- With its reply before it the RST's flush goes on at the end of its event. -/
theorem RstAccepted.after {s t u : State} (accepted : RstAccepted s t) (same : SameCore t u) (goes : FlushGoesOn t u) :
    u.am.rstPending = true ∧ u.am.flush ≠ .idle ∧ (∀ i, i < 16 → (u.svc i).rc.filling = none) ∧ u.tb = s.tb ∧
      u.cu.conditions = s.cu.conditions :=
  ⟨same.rstPending.trans accepted.pending, goes.not_idle accepted.flush,
    fun i hi => by rw [State.svc, same.services]; exact accepted.filling i hi, same.tb.trans accepted.tb,
    same.conditions.trans accepted.conditions⟩

/-! ### RST where it resets at once (R185, R192) -/

/-- RST passes the gate in every part state, unless one is pending. -/
theorem gate_rst {s : State} (noRst : s.am.rstPending = false) : gate (verbOf .rst) s = none := by
  have before : answeredBeforeRun (verbOf .rst) = true := by decide
  simp [gate, before, noRst]

/-- A record that passes tests 2 and 3 and has no reply does what its verb does. -/
theorem runRecord_silent {v : Text} {op : State → Answer} {s e : State} (passed : gate v s = none)
    (does : op s = (e, none)) : runRecord v none op s = e := by
  simp only [runRecord, passed, does]
  rfl

theorem resetTo_still (cause : ResetCause) (s : State) : (resetTo cause s).still = true :=
  (by decide : State.reset.still = true)

theorem opRst_resets {s : State} (now : s.part.state ≠ .run ∨ s.am.flush = .flushed) :
    opRst s = (resetTo .command s, none) :=
  if_neg fun accepts => now.elim (· accepts.1) accepts.2

theorem exec_rst_resets {s : State} (idle : s.lineIdle = true) (noRst : s.am.rstPending = false)
    (now : s.part.state ≠ .run ∨ s.am.flush = .flushed) : exec .rst s = .next (s.restarted .command) := by
  have silent := runRecord_silent (gate_rst noRst) (opRst_resets now)
  refine congrArg Host.Outcome.next ((verbRow_idle opRst idle (by decide)).trans ?_)
  exact (congrArg settle silent).trans (settle_still _ (resetTo_still .command s))

/-- Settles O52: in RUN the acceptance and the end of its event; elsewhere the reset, after which nothing is left. -/
theorem rstFlushesOrResets : Obligations.RstFlushesOrResets := by
  unfold Obligations.RstFlushesOrResets
  refine fun s => ⟨fun ready _ flush => ?_, fun resets => ?_⟩
  · obtain ⟨sending, -, -, run, -⟩ := ready_parts ready
    have sent : sendable .rst = true := by decide
    have fit : fits (ascii "=RST") = true := by decide
    have op := opRst_accepts run flush
    have accepted := acceptRst_accepted s
    refine ⟨verbRow .rst opRst s,
      ⟨rfl, verbRow_answered _ _ _ _ _ ready sent op fit (accepted.sending.trans sending)⟩, ?_⟩
    have goes := FlushGoesOn.settle (putReply (acceptRst s, some (ascii "=RST")))
    rw [← verbRow_ready .rst opRst s _ _ ready sent op fit] at goes
    exact accepted.after (verbRow_same ready sent op fit) ⟨goes.goes, goes.rests, goes.forSupply, goes.start⟩
  · obtain ⟨ready, flushed⟩ | ⟨before, noRst, idle⟩ := resets
    · obtain ⟨-, -, idle, -, noRst⟩ := ready_parts ready
      exact exec_rst_resets idle noRst (.inr flushed)
    · exact exec_rst_resets idle noRst (.inl before)

end Sys2Proof.Machine
end

section
/-! SUPPORT. The end of the probe in START: the mount's first read, or the entry to RUN without an archive, with LOW_SUPPLY
asserted too, and its obligation (R185 to R187). -/

namespace Sys2Proof.Machine

/-! ### The archive at the end of an event that leaves OFL and the flush (R151, R190) -/

/-- The end of an event changes of the archive what TU's holds do, unless an OFL or a flush is due. -/
theorem OnlyHolds.settle_of_rests {s : State} (noOffline : ¬ (s.am.oflPending ∧ s.sp.operation.isNone))
    (rests : s.am.flush ≠ .flushing) : OnlyHolds s (Machine.settle s) := by
  obtain ⟨t, holds, sp, eq⟩ := settle_steps s
  obtain ⟨_, _, _, am⟩ := id holds
  have stays : offlineChange t = t := if_neg (by rw [am, sp]; exact noOffline)
  rw [eq, stays, flushStep_rests (by rw [am]; exact rests)]
  exact holds.trans (.fanOut _)

/-! ### Entry to RUN with no service enabled (R187) -/

theorem enterRun_of_disabled {s : State} (disabled : ∀ i, (s.svc i).profile.enabled = false) (shutdown : Shutdown)
    (outcome : MountOutcome) : enterRun shutdown outcome s =
      if s.part.lowSupply then assertSupply (runEntered shutdown outcome s) else runEntered shutdown outcome s := by
  have only := runEntered_only shutdown outcome s
  have noService : (runEntered shutdown outcome s).enabledServices = [] :=
    List.filter_eq_nil_iff.mpr fun i _ => by
      rw [State.svc, only.services]
      exact Bool.eq_false_iff.mp (disabled i)
  have nothing : gapsOpened (servicesStarted (runEntered shutdown outcome s)) = runEntered shutdown outcome s := by
    rw [servicesStarted, noService, List.foldl_nil, gapsOpened, noService, List.filter_nil, List.foldl_nil]
  rw [enterRun_eq, nothing, only.part]
  rfl

/-! ### The end of a mount without an archive, at a reset (R186) -/

/-- The part has entered RUN without an archive, and no flush runs. -/
structure EnteredWithout (state : ArchiveState) (s t : State) : Prop where
  part : t.part = { s.part with state := .run }
  state : t.am.state = state
  mount : t.am.mount = .idle
  oflPending : t.am.oflPending = s.am.oflPending
  rests : t.am.flush ≠ .flushing
  sp : t.sp = s.sp
  boot : t.cl.boot = 0
  profile : ∀ i, (t.svc i).profile = .default
  tb : t.tb = s.tb

section Without

variable {s : State} {state : ArchiveState}

theorem withoutArchive_profile (s : State) (i : Nat) : ((s.withoutArchive state).svc i).profile = .default := by
  rw [State.withoutArchive, takeBoot_profile, defaultSettings_profile]

theorem runEntered_without (rests : s.am.flush ≠ .flushing) (outcome : MountOutcome) :
    EnteredWithout state s (runEntered .unknown outcome (s.withoutArchive state)) := by
  have only := runEntered_only .unknown outcome (s.withoutArchive state)
  exact {
    part := only.part
    state := congrArg Archive.state only.am
    mount := congrArg Archive.mount only.am
    oflPending := by rw [only.am]; rfl
    rests := by rw [only.am]; exact rests
    sp := only.sp
    boot := only.boot
    profile := fun i => by rw [State.svc, only.services]; exact withoutArchive_profile s i
    tb := only.tb }

/-- A supply flush ends at once where there is no archive (R190). -/
theorem EnteredWithout.assertSupply {t : State} (entered : EnteredWithout state s t) (offline : state ≠ .online) :
    EnteredWithout state s (assertSupply t) := by
  by_cases idle : t.am.flush = .idle
  · obtain ⟨u, eq, begun⟩ := assertSupply_idle idle
    have barred : u.flushBarred := .inr (by rw [begun.am]; exact entered.state ▸ offline)
    have done := flushStep_barred (by rw [begun.am]; rfl) barred
    have same := flushStep_same u
    rw [begun.am] at done
    rw [eq]
    exact {
      part := (same.part.trans begun.part).trans entered.part
      state := (congrArg Archive.state done).trans entered.state
      mount := (congrArg Archive.mount done).trans entered.mount
      oflPending := (congrArg Archive.oflPending done).trans entered.oflPending
      rests := by rw [done]; exact FlushState.noConfusion
      sp := (same.sp.trans begun.sp).trans entered.sp
      boot := (same.boot.trans begun.boot).trans entered.boot
      profile := fun i => by
        rw [State.svc, same.services]
        exact (begun.profile i).trans (entered.profile i)
      tb := (same.tb.trans begun.tb).trans entered.tb }
  · rwa [Machine.assertSupply, if_neg idle]

theorem mountWithout_enters (rests : s.am.flush ≠ .flushing) (offline : state ≠ .online) (outcome : MountOutcome) :
    EnteredWithout state s (mountWithout state outcome s) := by
  have entered := runEntered_without (state := state) rests outcome
  have disabled (i : Nat) : ((s.withoutArchive state).svc i).profile.enabled = false := by
    rw [withoutArchive_profile]; rfl
  have eq : mountWithout state outcome s = _ := enterRun_of_disabled disabled .unknown outcome
  rw [eq]
  split
  · exact entered.assertSupply offline
  · exact entered

/-- What the end of its event leaves of a part that has entered RUN without an archive. -/
theorem EnteredWithout.settle {t : State} (entered : EnteredWithout state s t)
    (noOffline : ¬ (s.am.oflPending ∧ s.sp.operation.isNone)) : EnteredWithout state s (settle t) := by
  have same := settle_same t
  obtain ⟨_, _, _, am⟩ := OnlyHolds.settle_of_rests (s := t)
    (by rw [entered.oflPending, entered.sp]; exact noOffline) entered.rests
  exact {
    part := same.part.trans entered.part
    state := (congrArg Archive.state am).trans entered.state
    mount := (congrArg Archive.mount am).trans entered.mount
    oflPending := (congrArg Archive.oflPending am).trans entered.oflPending
    rests := by rw [am]; exact entered.rests
    sp := same.sp.trans entered.sp
    boot := same.boot.trans entered.boot
    profile := fun i => by rw [settle_svc]; exact entered.profile i
    tb := same.tb.trans entered.tb }

/-- With LOW_SUPPLY deasserted the entries are of no service, and the end of the event adds none. -/
theorem settle_mountWithout_ring (settled : s.settled = true) (supplied : s.part.lowSupply = false)
    (outcome : MountOutcome) :
    (settle (mountWithout state outcome s)).cl.ring = (mountWithout state outcome s).cl.ring := by
  have before : ((s.withoutArchive state).modPart fun p => { p with state := .run }).settled = true := settled
  have noService : ∀ e ∈ (s.withoutArchive state).cl.handed, e.service = none := fun e waits =>
    absurd (show e ∈ s.cl.handed from waits) (handed_of_settled settled ▸ List.not_mem_nil)
  rw [mountWithout_eq supplied, settle_device (runEntered_handed noService .unknown outcome)
    (settled_ofLog (runEntered_only .unknown outcome (s.withoutArchive state)) before)]
  rfl

end Without

/-! ### The end of the probe (R185) -/

theorem still_parts {s : State} (still : s.still = true) :
    s.settled = true ∧ s.lc.startSending = s.lc := by simpa [State.still] using still

/-- No OFL is due in a settled part. -/
theorem settled_noOffline {s : State} (settled : s.settled = true) :
    ¬ (s.am.oflPending ∧ s.sp.operation.isNone) := by
  simp only [State.settled, Bool.and_eq_true, Bool.not_eq_true', Bool.and_eq_false_iff] at settled
  rintro ⟨pending, free⟩
  simp [pending, free] at settled

section Probe

variable {s : State}

theorem exec_probeEnd (probing : s.am.mount = .probing) (capacity : Option Nat) :
    exec (.probeEnd capacity) s = .next (settle (probeEnds capacity s)) := congrArg Host.Outcome.next (if_pos probing)

/-- The part in MOUNT with the read of page 0 begun. -/
def State.mountBegun (n : Nat) (s : State) : State :=
  startOperation (.mountRead 0) ((enterMount s).modAm fun a => { a with mount := .reading [], capacity := some n })

/-- With a valid capacity the mount's first operation is the read of page 0. -/
theorem probeEnds_valid {n : Nat} (start : s.part.state = .start) (least : 1024 ≤ n) (most : n ≤ 1048576) :
    probeEnds (some n) s = s.mountBegun n := by
  have valid : (some n).filter capacityOk = some n := by simp [capacityOk, least, most]
  have notRun : s.part.state ≠ .run := by rw [start]; decide
  simp only [probeEnds, valid, if_neg notRun]
  exact mountGoesOn_read (mountNext_nil n)

/-- A part at rest stays so when the mount's first read begins. -/
theorem mountBegun_still (still : s.still = true) (n : Nat) : (s.mountBegun n).still = true := by
  obtain ⟨settled, rests⟩ := still_parts still
  have busy : (s.mountBegun n).settled = true := settled_busy settled rfl
  rw [State.still, busy, Bool.true_and]
  exact decide_eq_true rests

/-- Without one the mount ends UNAVAILABLE. -/
theorem probeEnds_invalid {capacity : Option Nat} (start : s.part.state = .start)
    (invalid : ∀ n, capacity = some n → n < 1024 ∨ 1048576 < n) :
    probeEnds capacity s = mountWithout .unavailable .unavailable (enterMount s) := by
  have none_valid : capacity.filter capacityOk = none := by
    refine Option.filter_eq_none_iff.mpr fun n found ok => ?_
    have := invalid n found
    have := of_decide_eq_true ok
    omega
  have notRun : s.part.state ≠ .run := by rw [start]; decide
  have mount : (enterMount s).part.state ≠ .run := PartState.noConfusion
  simp only [probeEnds, none_valid, if_neg notRun, mountEndsWithout, if_neg mount]

end Probe

/-- Settles O32: with a valid capacity the read of page 0 is all that the event brings about; else the part enters RUN
with default profiles, and with them no service has an entry. -/
theorem probeEndEntersMount : Obligations.ProbeEndEntersMount := by
  unfold Obligations.ProbeEndEntersMount
  refine fun s start probing still => ⟨fun n least most => ?_, fun capacity invalid => ?_⟩
  · rw [exec_probeEnd probing, probeEnds_valid start least most, settle_still _ (mountBegun_still still n)]
    rfl
  · obtain ⟨settled, -⟩ := still_parts still
    have rests := (settled_parts settled).2
    have entered := (mountWithout_enters (s := enterMount s) (state := .unavailable) rests (by decide)
      .unavailable).settle (settled_noOffline settled)
    refine ⟨_, exec_probeEnd probing capacity, ?_⟩
    rw [probeEnds_invalid start invalid]
    refine ⟨entered.part, entered.state, entered.mount, entered.boot, fun i _ => entered.profile i, entered.tb,
      fun supplied locked room => ?_⟩
    have ring := mountWithout_ring (s := enterMount s) supplied locked room .unavailable .unavailable
    rw [settle_mountWithout_ring (s := enterMount s) settled supplied, ring]
    exact congrArg (fun d => ringJoin s.cl.ring ⟨0, s.cl.lastSeq + 1, s.tb.stationTime, s.wallNow, none,
      .reset s.part.cause .unknown .unavailable d⟩) (elapsed_self _)

end Sys2Proof.Machine
end

section
/-! SUPPORT. What a step does with the queue, and the formats of the two binary lines in chapter 12, with their
obligations (R169, R193, R194). -/

namespace Sys2Proof.Machine

/-! ### One step -/

theorem step_front (c : Instr) (s : State) : step { s with pending := c :: s.pending } = exec c s := rfl

theorem step_idle {s : State} (none_waits : s.pending = []) : step s = .next s := by
  unfold step
  rw [none_waits]

/-- No arm of the dispatch ends in a fault or in a refusal. -/
theorem exec_goes_on (c : Instr) (s : State) : ∃ t, exec c s = .next t := by
  cases c <;> exact ⟨_, rfl⟩

/-- Settles O1: the dispatch gives every command a next state. -/
theorem stepRunsFrontCommand : Obligations.StepRunsFrontCommand :=
  ⟨step_front, fun _ => step_idle, exec_goes_on⟩

/-! ### The bits of frames on their line (R194) -/

theorem length_byteBits (b : Byte) : (byteBits b).length = 8 := by simp [byteBits]

/-- A byte leaves its most significant bit first. -/
theorem getElem?_byteBits (b : Byte) {j : Nat} (inside : j < 8) : (byteBits b)[j]? = some (b.getLsbD (7 - j)) := by
  have order : (List.range 8).reverse[j]? = some (7 - j) := by
    rw [List.getElem?_reverse (by simpa using inside), List.length_range, List.getElem?_range (by omega)]
  rw [byteBits, List.getElem?_map, order, Option.map_some]

theorem lineBits_cons (b : Byte) (bytes : List Byte) : lineBits (b :: bytes) = byteBits b ++ lineBits bytes := rfl

theorem lineBits_append (u v : List Byte) : lineBits (u ++ v) = lineBits u ++ lineBits v := by simp [lineBits]

theorem length_lineBits (bytes : List Byte) : (lineBits bytes).length = 8 * bytes.length := by
  induction bytes with
  | nil => rfl
  | cons b bytes ih =>
    rw [lineBits_cons, List.length_append, length_byteBits, ih, List.length_cons]
    omega

theorem getElem?_lineBits (bytes : List Byte) (k j : Nat) (present : k < bytes.length) (inside : j < 8) :
    (lineBits bytes)[8 * k + j]? = some ((bytes.getD k 0).getLsbD (7 - j)) := by
  induction bytes generalizing k with
  | nil => exact absurd present (Nat.not_lt_zero k)
  | cons b bytes ih =>
    rw [lineBits_cons]
    cases k with
    | zero =>
      rw [List.getElem?_append_left (by rw [length_byteBits]; omega), Nat.mul_zero, Nat.zero_add,
        getElem?_byteBits b inside]
      rfl
    | succ k =>
      have past : 8 * (k + 1) + j - (byteBits b).length = 8 * k + j := by rw [length_byteBits]; omega
      rw [List.getElem?_append_right (by rw [length_byteBits]; omega), past, ih k (Nat.lt_of_succ_lt_succ present)]
      rfl

/-! ### Frames that a reset cuts off (R169, R194) -/

theorem length_bytesOf (w n : Nat) : (bytesOf w n).length = w := by
  induction w generalizing n with
  | zero => rfl
  | succ w ih => rw [bytesOf, List.length_append, ih, List.length_singleton]

/-- A frame's bits are those of what its CRC covers, and then those of its CRC. -/
theorem Frame.bits_eq (f : Frame) : f.bits = lineBits f.covered ++ lineBits (bytesOf 4 (crc32 f.covered).toNat) :=
  lineBits_append f.covered _

theorem Frame.cut_prefix (f : Frame) (n : Nat) : f.cut n <+: f.bits := by
  rw [f.bits_eq]
  exact (List.take_prefix n _).trans (List.prefix_append _ _)

theorem Frame.cut_before_crc (f : Frame) (n : Nat) : (f.cut n).length + 32 ≤ f.bits.length := by
  have cut : (f.cut n).length ≤ (lineBits f.covered).length := List.length_take_le' n _
  have whole : f.bits.length = (lineBits f.covered).length + 32 := by
    rw [f.bits_eq, List.length_append, length_lineBits (bytesOf _ _), length_bytesOf]
  omega

/-- The CRC-32 example of section 12.4. -/
theorem crc32_example : crc32 (asciiBytes (ascii "123456789")) = 0xFC891918#32 := by decide +kernel

/-- Settles O28: the two examples are computed, and the order of bits holds of a run byte by byte. -/
theorem formatsOfTheLines : Obligations.FormatsOfTheLines :=
  ⟨crc32_example, by decide, getElem?_lineBits, fun f n => ⟨f.cut_prefix n, f.cut_before_crc n⟩⟩

end Sys2Proof.Machine
end

section
/-! SUPPORT. The records of the archive's directory as fields one after another, and what reading them back gives, with
their obligation (section 12.3, R186). -/

namespace Sys2Proof.Machine
/-! ### Numbers as bytes -/

theorem numberOf_bytesOf (w n : Nat) : numberOf (bytesOf w n) = n % 256 ^ w := by
  induction w generalizing n with
  | zero => rw [pow_zero, Nat.mod_one]; rfl
  | succ w ih =>
    have last : numberOf (bytesOf (w + 1) n) = numberOf (bytesOf w (n / 256)) * 256 + n % 256 := by
      simp [numberOf, bytesOf, List.foldl_append]
    rw [last, ih, Nat.pow_succ', Nat.mod_mul]
    omega

/-- A field that begins after the first bytes is read from the bytes after them. -/
theorem fieldAt_append_right {u : List Byte} {offset : Nat} (h : u.length ≤ offset) (v : List Byte) (width : Nat) :
    fieldAt (u ++ v) offset width = fieldAt v (offset - u.length) width := by
  unfold fieldAt
  refine congrArg numberOf (List.map_congr_left fun k _ => ?_)
  have place : offset + k - u.length = offset - u.length + k := by omega
  rw [List.getD_eq_getElem?_getD, List.getD_eq_getElem?_getD, List.getElem?_append_right (by omega), place]

theorem fieldAt_whole (u : List Byte) : fieldAt u 0 u.length = numberOf u := by
  refine congrArg numberOf (List.ext_getElem (by simp) fun k _ inside => ?_)
  simp [List.getElem?_eq_getElem inside]

/-- A number at the front is read as it was written, but for what lies above its bytes. -/
theorem fieldAt_bytesOf (w n : Nat) (v : List Byte) : fieldAt (bytesOf w n ++ v) 0 w = n % 256 ^ w := by
  have front : fieldAt (bytesOf w n) 0 w = numberOf (bytesOf w n) := by
    simpa only [length_bytesOf] using fieldAt_whole (bytesOf w n)
  rw [fieldAt_append (by rw [length_bytesOf, Nat.zero_add]), front, numberOf_bytesOf]

/-- Two's complement gives a number of its range back. -/
theorem signedOf_residue (k : Nat) {n : Int} (least : -2 ^ (8 * k + 7) ≤ n) (most : n < 2 ^ (8 * k + 7)) :
    signedOf (k + 1) (n % 2 ^ (8 * (k + 1))).toNat = n := by
  have twice : (2 : Int) ^ (8 * (k + 1)) = 2 * 2 ^ (8 * k + 7) := by rw [← pow_succ']; rfl
  have half : 8 * (k + 1) - 1 = 8 * k + 7 := by omega
  have cast : ((2 ^ (8 * k + 7) : Nat) : Int) = 2 ^ (8 * k + 7) := by norm_cast
  rw [signedOf, half, twice]
  generalize (2 : Int) ^ (8 * k + 7) = p at *
  rcases Int.lt_or_le n 0 with negative | natural
  · have residue : n % (2 * p) = n + 2 * p := by
      rw [← Int.add_emod_right, Int.emod_eq_of_lt (by omega) (by omega)]
    rw [residue, if_neg (by omega)]
    omega
  · rw [Int.emod_eq_of_lt natural (by omega), if_pos (by omega)]
    omega

/-! ### Fields one after another -/

/-- Numbers one after another, each a field's width and value. -/
def packed (fields : List (Nat × Nat)) : List Byte := (fields.map fun f => bytesOf f.1 f.2).flatten

/-- The value of the field of a width at an offset, none where no field of that width begins. -/
def fieldIn : List (Nat × Nat) → Nat → Nat → Option Nat
  | [], _, _ => none
  | (w, n) :: fields, offset, width =>
    if offset = 0 ∧ width = w then some n
    else if w ≤ offset then fieldIn fields (offset - w) width
    else none

theorem packed_nil : packed [] = [] := rfl

theorem packed_cons (w n : Nat) (fields : List (Nat × Nat)) :
    packed ((w, n) :: fields) = bytesOf w n ++ packed fields :=
  rfl

theorem packed_append (u v : List (Nat × Nat)) : packed (u ++ v) = packed u ++ packed v := by simp [packed]

/-- What stands in a record is what is read of it. -/
theorem fieldAt_packed {fields : List (Nat × Nat)} {offset width n : Nat} (found : fieldIn fields offset width = some n)
    (fill : List Byte) : fieldAt (packed fields ++ fill) offset width = n % 256 ^ width := by
  induction fields generalizing offset with
  | nil => cases found
  | cons f fields ih =>
    obtain ⟨w, m⟩ := f
    rw [packed_cons, List.append_assoc]
    unfold fieldIn at found
    split at found
    case isTrue here =>
      obtain ⟨rfl, rfl⟩ := here
      cases found
      exact fieldAt_bytesOf _ _ _
    case isFalse =>
      split at found
      case isTrue later =>
        rw [fieldAt_append_right (by rwa [length_bytesOf]), length_bytesOf]
        exact ih found
      case isFalse => cases found

/-- The record's bytes are these fields one after another, with zeros after them. -/
def WrittenFrom (record : List Byte) (fields : List (Nat × Nat)) : Prop := ∃ fill, record = packed fields ++ zeros fill

/-- A signed number as a field in two's complement. -/
def signedField (width : Nat) (n : Int) : Nat × Nat := (width, (n % 2 ^ (8 * width)).toNat)

section Reading

variable {record : List Byte} {fields : List (Nat × Nat)} {offset : Nat}

theorem WrittenFrom.number (written : WrittenFrom record fields) {width n : Nat}
    (found : fieldIn fields offset width = some n) (small : n < 256 ^ width) : fieldAt record offset width = n := by
  obtain ⟨fill, rfl⟩ := written
  rw [fieldAt_packed found, Nat.mod_eq_of_lt small]

theorem WrittenFrom.signed (written : WrittenFrom record fields) {k : Nat} {n : Int}
    (found : fieldIn fields offset (k + 1) = some (signedField (k + 1) n).2) (least : -2 ^ (8 * k + 7) ≤ n)
    (most : n < 2 ^ (8 * k + 7)) : signedOf (k + 1) (fieldAt record offset (k + 1)) = n := by
  have positive : (0 : Int) < 2 ^ (8 * (k + 1)) := by positivity
  have below : (signedField (k + 1) n).2 < 256 ^ (k + 1) := by
    have := Int.emod_lt_of_pos n positive
    have bytes : (256 : Nat) ^ (k + 1) = 2 ^ (8 * (k + 1)) := by rw [Nat.pow_mul]
    rw [bytes, signedField, Int.toNat_lt (Int.emod_nonneg n positive.ne')]
    exact_mod_cast this
  rw [written.number found below]
  exact signedOf_residue k least most

theorem WrittenFrom.mark (written : WrittenFrom record fields) {b : Bool}
    (found : fieldIn fields offset 1 = some (flagBit b 0)) : fieldAt record offset 1 = flagBit b 0 :=
  written.number found (by cases b <;> decide)

theorem WrittenFrom.flag (written : WrittenFrom record fields) {b : Bool}
    (found : fieldIn fields offset 1 = some (flagBit b 0)) : decide (fieldAt record offset 1 = 1) = b := by
  rw [written.mark found]
  cases b <;> rfl

end Reading

/-! ### Hold records -/

/-- The fields of a hold record, in the order of section 12.3. -/
def Hold.fields (h : Hold) : List (Nat × Nat) :=
  [(2, h.id), (1, h.service), (1, h.reason.code), (4, h.lo), (4, h.hi),
    (1, flagBit h.origin.isSome 0 + flagBit h.keepUntil.isSome 1), (4, h.origin.getD 0), (4, h.keepUntil.getD 0)]

theorem encodeHold_written (h : Hold) : WrittenFrom (encodeHold h) h.fields :=
  ⟨11, by simp [encodeHold, Hold.fields, packed]⟩

theorem holdReasonOf_code (r : HoldReason) : holdReasonOf r.code = some r := by cases r <;> rfl

theorem HoldReason.code_lt (r : HoldReason) : r.code < 256 := by cases r <;> decide

theorem flagPair_le (a b : Bool) : flagBit a 0 + flagBit b 1 ≤ 3 := by revert a b; decide

theorem testBit_flagPair (a b : Bool) :
    (flagBit a 0 + flagBit b 1).testBit 0 = a ∧ (flagBit a 0 + flagBit b 1).testBit 1 = b := by revert a b; decide

/-- A value with its mark reads back. -/
theorem marked_eq (x : Option Nat) : (if x.isSome then some (x.getD 0) else none) = x := by cases x <;> rfl

theorem getD_lt {x : Option Nat} {bound : Nat} (positive : 0 < bound) (below : ∀ n, x = some n → n < bound) :
    x.getD 0 < bound := by
  cases x with
  | none => exact positive
  | some n => exact below n rfl

theorem decodeHold_encodeHold (h : Hold) (least : 1 ≤ h.id) (most : h.id ≤ 65535) (service : h.service ≤ 15)
    (range : h.lo ≤ h.hi) (last : h.hi ≤ 4294967295) (origin : ∀ n, h.origin = some n → n ≤ 4294967295)
    (keep : ∀ n, h.keepUntil = some n → n ≤ 4294967295) : decodeHold (encodeHold h) = some h := by
  have written := encodeHold_written h
  have id := written.number (offset := 0) (width := 2) rfl (show h.id < _ by omega)
  have svc := written.number (offset := 2) (width := 1) rfl (show h.service < _ by omega)
  have reason := written.number (offset := 3) (width := 1) rfl h.reason.code_lt
  have lo := written.number (offset := 4) (width := 4) rfl (show h.lo < _ by omega)
  have hi := written.number (offset := 8) (width := 4) rfl (show h.hi < _ by omega)
  have flags := written.number (offset := 12) (width := 1) rfl
    (Nat.lt_of_le_of_lt (flagPair_le h.origin.isSome h.keepUntil.isSome) (by decide))
  have began := written.number (offset := 13) (width := 4) rfl
    (getD_lt (by decide) fun n named => Nat.lt_succ_of_le (origin n named))
  have kept := written.number (offset := 17) (width := 4) rfl
    (getD_lt (by decide) fun n named => Nat.lt_succ_of_le (keep n named))
  obtain ⟨first, second⟩ := testBit_flagPair h.origin.isSome h.keepUntil.isSome
  simp only [decodeHold, id, svc, reason, lo, hi, flags, began, kept, holdReasonOf_code, first, second, marked_eq]
  exact if_pos ⟨least, service, range, flagPair_le _ _⟩

/-! ### Trigger records -/

/-- The fields of a set slot's trigger record, in the order of section 12.3. -/
def Trigger.fields (t : Trigger) : List (Nat × Nat) :=
  [(1, 1), (1, t.event.codes.1), (1, t.event.codes.2), (1, t.service.getD 255), (1, t.action.code), (2, t.pre),
    (2, t.post)]

theorem encodeTrigger_written (t : Trigger) : WrittenFrom (encodeTrigger (some t)) t.fields :=
  ⟨7, by simp [encodeTrigger, Trigger.fields, packed]⟩

/-- The codes of section 12.3 name every event of R163, each in one byte. -/
theorem eventOfCodes_codes :
    ∀ e ∈ triggerEvents, eventOfCodes e.codes.1 e.codes.2 = some e ∧ e.codes.1 < 256 ∧ e.codes.2 < 256 := by decide

theorem actionOfCode_code (a : TriggerAction) : actionOfCode a.code = some a := by cases a <;> rfl

theorem TriggerAction.code_lt (a : TriggerAction) : a.code < 256 := by cases a <;> decide

/-- The service's byte: 0..15, or 255 for ALL. -/
theorem serviceByte {x : Option Nat} (named : ∀ n, x = some n → n ≤ 15) :
    (x.getD 255 ≤ 15 ∨ x.getD 255 = 255) ∧ x.getD 255 < 256 ∧
      (if x.getD 255 = 255 then none else some (x.getD 255)) = x := by
  cases x with
  | none => decide
  | some n =>
    have small : n ≤ 15 := named n rfl
    exact ⟨.inl small, by simp only [Option.getD_some]; omega, if_neg (by simp only [Option.getD_some]; omega)⟩

theorem triggerRangesOk_iff (b : List Byte) :
    triggerRangesOk b = true ↔
      (fieldAt b 3 1 ≤ 15 ∨ fieldAt b 3 1 = 255) ∧ fieldAt b 5 2 ≤ 600 ∧ fieldAt b 7 2 ≤ 600 := by
  simp [triggerRangesOk, and_assoc]

/-- A record in its ranges with the codes of a set slot. -/
theorem decodeTrigger_set {b : List Byte} {e : TriggerEvent} {a : TriggerAction} (ranges : triggerRangesOk b = true)
    (set : fieldAt b 0 1 = 1) (event : eventOfCodes (fieldAt b 1 1) (fieldAt b 2 1) = some e)
    (action : actionOfCode (fieldAt b 4 1) = some a) :
    decodeTrigger b = some (some ⟨e, if fieldAt b 3 1 = 255 then none else some (fieldAt b 3 1), a, fieldAt b 5 2,
      fieldAt b 7 2⟩) := by
  simp only [decodeTrigger, triggerCodes, ranges, set, event, action, if_true]

theorem decodeTrigger_encodeTrigger (t : Trigger) (event : t.event ∈ triggerEvents)
    (service : ∀ n, t.service = some n → n ≤ 15) (pre : t.pre ≤ 600) (post : t.post ≤ 600) :
    decodeTrigger (encodeTrigger (some t)) = some (some t) := by
  have written := encodeTrigger_written t
  obtain ⟨named, codeSmall, classSmall⟩ := eventOfCodes_codes t.event event
  obtain ⟨legal, byteSmall, reads⟩ := serviceByte service
  have set := written.number (offset := 0) (width := 1) rfl (show 1 < _ by decide)
  have code := written.number (offset := 1) (width := 1) rfl codeSmall
  have cls := written.number (offset := 2) (width := 1) rfl classSmall
  have svc := written.number (offset := 3) (width := 1) rfl byteSmall
  have action := written.number (offset := 4) (width := 1) rfl t.action.code_lt
  have before := written.number (offset := 5) (width := 2) rfl (show t.pre < _ by omega)
  have after := written.number (offset := 7) (width := 2) rfl (show t.post < _ by omega)
  have ranges : triggerRangesOk (encodeTrigger (some t)) = true := by
    rw [triggerRangesOk_iff, svc, before, after]
    exact ⟨legal, pre, post⟩
  rw [decodeTrigger_set ranges set (by rw [code, cls, named]) (by rw [action, actionOfCode_code]), svc, before, after,
    reads]

theorem decodeTrigger_clear : decodeTrigger (encodeTrigger none) = some none := by decide

/-- A service or a window outside its values (R186 step 4), in a clear slot too (log entry 18). -/
theorem decodeTrigger_refuses {b : List Byte}
    (outside : (15 < fieldAt b 3 1 ∧ fieldAt b 3 1 ≠ 255) ∨ 600 < fieldAt b 5 2 ∨ 600 < fieldAt b 7 2) :
    decodeTrigger b = none := by
  have ranges : ¬ triggerRangesOk b = true := by
    rw [triggerRangesOk_iff]
    omega
  exact if_neg ranges

/-! ### Bits of a sum of marks -/

theorem sum_flagBits_lt (f : Nat → Bool) (n : Nat) : ((List.range n).map fun k => flagBit (f k) k).sum < 2 ^ n := by
  induction n with
  | zero => exact Nat.one_pos
  | succ n ih =>
    have most : flagBit (f n) n ≤ 2 ^ n := by cases f n <;> simp [flagBit]
    rw [List.range_succ, List.map_append, List.sum_append, List.map_singleton, List.sum_singleton, Nat.pow_succ]
    omega

theorem testBit_sum_flagBits (f : Nat → Bool) {n k : Nat} (inside : k < n) :
    ((List.range n).map fun k => flagBit (f k) k).sum.testBit k = f k := by
  induction n with
  | zero => exact absurd inside (Nat.not_lt_zero k)
  | succ n ih =>
    have small := sum_flagBits_lt f n
    rw [List.range_succ, List.map_append, List.sum_append, List.map_singleton, List.sum_singleton, Nat.add_comm]
    rcases Nat.lt_succ_iff_lt_or_eq.mp inside with lower | rfl
    · cases set : f n with
      | false => rw [flagBit, if_neg Bool.false_ne_true, Nat.zero_add, ih lower]
      | true => rw [flagBit, if_pos rfl, Nat.testBit_two_pow_add_gt lower, ih lower]
    · cases set : f k with
      | false => rw [flagBit, if_neg Bool.false_ne_true, Nat.zero_add, Nat.testBit_lt_two_pow small]
      | true => rw [flagBit, if_pos rfl, Nat.testBit_two_pow_add_eq, Nat.testBit_lt_two_pow small, Bool.not_false]

/-- The per-kind defaults read back from their bits. -/
theorem defaultBits_reads {l : List Requirement} (six : l.length = 6) :
    ((List.range 6).map fun k => if (defaultBits l).testBit k then Requirement.required else .exempt) = l := by
  refine List.ext_getElem (by simp [six]) fun k inside present => ?_
  have bit : (defaultBits l).testBit k = decide (l.getD k .exempt = .required) :=
    testBit_sum_flagBits (fun k => decide (l.getD k .exempt = .required)) (by omega)
  rw [List.getElem_map, List.getElem_range, bit, List.getD_eq_getElem _ _ present]
  cases l[k] <;> rfl

theorem defaultBits_lt (l : List Requirement) : defaultBits l < 64 := sum_flagBits_lt _ 6

/-! ### Profile records -/

/-- One section's coefficients as five signed fields of four bytes. -/
def Coefficients.fields (c : Coefficients) : List (Nat × Nat) := [c.b0, c.b1, c.b2, c.a1, c.a2].map (signedField 4)

/-- The fields of a profile record, in the order of section 12.3. -/
def Profile.fields (p : Profile) : List (Nat × Nat) :=
  [(1, flagBit p.enabled 0), (1, p.channels.getD 0)] ++ ((List.range 6).map fun k => (2, p.weights.getD k 0)) ++
    p.section1.fields ++ p.section2.fields ++
    [signedField 1 p.offset, signedField 2 p.target, signedField 1 p.tolerance, signedField 1 p.advertMargin,
      signedField 2 p.advertCeiling, signedField 2 p.peakCeiling, signedField 2 p.gateOffset,
      signedField 2 p.silenceThreshold, (1, p.silenceLimit), (2, p.feedTimeout), (1, p.feedTolerance), (1, p.slotMask),
      (1, defaultBits p.kindDefaults), (1, p.carriageTimeout), (2, p.gapLimit), (2, p.coverageMinimum),
      (2, p.advertLimit), (1, flagBit p.countPromos 0), (1, flagBit p.recording 0), (2, p.retention),
      (1, flagBit p.strict 0), (2, p.evidenceMargin), (1, flagBit p.holdOnFail 0), (2, p.keepDays), (1, p.alarmMask)]

theorem packed_map {α : Type} (l : List α) (w : Nat) (f : α → Nat) :
    packed (l.map fun x => (w, f x)) = (l.map fun x => bytesOf w (f x)).flatten := by
  rw [packed, List.map_map]
  rfl

theorem packed_signed (w : Nat) (n : Int) (fields : List (Nat × Nat)) :
    packed (signedField w n :: fields) = signedBytes w n ++ packed fields := rfl

theorem encodeProfile_written (p : Profile) : WrittenFrom (encodeProfile p) p.fields := by
  refine ⟨37, ?_⟩
  unfold encodeProfile Profile.fields Coefficients.fields Coefficients.encode
  simp only [packed_append, packed_map, List.append_assoc]
  simp only [List.map_cons, List.map_nil, packed_cons, packed_signed, packed_nil]
  simp only [List.append_assoc, List.nil_append]

/-- The coefficients are signed numbers of four bytes (section 12.3). -/
def Coefficients.Fits (c : Coefficients) : Prop :=
  ∀ x ∈ [c.b0, c.b1, c.b2, c.a1, c.a2], -2147483648 ≤ x ∧ x ≤ 2147483647

theorem within_iff {lo hi n : Int} : within lo hi n = true ↔ lo ≤ n ∧ n ≤ hi := by simp [within]

/-- An unset channel count is written as 0, and no count is 0 (R98). -/
theorem readChannels {p : Profile} (ok : p.inRange = true) :
    (if fieldAt (encodeProfile p) 1 1 = 0 then none else some (fieldAt (encodeProfile p) 1 1)) = p.channels := by
  have count : ∀ c, p.channels = some c → 1 ≤ c ∧ c ≤ 6 := by
    intro c set
    simp only [Profile.inRange, Bool.and_eq_true, set, within_iff] at ok
    omega
  have small : p.channels.getD 0 < 256 := getD_lt (by decide) fun c set => by have := count c set; omega
  rw [(encodeProfile_written p).number (n := p.channels.getD 0) rfl small]
  cases set : p.channels with
  | none => rfl
  | some c => exact if_neg (by have := count c set; simp only [Option.getD_some]; omega)

theorem readWeights {p : Profile} (six : p.weights.length = 6) (small : ∀ w ∈ p.weights, w ≤ 512) :
    ((List.range 6).map fun k => fieldAt (encodeProfile p) (2 + 2 * k) 2) = p.weights := by
  refine List.ext_getElem (by simp [six]) fun k _ present => ?_
  have found : fieldIn p.fields (2 + 2 * k) 2 = some (p.weights.getD k 0) := by
    have inside : k < 6 := by omega
    interval_cases k <;> rfl
  have weight := small _ (List.getElem_mem present)
  rw [List.getD_eq_getElem _ _ present] at found
  rw [List.getElem_map, List.getElem_range]
  exact (encodeProfile_written p).number found (by omega)

theorem WrittenFrom.coefficients {record : List Byte} {fields : List (Nat × Nat)} (written : WrittenFrom record fields)
    {c : Coefficients} (fits : c.Fits) {offset : Nat} (b0 : fieldIn fields offset 4 = some (signedField 4 c.b0).2)
    (b1 : fieldIn fields (offset + 4) 4 = some (signedField 4 c.b1).2)
    (b2 : fieldIn fields (offset + 8) 4 = some (signedField 4 c.b2).2)
    (a1 : fieldIn fields (offset + 12) 4 = some (signedField 4 c.a1).2)
    (a2 : fieldIn fields (offset + 16) 4 = some (signedField 4 c.a2).2) : decodeCoefficients record offset = c := by
  simp only [Coefficients.Fits, List.forall_mem_cons] at fits
  obtain ⟨b0Fits, b1Fits, b2Fits, a1Fits, a2Fits, -⟩ := fits
  rw [decodeCoefficients, written.signed b0 (by omega) (by omega), written.signed b1 (by omega) (by omega),
    written.signed b2 (by omega) (by omega), written.signed a1 (by omega) (by omega),
    written.signed a2 (by omega) (by omega)]

/-- The tolerance is written as a signed number and read as a natural one. -/
theorem readTolerance {p : Profile} (least : 5 ≤ p.tolerance) (most : p.tolerance ≤ 50) :
    (fieldAt (encodeProfile p) 57 1 : Int) = p.tolerance := by
  have residue : (signedField 1 p.tolerance).2 = p.tolerance.toNat :=
    congrArg Int.toNat (Int.emod_eq_of_lt (by omega) (by omega))
  have found : fieldIn p.fields 57 1 = some p.tolerance.toNat := congrArg some residue
  rw [(encodeProfile_written p).number found (by omega)]
  exact Int.toNat_of_nonneg (by omega)

theorem readDefaults (p : Profile) : fieldAt (encodeProfile p) 72 1 = defaultBits p.kindDefaults :=
  (encodeProfile_written p).number rfl (Nat.lt_trans (defaultBits_lt _) (by decide))

theorem flagBit_le_one (b : Bool) : flagBit b 0 ≤ 1 := by cases b <;> decide

theorem profileMarksOk_encodeProfile (p : Profile) : profileMarksOk (encodeProfile p) = true := by
  have written := encodeProfile_written p
  have enabled := written.mark (offset := 0) (b := p.enabled) rfl
  have promos := written.mark (offset := 80) (b := p.countPromos) rfl
  have recording := written.mark (offset := 81) (b := p.recording) rfl
  have strict := written.mark (offset := 84) (b := p.strict) rfl
  have hold := written.mark (offset := 87) (b := p.holdOnFail) rfl
  simp only [profileMarksOk, List.all_cons, List.all_nil, enabled, promos, recording, strict, hold, readDefaults,
    flagBit_le_one, defaultBits_lt, decide_true, Bool.and_self]

theorem readProfile_encodeProfile {p : Profile} (ok : p.inRange = true) (fits1 : p.section1.Fits)
    (fits2 : p.section2.Fits) : readProfile (encodeProfile p) = p := by
  have written := encodeProfile_written p
  have channels := readChannels ok
  simp only [Profile.inRange, Bool.and_eq_true, decide_eq_true_eq, within_iff, List.all_eq_true, and_assoc] at ok
  obtain ⟨-, sixWeights, weights, ranges⟩ := ok
  have sixDefaults : p.kindDefaults.length = 6 := by omega
  have defaults : ((List.range 6).map fun k =>
      if (fieldAt (encodeProfile p) 72 1).testBit k then Requirement.required else .exempt) = p.kindDefaults := by
    rw [readDefaults, defaultBits_reads sixDefaults]
  have weightsRead := readWeights sixWeights fun w listed => by have := weights w listed; omega
  -- Both sides as records, field by field in the order of `Profile`.
  change readProfile (encodeProfile p) = { p with enabled := p.enabled }
  exact (Profile.mk.injEq ..).mpr ⟨written.flag rfl, channels, weightsRead,
    written.coefficients fits1 rfl rfl rfl rfl rfl, written.coefficients fits2 rfl rfl rfl rfl rfl,
    written.signed rfl (by omega) (by omega), written.signed rfl (by omega) (by omega),
    readTolerance (by omega) (by omega), written.signed rfl (by omega) (by omega),
    written.signed rfl (by omega) (by omega), written.signed rfl (by omega) (by omega),
    written.signed rfl (by omega) (by omega), written.signed rfl (by omega) (by omega),
    written.number rfl (by omega), written.number rfl (by omega), written.number rfl (by omega),
    written.number rfl (by omega), defaults, written.number rfl (by omega), written.number rfl (by omega),
    written.number rfl (by omega), written.number rfl (by omega), written.flag rfl, written.flag rfl,
    written.number rfl (by omega), written.flag rfl, written.number rfl (by omega), written.flag rfl,
    written.number rfl (by omega), written.number rfl (by omega)⟩

theorem decodeProfile_encodeProfile (p : Profile) (ok : p.inRange = true) (fits1 : p.section1.Fits)
    (fits2 : p.section2.Fits) : decodeProfile (encodeProfile p) = some p := by
  rw [decodeProfile, readProfile_encodeProfile ok fits1 fits2, profileMarksOk_encodeProfile, ok]
  rfl

/-- Settles O60: each record is its fields one after another, every value fits its width, and a trigger record is
refused on its ranges before its mark is read. -/
theorem archiveRecordsRoundTrip : Obligations.ArchiveRecordsRoundTrip := by
  unfold Obligations.ArchiveRecordsRoundTrip
  refine ⟨fun p ok fits => ?_, decodeTrigger_encodeTrigger, decodeTrigger_clear, fun _ => decodeTrigger_refuses,
    decodeHold_encodeHold⟩
  have both : ∀ x ∈ [p.section1.b0, p.section1.b1, p.section1.b2, p.section1.a1, p.section1.a2] ++
    [p.section2.b0, p.section2.b1, p.section2.b2, p.section2.a1, p.section2.a2],
      -2147483648 ≤ x ∧ x ≤ 2147483647 := fits
  obtain ⟨fits1, fits2⟩ := List.forall_mem_append.mp both
  exact decodeProfile_encodeProfile p ok fits1 fits2

end Sys2Proof.Machine
end
